-- ==== Sys2Proof/Word.lean ====
section
/-! DEFINITION. The one bit-vector word of this part: the byte that crosses the host link and the station link
(R189, R208). Everything the manual counts, measures or times is a `Nat` or an `Int`. -/

namespace Sys2Proof

/-- One byte of a frame (R204, R208). -/
abbrev Byte := BitVec 8

end Sys2Proof
end

