-- ==== Sys2Proof/Config.lean ====
section
/-! DEFINITION. The values the manual leaves open. Each is opaque: nothing can be proved of its value, so a claim
that holds holds whatever the part does. Each is applied to a number that `State.freeCtr` counts, so that two uses
need not agree. -/

namespace Sys2Proof.Config

/-- FREE VALUE (log 6). An unwind's response may carry a status byte that R208 gives no run state for; the run state then
recorded is unstated. -/
opaque unlistedRunState : Nat → Byte → Fin 3

/-- FREE VALUE (log 6). A splice table's response may carry a status byte that R208 gives no status for. -/
opaque unlistedTableStatus : Nat → Byte → Fin 5

/-- FREE VALUE (log 6). A renewal count lies in 0..15 (R163); what the part takes from a byte above 15 is unstated. -/
opaque renewalOutOfRange : Nat → Byte → Fin 16

/-- FREE VALUE (log 7). R117: the reading and the VALVE_FAULT or PROBE_FAULT code of one response "are taken in either
order". `true` takes the code first. -/
opaque codeBeforeReading : Nat → Bool

/-- FREE VALUE (log 8). R70 names "the HOST region with the lowest coordinate"; where a new HOST region and a HOST mark share
the lowest coordinate, which tag stays is unstated. `true` keeps the new region's tag. -/
opaque tieKeepsNewTag : Nat → Bool

/-- FREE VALUE (log 2). Several events of the part's own clock and transmitter may be due at once; R128, R135 and R156 take them
in either order. This picks one of them (modulo their number). -/
opaque pickDue : Nat → Nat

end Sys2Proof.Config
end

