-- ==== Sys2Proof/Syntax.lean ====
section
/-! DEFINITION. The commands of the part, one constructor for each row of spec/opcode_table.json. A request is a valid frame
of its kind (R190, R204): its tag and its payload bytes as received, so that every check of its rule, LENGTH included, is
made by the meaning. The other rows are events on the link, the sensor inputs, the motion lines, the station link and the
line clock; their operands are what the event itself reports. -/

namespace Sys2Proof

/-- The direction of an edge of the MARK or FOLD input (R46). -/
inductive Edge
  | rising
  | falling
  deriving DecidableEq, Repr, Inhabited

/-- One command of the part: a row of spec/opcode_table.json with its operands. -/
inductive Instr
  /-- POWER_ON_RESET (R201): the two strap pins (high is `true`, R189) and the GUARD and DEFECT input levels as they stand. -/
  | powerOnReset (strap1 strap0 guardIsOpen defectIsActive : Bool)
  /-- LINE_RESET (R202): the tag and the payload of the request frame. -/
  | lineReset (tag : BitVec 16) (payload : List Byte)
  /-- IDENTIFY (R200): the tag and the payload of the request frame. -/
  | identify (tag : BitVec 16) (payload : List Byte)
  /-- READ_STATUS (R200): the tag and the payload of the request frame. -/
  | readStatus (tag : BitVec 16) (payload : List Byte)
  /-- CONFIGURE_LINE (R197): the tag and the payload of the request frame. -/
  | configureLine (tag : BitVec 16) (payload : List Byte)
  /-- CONFIGURE_ZONES (R198): the tag and the payload of the request frame. -/
  | configureZones (tag : BitVec 16) (payload : List Byte)
  /-- CONFIGURE_ROLLS (R198): the tag and the payload of the request frame. -/
  | configureRolls (tag : BitVec 16) (payload : List Byte)
  /-- CONFIGURE_LINK (R199): the tag and the payload of the request frame. -/
  | configureLink (tag : BitVec 16) (payload : List Byte)
  /-- LOAD_PROFILE (R5): the tag and the payload of the request frame. -/
  | loadProfile (tag : BitVec 16) (payload : List Byte)
  /-- READ_PROFILE (R7): the tag and the payload of the request frame. -/
  | readProfile (tag : BitVec 16) (payload : List Byte)
  /-- OPEN_PATTERN (R12): the tag and the payload of the request frame. -/
  | openPattern (tag : BitVec 16) (payload : List Byte)
  /-- LOAD_STEPS (R13): the tag and the payload of the request frame. -/
  | loadSteps (tag : BitVec 16) (payload : List Byte)
  /-- CLOSE_PATTERN (R14): the tag and the payload of the request frame. -/
  | closePattern (tag : BitVec 16) (payload : List Byte)
  /-- DELETE_PATTERN (R21): the tag and the payload of the request frame. -/
  | deletePattern (tag : BitVec 16) (payload : List Byte)
  /-- READ_STEPS (R22): the tag and the payload of the request frame. -/
  | readSteps (tag : BitVec 16) (payload : List Byte)
  /-- QUEUE_JOB (R38): the tag and the payload of the request frame. -/
  | queueJob (tag : BitVec 16) (payload : List Byte)
  /-- CANCEL_JOB (R40): the tag and the payload of the request frame. -/
  | cancelJob (tag : BitVec 16) (payload : List Byte)
  /-- READ_JOBS (R41): the tag and the payload of the request frame. -/
  | readJobs (tag : BitVec 16) (payload : List Byte)
  /-- SET_PACE (R46): the tag and the payload of the request frame. -/
  | setPace (tag : BitVec 16) (payload : List Byte)
  /-- GO (R50): the tag and the payload of the request frame. -/
  | go (tag : BitVec 16) (payload : List Byte)
  /-- HOLD (R50): the tag and the payload of the request frame. -/
  | hold (tag : BitVec 16) (payload : List Byte)
  /-- RESUME (R51): the tag and the payload of the request frame. -/
  | resume (tag : BitVec 16) (payload : List Byte)
  /-- ABORT_PANEL (R52): the tag and the payload of the request frame. -/
  | abortPanel (tag : BitVec 16) (payload : List Byte)
  /-- STOP_LINE (R53): the tag and the payload of the request frame. -/
  | stopLine (tag : BitVec 16) (payload : List Byte)
  /-- REPORT_DEFECT (R74): the tag and the payload of the request frame. -/
  | reportDefect (tag : BitVec 16) (payload : List Byte)
  /-- READ_MARKS (R80): the tag and the payload of the request frame. -/
  | readMarks (tag : BitVec 16) (payload : List Byte)
  /-- READ_SEGMENTS (R100): the tag and the payload of the request frame. -/
  | readSegments (tag : BitVec 16) (payload : List Byte)
  /-- ZONE_COMMAND (R109): the tag and the payload of the request frame. -/
  | zoneCommand (tag : BitVec 16) (payload : List Byte)
  /-- READ_ZONES (R119): the tag and the payload of the request frame. -/
  | readZones (tag : BitVec 16) (payload : List Byte)
  /-- DECLARE_ROLL (R142): the tag and the payload of the request frame. -/
  | declareRoll (tag : BitVec 16) (payload : List Byte)
  /-- START_UNWIND (R143): the tag and the payload of the request frame. -/
  | startUnwind (tag : BitVec 16) (payload : List Byte)
  /-- CHANGE_ROLL (R148): the tag and the payload of the request frame. -/
  | changeRoll (tag : BitVec 16) (payload : List Byte)
  /-- ABORT_CHANGE (R154): the tag and the payload of the request frame. -/
  | abortChange (tag : BitVec 16) (payload : List Byte)
  /-- READ_ROLLS (R157): the tag and the payload of the request frame. -/
  | readRolls (tag : BitVec 16) (payload : List Byte)
  /-- SET_SCAN (R164): the tag and the payload of the request frame. -/
  | setScan (tag : BitVec 16) (payload : List Byte)
  /-- READ_STATIONS (R175): the tag and the payload of the request frame. -/
  | readStations (tag : BitVec 16) (payload : List Byte)
  /-- TAKE_REQUESTS (R174): the tag and the payload of the request frame. -/
  | takeRequests (tag : BitVec 16) (payload : List Byte)
  /-- READ_REPORTS (R181): the tag and the payload of the request frame. -/
  | readReports (tag : BitVec 16) (payload : List Byte)
  /-- RELEASE_REPORTS (R182): the tag and the payload of the request frame. -/
  | releaseReports (tag : BitVec 16) (payload : List Byte)
  /-- TAKE_EVENTS (R185): the tag and the payload of the request frame. -/
  | takeEvents (tag : BitVec 16) (payload : List Byte)
  /-- SET_NOTICES (R186): the tag and the payload of the request frame. -/
  | setNotices (tag : BitVec 16) (payload : List Byte)
  /-- UNKNOWN_KIND_REQUEST (R193): a request frame whose kind is below 0x80 and no request kind of the part. -/
  | unknownKindRequest (kind : Byte) (tag : BitVec 16) (payload : List Byte)
  /-- STRAY_FRAME (R191): a valid frame of kind 0x80 or above. -/
  | strayFrame
  /-- LINK_OVERRUN (R191): a request received while the receive buffer holds 4 requests. -/
  | linkOverrun
  /-- FRAME_CRC_ERROR (R190). -/
  | frameCrcError
  /-- FRAME_LENGTH_ERROR (R190). -/
  | frameLengthError
  /-- INTER_BYTE_GAP (R190): more than 2 ms between two bytes of a frame in progress. -/
  | interByteGap
  /-- MISSING_STOP_BIT (R190): a byte with a missing stop bit, while a frame is in progress or not. -/
  | missingStopBit (inFrame : Bool)
  /-- REPLY_END (R192): the last byte of a reply has been sent. -/
  | replyEnd
  /-- NOTICE_BEGIN (R187). -/
  | noticeBegin
  /-- SILENCE_TIMEOUT (R195). -/
  | silenceTimeout
  /-- MARK_EDGE (R47): an edge of the MARK input. -/
  | markEdge (edge : Edge)
  /-- PACE_EXPIRY (R47). -/
  | paceExpiry
  /-- FOLD_EDGE (R60): an edge of the FOLD input. -/
  | foldEdge (edge : Edge)
  /-- GUARD_OPEN (R63): the counts the feed encoder actually advanced in the feed it cuts short, and the distance in µm the
  belt drive actually advanced in the index it stops (R85). -/
  | guardOpen (fed moved : Nat)
  /-- GUARD_CLOSE (R63). -/
  | guardClose
  /-- FEED_DONE (R58). -/
  | feedDone
  /-- STROKE_DONE (R61). -/
  | strokeDone
  /-- WAIT_END (R59). -/
  | waitEnd
  /-- WASTE_WAIT_END (R55). -/
  | wasteWaitEnd
  /-- DEFECT_ACTIVE_EDGE (R72). -/
  | defectActiveEdge
  /-- DEFECT_INACTIVE_EDGE (R73). -/
  | defectInactiveEdge
  /-- BELT_DONE (R84). -/
  | beltDone
  /-- CUT_DONE (R97). -/
  | cutDone
  /-- SETTLE_EXPIRY (R113) of a zone. -/
  | settleExpiry (zone : Nat)
  /-- PURGE_DEADLINE (R122) of a zone. -/
  | purgeDeadline (zone : Nat)
  /-- FORCE_TIME (R125) of a zone. -/
  | forceTime (zone : Nat)
  /-- PURGE_END_TIME (R127) of a zone. -/
  | purgeEndTime (zone : Nat)
  /-- COMPARE_DEADLINE (R133). -/
  | compareDeadline
  /-- CALIBRATION_DUE (R130) of a zone. -/
  | calibrationDue (zone : Nat)
  /-- PHASE_DEADLINE (R153). -/
  | phaseDeadline
  /-- STATION_RESPONSE (R163): the bytes of a response received within the window. -/
  | stationResponse (bytes : List Byte)
  /-- RESPONSE_WINDOW_EXPIRY (R163). -/
  | responseWindowExpiry
  /-- NOTICE_END (R194): the last byte of a notice frame has been sent. -/
  | noticeEnd
  deriving DecidableEq, Repr

end Sys2Proof
end

