-- ==== Sys2Proof/Machine/State.lean ====
section
/-! DEFINITION. The state of the CL-406: one record for each block of 00_scope.md, every field at the width its rule gives
it. A value that the manual gives as absent in some states is an `Option`, or is carried by the constructor of the state
in which it is present. Items that the manual defines from others (load index, commanded coordinate, condition, the
STARVED and ZONE hold reasons, arm wait reasons, reference causes) are functions in Ops.lean, not fields. -/

namespace Sys2Proof.Machine

/-! ## Pattern Store (R2 to R22) -/

/-- The eight fields of a LOADED profile (R3). -/
structure Profile where
  setTemp     : Nat
  bandHalf    : Nat
  standbyDrop : Nat
  shrink      : Nat
  refTension  : Nat
  elasticity  : Nat
  minDwell    : Nat
  maxDwell    : Nat
  deriving DecidableEq, Repr

/-- The six kinds of a step record (R10). `loopBack` is REPEAT, `panelEnd` is END. -/
inductive StepKind
  | knife
  | box
  | inverted
  | spacer
  | loopBack
  | panelEnd
  deriving DecidableEq, Repr

/-- The confirm modes (R10, R61). -/
inductive Confirm
  | stop
  | ignore
  | retry
  | skip
  deriving DecidableEq, Repr

/-- A stored step record; the fields R10 marks absent for the kind are `none`. -/
structure StepRecord where
  kind       : StepKind
  graded     : Bool
  confirm    : Confirm
  face       : Option Nat
  depth      : Option Nat
  loopTarget : Option Nat
  loopCount  : Option Nat
  deriving DecidableEq, Repr

inductive PatternState
  | empty
  | loading
  | valid
  | invalid
  deriving DecidableEq, Repr

/-- The failure reasons of R8, in the order R20 prefers them. -/
inductive FailReason
  | noEnd
  | range
  | loop
  | profile
  | length
  deriving DecidableEq, Repr

/-- A pattern directory entry with its region of step memory (R8, R9): the stored records are the slots below the load
index, so the load index is their number. The failure pair is present in INVALID only. -/
structure PatternEntry where
  state     : PatternState
  profileId : Option Nat
  steps     : List StepRecord
  stepCount : Nat
  failure   : Option (Nat × FailReason)
  deriving DecidableEq, Repr

/-- The Pattern Store: entry `id - 1` of each table is the entry of that id. `none` is an EMPTY profile entry. -/
structure Pst where
  profiles : List (Option Profile)
  patterns : List PatternEntry
  deriving DecidableEq, Repr

/-! ## Panel Sequencer (R37 to R65) -/

/-- A job record (R37). -/
structure Job where
  jobId         : Nat
  patternId     : Nat
  panelCount    : Nat
  grade         : Nat
  panelsDone    : Nat
  cancelPending : Bool
  deriving DecidableEq, Repr

/-- The return points of R44, and the continue points of R51. `runFeed` is "the next step": its FEED has not begun. -/
inductive ReturnPoint
  | armed
  | wasteWait
  | runFeed
  | runWait
  deriving DecidableEq, Repr

/-- Fault reasons of SEQ (R42). -/
inductive SeqFaultReason
  | fold
  | guard
  | webEnd
  deriving DecidableEq, Repr

/-- State, phase, return point and fault reason of SEQ (R42): each is present in just the states R42 gives it. -/
inductive SeqMode
  | idle
  | armed
  | wasteFeed
  | wasteWait
  | runFeed
  | runWait
  | runStroke
  | holding (point : ReturnPoint)
  | fault (reason : SeqFaultReason)
  deriving DecidableEq, Repr

/-- The open panel (R42): its number, step pointer and loaded loop counters (REPEAT index, count). -/
structure OpenPanel where
  number   : Nat
  pointer  : Nat
  counters : List (Nat × Nat)
  deriving DecidableEq, Repr

inductive TriggerSource
  | command
  | pace
  | mark
  deriving DecidableEq, Repr

/-- The trigger settings (R46). -/
structure Triggers where
  source       : TriggerSource
  pacePeriod   : Nat
  markEdge     : Edge
  foldEdge     : Edge
  strokePeriod : Nat
  deriving DecidableEq, Repr

/-- What FCA answered for the step at the step pointer (R28, R31), and how far its stroke has come (R61). -/
structure StepRun where
  graded   : Nat
  interval : Nat
  stroked  : Bool
  retries  : Nat
  deriving DecidableEq, Repr

/-- What FCA answered for the waste chunk in progress (R34, R35). -/
structure ChunkRun where
  counts   : Nat
  index    : Nat
  interval : Nat
  deriving DecidableEq, Repr

/-- The blades the blade port strokes (R60). -/
inductive BladeStroke
  | single
  | pairedOut
  | pairedIn
  deriving DecidableEq, Repr

/-- Effects that wait for the current motion to complete (R49, R52, R53, R64). -/
structure Ending where
  abort  : Bool
  stop   : Bool
  webEnd : Bool
  deriving DecidableEq, Repr

structure Seq where
  jobs            : List Job
  mode            : SeqMode
  openPanel       : Option OpenPanel
  lastStrokeStart : Option Nat
  feedTotal       : Nat
  wasteTotal      : Nat
  hostHold        : Bool
  silentHold      : Bool
  rollHold        : Bool
  triggers        : Triggers
  paceTimer       : Option Nat
  ignoredTriggers : Nat
  markPending     : Bool
  guardIsOpen     : Bool
  /-- The feed port: the counts of the feed in progress. -/
  feedPort        : Option Nat
  /-- The blade port: the stroke in progress. -/
  bladePort       : Option BladeStroke
  foldEdges       : Nat
  step            : Option StepRun
  chunk           : Option ChunkRun
  wasteTarget     : Option Int
  ending          : Ending
  deriving DecidableEq, Repr

/-! ## Feed Calculator (R23) -/

structure Fca where
  residue      : Nat
  tension      : Int
  lastG        : Option Nat
  lastClamped  : Bool
  wasteResidue : Nat
  /-- The Lp held for the open panel (R30). -/
  panelLp      : Option Nat
  deriving DecidableEq, Repr

/-! ## Web Tracker (R66 to R82) -/

/-- A SPLICE carries its profile. A DEFECT carries the host tag, present exactly when its source is HOST, and its open flag
(R68). -/
inductive MarkKind
  | splice (profileId : Nat)
  | defect (hostTag : Option Nat) (isOpen : Bool)
  deriving DecidableEq, Repr

/-- A mark: its coordinate, the end it has taken (R68), and whether it has been reached (R76). -/
structure Mark where
  kind    : MarkKind
  coord   : Int
  stop    : Int
  reached : Bool
  deriving DecidableEq, Repr

structure Wtr where
  marks        : List Mark
  headFabric   : Option Nat
  defectActive : Bool
  closePending : Bool
  markLost     : Nat
  deriving DecidableEq, Repr

/-! ## Set Tracker (R83 to R101) -/

/-- The segment flags (R87), in the bit order of R206. -/
structure PanelFlags where
  aborted   : Bool
  foldMiss  : Bool
  splice    : Bool
  defect    : Bool
  setShort  : Bool
  setOver   : Bool
  purged    : Bool
  zoneFault : Bool
  compLimit : Bool
  deriving DecidableEq, Repr

/-- A set segment record (R87). -/
structure Segment where
  jobId       : Nat
  panelNumber : Nat
  patternId   : Nat
  profileId   : Nat
  finished    : Nat
  b0          : Nat
  b1          : Option Nat
  strokes     : Nat
  retries     : Nat
  foldsMissed : Nat
  rawCounts   : Nat
  flags       : PanelFlags
  leadNeeded  : Bool
  credit      : Nat
  exposure    : Nat
  minTemp     : Option Int
  maxTemp     : Option Int
  deriving DecidableEq, Repr

inductive CutKind
  | lead
  | tail
  deriving DecidableEq, Repr

/-- The cutter state and the offset the cutter port was given (R83, R96). The segment being cut is the oldest of the queue. -/
inductive Cutter
  | idle
  | cutting (kind : CutKind) (offset : Nat)
  deriving DecidableEq, Repr

structure Str where
  belt         : Nat
  pendingIdx   : List Nat
  /-- The belt port is driving the oldest pending request (R84). -/
  moving       : Bool
  segments     : List Segment
  lastEnd      : Option Nat
  cutter       : Cutter
  panelsBegun  : Nat
  reports      : Nat
  lastAccrual  : Option Nat
  deriving DecidableEq, Repr

/-! ## Zone Supervisor (R102 to R137) -/

inductive ZoneState
  | off
  | warming
  | ready
  | standby
  | purging
  | calibrating
  | fault
  deriving DecidableEq, Repr

/-- The return states of PURGING and CALIBRATING (R103). -/
inductive ZoneReturn
  | warming
  | ready
  | standby
  deriving DecidableEq, Repr

inductive SettleTimer
  | stopped
  | running (expiry : Nat)
  | settled
  deriving DecidableEq, Repr

/-- Fault causes of a zone (R116). -/
inductive ZoneCause
  | overtemp
  | station
  | valveFault
  | probeFault
  deriving DecidableEq, Repr

/-- A zone record (R103, R121, R129), with the occupancy STR last handed (R95). -/
structure Zone where
  state          : ZoneState
  setpoint       : Option Int
  limit          : Option Int
  lowering       : Bool
  corrected      : Option Int
  lastRaw        : Option Int
  offset         : Int
  calibrated     : Bool
  calLimit       : Bool
  ret            : Option ZoneReturn
  settle         : SettleTimer
  purgeDeadline  : Option Nat
  purgePending   : Bool
  purgeCount     : Nat
  faultCause     : Option ZoneCause
  forceTime      : Option Nat
  purgeEnd       : Option Nat
  calibrationDue : Option Nat
  occupied       : Bool
  deriving DecidableEq, Repr

inductive CalKind
  | long
  | short
  deriving DecidableEq, Repr

/-- The reference owner with the calibration kind and the compare deadline it holds (R129). `asked` tells whether the owner's
station has been polled, and so given COMPARE, since the hand-out: a compare done that answers an earlier poll belongs to no
calibration of this owner (R132, R135; log 31). -/
structure RefOwner where
  zone     : Nat
  kind     : CalKind
  deadline : Nat
  asked    : Bool
  deriving DecidableEq, Repr

/-- The Zone Supervisor: entry `i - 1` of `zones` is zone i. -/
structure Zsv where
  zones         : List Zone
  profile       : Option Nat
  settleTime    : Nat
  purgeInterval : Nat
  purgeDuration : Nat
  purgeGrace    : Nat
  recalInterval : Nat
  calQueue      : List Nat
  reference     : Option RefOwner
  deriving DecidableEq, Repr

/-! ## Station Link Master (R159 to R176) -/

inductive ScanMode
  | stopped
  | continuous
  | single
  deriving DecidableEq, Repr

inductive LinkState
  | online
  | missing
  | lost
  deriving DecidableEq, Repr

/-- The derived condition of a station (R166). -/
inductive Condition
  | fresh
  | stale
  | missing
  | lost
  deriving DecidableEq, Repr

/-- The roles of R159. -/
inductive Role
  | zone
  | unwind
  | table
  | accumulator
  | auxiliary
  deriving DecidableEq, Repr

/-- The readings of a good response (R163). -/
inductive Readings
  | zone (raw reference : Int)
  | unwind (remaining : Nat)
  | table
  | accumulator (stock tension : Nat)
  | auxiliary (bytes : List Byte)
  deriving DecidableEq, Repr

/-- The status byte and readings of the last good response (R166). -/
structure LastReading where
  status   : Byte
  readings : Readings
  deriving DecidableEq, Repr

/-- A station record (R166). -/
structure Station where
  state       : LinkState
  misses      : Nat
  recovery    : Nat
  missCounter : Nat
  crcErrors   : Nat
  lastRenewal : Option Nat
  unchanged   : Nat
  stale       : Bool
  lastCode    : Nat
  lastReading : Option LastReading
  deriving DecidableEq, Repr

/-- A station request record (R173). -/
structure StationRequest where
  station : Nat
  code    : Nat
  scan    : Nat
  deriving DecidableEq, Repr

/-- The scan state (R160): `toPoll` holds the station being polled and those still to be polled in the cycle in progress, and is
empty when none is; `enabled` is the enabled set the cycle fixed; `pollFrame` is the poll last sent (R208). -/
structure Slm where
  mode          : ScanMode
  toPoll        : List Nat
  enabled       : List Nat
  pollFrame     : List Byte
  lastStation   : Nat
  lossThreshold : Nat
  window        : Nat
  scanNumber    : Nat
  requests      : List StationRequest
  overflow      : Bool
  stations      : List Station
  deriving DecidableEq, Repr

/-! ## Roll Change Unit (R138 to R158) -/

inductive UnwindId
  | a
  | b
  deriving DecidableEq, Repr

inductive UnwindState
  | empty
  | loaded
  | ready
  | active
  | spent
  deriving DecidableEq, Repr

inductive RunState
  | stopped
  | running
  | atSpeed
  deriving DecidableEq, Repr

/-- The statuses of the splice table (R147). -/
inductive TableStatus
  | ready
  | pressing
  | spliced
  | cutting
  | cut
  deriving DecidableEq, Repr

/-- An unwind record (R138). -/
structure Unwind where
  state       : UnwindState
  profileId   : Option Nat
  rollTag     : Option Nat
  declared    : Option Nat
  remaining   : Option Nat
  runState    : Option RunState
  lowRaised   : Bool
  autoStarted : Bool
  deriving DecidableEq, Repr

/-- The accumulator record (R144). -/
structure Accumulator where
  stock   : Nat
  tension : Option Nat
  station : Condition
  starved : Bool
  deriving DecidableEq, Repr

/-- The roll settings (R144): lengths in mm and m, timeouts in s. -/
structure RollSettings where
  capacity     : Nat
  lowLimit     : Nat
  resumeLevel  : Nat
  spliceLevel  : Nat
  threshold    : Nat
  auto         : Bool
  fillingS     : Nat
  stoppingS    : Nat
  splicingS    : Nat
  cuttingS     : Nat
  restartingS  : Nat
  spliceLength : Nat
  deriving DecidableEq, Repr

/-- The change states other than IDLE (R147). -/
inductive ChangePhase
  | filling
  | stopping
  | splicing
  | cutting
  | restarting
  deriving DecidableEq, Repr

/-- The items of the change record present while a change is in progress (R147). -/
structure Change where
  phase     : ChangePhase
  old       : UnwindId
  new       : UnwindId
  deadline  : Nat
  automatic : Bool
  deriving DecidableEq, Repr

inductive ChangeOutcome
  | none
  | done
  | reverted
  | failed
  deriving DecidableEq, Repr

inductive ChangeCause
  | command
  | timeout
  | jam
  | station
  | removed
  | rollEnd
  | reset
  deriving DecidableEq, Repr

/-- The Roll Change Unit; `change = none` is the change state IDLE. `brakeSpent` is the model's own: LINE RESET has made an ACTIVE
unwind SPENT in the scan cycle in progress, whose remaining polls give it BRAKE (R176, log 29). -/
structure Rcu where
  unwindA      : Unwind
  unwindB      : Unwind
  acc          : Accumulator
  settings     : RollSettings
  change       : Option Change
  outcome      : ChangeOutcome
  outcomePhase : Option ChangePhase
  outcomeCause : Option ChangeCause
  brakeSpent   : Bool
  deriving DecidableEq, Repr

/-! ## Event Unit (R177 to R188) -/

inductive Verdict
  | good
  | reject
  deriving DecidableEq, Repr

/-- A panel report (R178). -/
structure Report where
  sequence    : Nat
  jobId       : Nat
  panelNumber : Nat
  patternId   : Nat
  profileId   : Nat
  rawCounts   : Nat
  finished    : Nat
  strokes     : Nat
  foldsMissed : Nat
  retries     : Nat
  flags       : PanelFlags
  credit      : Nat
  exposure    : Nat
  minTemp     : Option Int
  maxTemp     : Option Int
  verdict     : Verdict
  deriving DecidableEq, Repr

/-- The report ring (`none` is a FREE slot), the pending set and the notice enables as the 2-byte event-class sets of R206. -/
structure Evu where
  slots        : List (Option Report)
  writePos     : Nat
  filled       : Nat
  nextSeq      : Nat
  overrun      : Nat
  pendingSet   : BitVec 16
  enables      : BitVec 16
  noticeWanted : Bool
  deriving DecidableEq, Repr

/-! ## Host Link Port (R189 to R202) -/

/-- A request in the receive buffer: taken already, its reply payload formed and not yet sent (R192). -/
structure Answered where
  kind  : Byte
  tag   : BitVec 16
  reply : List Byte
  deriving DecidableEq, Repr

/-- The transmitter (R194): idle, or sending a frame, given as its bytes on the wire. -/
inductive Transmitter
  | idle
  | reply (frame : List Byte)
  | notice (frame : List Byte)
  deriving DecidableEq, Repr

structure Hlp where
  linkRate       : Nat
  buffer         : List Answered
  crcErrors      : Nat
  overruns       : Nat
  strays         : Nat
  silenceTimeout : Nat
  /-- STOPPED is `none`; RUNNING is its expiry time. -/
  silenceTimer   : Option Nat
  transmitter    : Transmitter
  deriving DecidableEq, Repr

/-- The nine parameters of CONFIGURE LINE (R197). -/
structure LineConfig where
  resolution    : Nat
  tunnel        : Nat
  zones         : Nat
  entry         : Nat
  cut           : Nat
  clearance     : Nat
  headOffset    : Nat
  inspectOffset : Nat
  tableOffset   : Nat
  deriving DecidableEq, Repr

/-- The whole machine. `line = none` is the configuration state UNCONFIGURED (R189, R196). `freeCtr` is the MODEL's own: it numbers
the uses of the free values of Config. `pending` is the queue of commands that wait, first in, first out. -/
structure State where
  clock   : Nat
  line    : Option LineConfig
  pst     : Pst
  seq     : Seq
  fca     : Fca
  wtr     : Wtr
  str     : Str
  zsv     : Zsv
  slm     : Slm
  rcu     : Rcu
  evu     : Evu
  hlp     : Hlp
  freeCtr : Nat
  pending : List Instr
  deriving DecidableEq, Repr

/-- No command of this part stops it: the manual gives every request a reply and every event an effect. The one constructor
is raised by nothing. -/
inductive Fault
  /-- Raised by no meaning: safe. -/
  | noFault
  deriving DecidableEq, Repr

inductive Refusal
  /-- Raised by an arm of `exec` whose command has no meaning yet: safe. No arm of this model does. -/
  | notModelled (mnemonic : String)
  deriving DecidableEq, Repr

/-! ## Power-on values -/

def PatternEntry.empty : PatternEntry :=
  { state := .empty, profileId := none, steps := [], stepCount := 0, failure := none }

def Zone.powerOn : Zone :=
  { state := .off, setpoint := none, limit := none, lowering := false, corrected := none, lastRaw := none, offset := 0
    calibrated := false, calLimit := false, ret := none, settle := .stopped, purgeDeadline := none, purgePending := false
    purgeCount := 0, faultCause := none, forceTime := none, purgeEnd := none, calibrationDue := none, occupied := false }

def Station.powerOn : Station :=
  { state := .lost, misses := 3, recovery := 0, missCounter := 0, crcErrors := 0, lastRenewal := none, unchanged := 0
    stale := false, lastCode := 0, lastReading := none }

def Unwind.powerOn : Unwind :=
  { state := .empty, profileId := none, rollTag := none, declared := none, remaining := none, runState := none
    lowRaised := false, autoStarted := false }

def PanelFlags.none : PanelFlags :=
  { aborted := false, foldMiss := false, splice := false, defect := false, setShort := false, setOver := false
    purged := false, zoneFault := false, compLimit := false }

def Ending.none : Ending := { abort := false, stop := false, webEnd := false }

def Pst.powerOn : Pst := { profiles := List.replicate 16 none, patterns := List.replicate 32 PatternEntry.empty }

def Triggers.powerOn : Triggers :=
  { source := .command, pacePeriod := 10000, markEdge := .rising, foldEdge := .rising, strokePeriod := 200 }

/-- SEQ after power-on (R42, R43, R46), with the GUARD input at a level. -/
def Seq.powerOn (guardIsOpen : Bool) : Seq :=
  { jobs := [], mode := .idle, openPanel := none, lastStrokeStart := none, feedTotal := 0, wasteTotal := 0
    hostHold := false, silentHold := false, rollHold := false, triggers := Triggers.powerOn, paceTimer := none
    ignoredTriggers := 0, markPending := false, guardIsOpen := guardIsOpen, feedPort := none, bladePort := none
    foldEdges := 0, step := none, chunk := none, wasteTarget := none, ending := Ending.none }

/-- The last column of R23. -/
def Fca.powerOn : Fca :=
  { residue := 500000000000, tension := 0, lastG := none, lastClamped := false, wasteResidue := 0, panelLp := none }

/-- R67, with the DEFECT input at a level. -/
def Wtr.powerOn (defectIsActive : Bool) : Wtr :=
  { marks := [], headFabric := none, defectActive := defectIsActive, closePending := false, markLost := 0 }

/-- The last column of R83. -/
def Str.powerOn : Str :=
  { belt := 0, pendingIdx := [], moving := false, segments := [], lastEnd := none, cutter := .idle, panelsBegun := 0
    reports := 0, lastAccrual := none }

/-- R102, R103, R121, R129. -/
def Zsv.powerOn : Zsv :=
  { zones := List.replicate 8 Zone.powerOn, profile := none, settleTime := 10000, purgeInterval := 300
    purgeDuration := 10, purgeGrace := 120, recalInterval := 0, calQueue := [], reference := none }

/-- R160, R166. -/
def Slm.powerOn : Slm :=
  { mode := .stopped, toPoll := [], enabled := [], pollFrame := [], lastStation := 12, lossThreshold := 3, window := 200
    scanNumber := 0, requests := [], overflow := false, stations := List.replicate 16 Station.powerOn }

/-- R138, R144, R147. -/
def Rcu.powerOn : Rcu :=
  { unwindA := Unwind.powerOn, unwindB := Unwind.powerOn
    acc := { stock := 0, tension := none, station := .lost, starved := true }
    settings :=
      { capacity := 12000, lowLimit := 1500, resumeLevel := 3000, spliceLevel := 9000, threshold := 100, auto := false
        fillingS := 30, stoppingS := 8, splicingS := 6, cuttingS := 2, restartingS := 10, spliceLength := 100 }
    change := none, outcome := .none, outcomePhase := none, outcomeCause := none, brakeSpent := false }

/-- R177, R184, R186, R187. -/
def Evu.powerOn : Evu :=
  { slots := List.replicate 8 none, writePos := 0, filled := 0, nextSeq := 0, overrun := 0, pendingSet := 0#16
    enables := 0#16, noticeWanted := false }

/-- The link rate of the strap table of R189, in bit/s. -/
def strapRate (strap1 strap0 : Bool) : Nat :=
  match strap1, strap0 with
  | false, false => 230400
  | false, true  => 460800
  | true,  false => 921600
  | true,  true  => 1843200

/-- R189, R201. -/
def Hlp.powerOn (linkRate : Nat) : Hlp :=
  { linkRate := linkRate, buffer := [], crcErrors := 0, overruns := 0, strays := 0, silenceTimeout := 0
    silenceTimer := none, transmitter := .idle }

/-- Power-on reset (R201) with the straps and the two level inputs as given. -/
def State.powerOn (strap1 strap0 guardIsOpen defectIsActive : Bool) : State :=
  { clock := 0, line := none, pst := Pst.powerOn, seq := Seq.powerOn guardIsOpen, fca := Fca.powerOn
    wtr := Wtr.powerOn defectIsActive, str := Str.powerOn, zsv := Zsv.powerOn, slm := Slm.powerOn, rcu := Rcu.powerOn
    evu := Evu.powerOn, hlp := Hlp.powerOn (strapRate strap1 strap0), freeCtr := 0, pending := [] }

/-- The part right after power-on. DESIGN CHOICE (log 1, unsafe): both straps low, GUARD closed, DEFECT inactive; the manual
takes them from pins. -/
def State.reset : State := State.powerOn false false false false

end Sys2Proof.Machine
end

