-- ==== Sys2Proof/Machine/Ops.lean ====
section
/-! DEFINITION. The operations every block shares: one named update per block of the state, the tables addressed by numbers
that count from 1, byte order (R1, R203), the CRC (R163, R204), raising an event class (R184, R187), and the views that
the manual defines from several blocks' state (head job, head coordinate, hold reasons, conditions). -/

namespace Sys2Proof.Machine

/-! ## Block updates -/

def State.onPst (s : State) (f : Pst → Pst) : State := { s with pst := f s.pst }
def State.onSeq (s : State) (f : Seq → Seq) : State := { s with seq := f s.seq }
def State.onFca (s : State) (f : Fca → Fca) : State := { s with fca := f s.fca }
def State.onWtr (s : State) (f : Wtr → Wtr) : State := { s with wtr := f s.wtr }
def State.onStr (s : State) (f : Str → Str) : State := { s with str := f s.str }
def State.onZsv (s : State) (f : Zsv → Zsv) : State := { s with zsv := f s.zsv }
def State.onSlm (s : State) (f : Slm → Slm) : State := { s with slm := f s.slm }
def State.onRcu (s : State) (f : Rcu → Rcu) : State := { s with rcu := f s.rcu }
def State.onEvu (s : State) (f : Evu → Evu) : State := { s with evu := f s.evu }
def State.onHlp (s : State) (f : Hlp → Hlp) : State := { s with hlp := f s.hlp }

/-- Count one use of a free value. -/
def State.useFree (s : State) : State := { s with freeCtr := s.freeCtr + 1 }

/-- An event of the line clock occurs when the clock has reached its time: the clock runs on to that time if it stands
before it. DESIGN CHOICE (log 2). -/
def State.reach (s : State) (time : Nat) : State := { s with clock := max s.clock time }

/-! ## Tables numbered from 1 -/

/-- The entry of number `n`, counting from 1. -/
def entryAt {α : Type} (l : List α) (n : Nat) : Option α :=
  match n with
  | 0 => none
  | k + 1 => l[k]?

/-- Change the entry of number `n`, counting from 1; a number with no entry changes nothing. -/
def modifyAt {α : Type} (l : List α) (n : Nat) (f : α → α) : List α :=
  match n with
  | 0 => l
  | k + 1 => l.modify k f

/-- Change the last entry of a list. -/
def modifyLast {α : Type} (f : α → α) : List α → List α
  | [] => []
  | [x] => [f x]
  | x :: y :: rest => x :: modifyLast f (y :: rest)

/-- A saturating counter (R1). -/
def saturating (limit n : Nat) : Nat := if n < limit then n + 1 else n

/-- Rounding up of a quotient (R1). -/
def ceilDiv (n d : Nat) : Nat := (n + d - 1) / d

/-! ## Bytes -/

/-- `v` in `n` bytes, most significant byte first (R1, R203). -/
def beBytes : Nat → Nat → List Byte
  | 0, _ => []
  | n + 1, v => BitVec.ofNat 8 (v / 256 ^ n) :: beBytes n v

/-- `v` in `n` bytes of two's complement (R203). -/
def beInt (n : Nat) (v : Int) : List Byte := beBytes n (v % (256 ^ n : Nat)).toNat

/-- An absent field of `n` bytes (R203). -/
def absentBytes (n : Nat) : List Byte := List.replicate n 0xFF#8

/-- A field whose absence is every byte 0xFF (R203). -/
def beOpt (n : Nat) : Option Nat → List Byte
  | some v => beBytes n v
  | none => absentBytes n

def beIntOpt (n : Nat) : Option Int → List Byte
  | some v => beInt n v
  | none => absentBytes n

/-- A field that a presence byte precedes (R205). -/
def presentBytes (n : Nat) : Option Nat → List Byte
  | some v => 1#8 :: beBytes n v
  | none => 0#8 :: List.replicate n 0#8

/-- A yes/no field (R203). -/
def yesNo (b : Bool) : Byte := if b then 1#8 else 0#8

/-- The number that bytes spell, most significant first. -/
def ofBytes (bs : List Byte) : Nat := bs.foldl (fun n b => n * 256 + b.toNat) 0

/-- The signed number that bytes spell in two's complement. -/
def ofBytesSigned (bs : List Byte) : Int :=
  if 2 * ofBytes bs < 256 ^ bs.length then (ofBytes bs : Int) else (ofBytes bs : Int) - (256 ^ bs.length : Nat)

/-- The number in the `n` bytes from an offset of a payload. -/
def fieldAt (payload : List Byte) (offset n : Nat) : Nat := ofBytes ((payload.drop offset).take n)

def fieldAtSigned (payload : List Byte) (offset n : Nat) : Int := ofBytesSigned ((payload.drop offset).take n)

/-- A list whose length varies: a one-byte count and the entries (R204). -/
def countedList {α : Type} (f : α → List Byte) (l : List α) : List Byte :=
  BitVec.ofNat 8 l.length :: l.flatMap f

/-! ## CRC-16, polynomial 0x1021, initial value 0xFFFF (R163, R204) -/

/-- One shift of the CRC register. -/
def crcShift (r : BitVec 16) : BitVec 16 := if r.msb then (r <<< 1) ^^^ 0x1021#16 else r <<< 1

/-- A byte enters the register most significant bit first. -/
def crcByte (r : BitVec 16) (b : Byte) : BitVec 16 :=
  crcShift (crcShift (crcShift (crcShift (crcShift (crcShift (crcShift (crcShift (r ^^^ (b.zeroExtend 16 <<< 8)))))))))

def crc16 (bs : List Byte) : BitVec 16 := bs.foldl crcByte 0xFFFF#16

/-- The two CRC bytes, as sent. -/
def crcBytes (bs : List Byte) : List Byte := beBytes 2 (crc16 bs).toNat

/-- A frame on the host link (R204). -/
def hostFrame (kind : Byte) (tag : BitVec 16) (payload : List Byte) : List Byte :=
  let body := beBytes 2 payload.length ++ [kind] ++ beBytes 2 tag.toNat ++ payload
  [0x5A#8] ++ body ++ crcBytes body

/-! ## Statuses (R193, R207) -/

inductive Status
  | ok | clamped | state | range | inUse | full | noSuch | unknown | length | invalid | mismatch | unconfigured
  deriving DecidableEq, Repr

def Status.code : Status → Byte
  | .ok => 0x00#8
  | .clamped => 0x01#8
  | .state => 0x02#8
  | .range => 0x03#8
  | .inUse => 0x04#8
  | .full => 0x05#8
  | .noSuch => 0x06#8
  | .unknown => 0x07#8
  | .length => 0x08#8
  | .invalid => 0x09#8
  | .mismatch => 0x0A#8
  | .unconfigured => 0x0B#8

/-- A reply of a status and nothing else. -/
def statusOnly (st : Status) : List Byte := [st.code]

/-! ## Event classes (R184, R206) -/

inductive EventClass
  | panelReport | reportOverrun | jobDone | seqHold | seqFault | zoneReady | zoneFault | purgeForced
  | calDone | rollLow | changeDone | changeAbort | stationLost | stationRequest | markLost | linkSilent
  deriving DecidableEq, Repr

/-- The bit of a class in the event-class set (R206). -/
def EventClass.bit : EventClass → Nat
  | .panelReport => 0
  | .reportOverrun => 1
  | .jobDone => 2
  | .seqHold => 3
  | .seqFault => 4
  | .zoneReady => 5
  | .zoneFault => 6
  | .purgeForced => 7
  | .calDone => 8
  | .rollLow => 9
  | .changeDone => 10
  | .changeAbort => 11
  | .stationLost => 12
  | .stationRequest => 13
  | .markLost => 14
  | .linkSilent => 15

/-- The event-class set that holds one class. -/
def EventClass.mask (c : EventClass) : BitVec 16 := BitVec.twoPow 16 c.bit

/-- A cause of a class (R184): the class becomes pending, and a notice is called for when it was not pending and is enabled
(R187). -/
def Evu.raise (c : EventClass) (e : Evu) : Evu :=
  { e with
    pendingSet := e.pendingSet ||| c.mask
    noticeWanted := e.noticeWanted || (e.enables.getLsbD c.bit && !e.pendingSet.getLsbD c.bit) }

def State.raise (s : State) (c : EventClass) : State := s.onEvu (Evu.raise c)

/-! ## Views over several blocks -/

def State.configured (s : State) : Bool := s.line.isSome

/-- Encoder resolution R; 0 before the first CONFIGURE LINE, so that every offset count is 0 (R82). -/
def State.resolution (s : State) : Nat := (s.line.map LineConfig.resolution).getD 0
def State.tunnel (s : State) : Nat := (s.line.map LineConfig.tunnel).getD 0
/-- Z (R102). Before the first CONFIGURE LINE no zone station is enabled (R159); that READ ZONES then shows Z as 0 is a
DESIGN CHOICE (log 38). -/
def State.zoneCount (s : State) : Nat := (s.line.map LineConfig.zones).getD 0
def State.entryDistance (s : State) : Nat := (s.line.map LineConfig.entry).getD 0
def State.cutDistance (s : State) : Nat := (s.line.map LineConfig.cut).getD 0

/-- Millimetres as feed counts (R1). -/
def State.counts (s : State) (mm : Nat) : Nat := mm * s.resolution / 1000

def State.headOffsetCounts (s : State) : Nat := s.counts ((s.line.map LineConfig.headOffset).getD 0)
def State.inspectOffsetCounts (s : State) : Nat := s.counts ((s.line.map LineConfig.inspectOffset).getD 0)
def State.tableOffsetCounts (s : State) : Nat := s.counts ((s.line.map LineConfig.tableOffset).getD 0)
def State.clearanceCounts (s : State) : Nat := s.counts ((s.line.map LineConfig.clearance).getD 0)

/-- Pleat head coordinate (R66). -/
def State.headCoord (s : State) : Int := (s.seq.feedTotal : Int) - s.headOffsetCounts
/-- Inspection coordinate (R66). -/
def State.inspectCoord (s : State) : Int := (s.seq.feedTotal : Int) + s.inspectOffsetCounts
/-- Splice table coordinate (R66). -/
def State.tableCoord (s : State) : Int :=
  (s.seq.feedTotal : Int) + s.counts s.rcu.acc.stock + s.tableOffsetCounts

def Pst.profile (p : Pst) (id : Nat) : Option Profile := (entryAt p.profiles id).join
def Pst.pattern (p : Pst) (id : Nat) : PatternEntry := (entryAt p.patterns id).getD PatternEntry.empty

/-- The load index is the number of stored records (R8, R9). -/
def PatternEntry.loadIndex (e : PatternEntry) : Nat := e.steps.length

def State.headJob (s : State) : Option Job := s.seq.jobs.head?
/-- The profile id named by the head job's pattern (R37). -/
def State.headJobProfileId (s : State) : Option Nat :=
  s.headJob.bind fun j => (s.pst.pattern j.patternId).profileId
def State.headJobProfile (s : State) : Option Profile := s.headJobProfileId.bind s.pst.profile
def State.headJobSteps (s : State) : List StepRecord :=
  (s.headJob.map fun j => (s.pst.pattern j.patternId).steps).getD []
def State.headJobGrade (s : State) : Nat := (s.headJob.map Job.grade).getD 10000

def State.zone (s : State) (i : Nat) : Zone := (entryAt s.zsv.zones i).getD Zone.powerOn
/-- The configured zones 1..Z (R102). -/
def State.zoneNumbers (s : State) : List Nat := List.range' 1 s.zoneCount
def State.onZone (s : State) (i : Nat) (f : Zone → Zone) : State :=
  s.onZsv fun z => { z with zones := modifyAt z.zones i f }

def State.allZonesOff (s : State) : Bool := s.zoneNumbers.all fun i => (s.zone i).state == .off
def State.anyZoneFault (s : State) : Bool := s.zoneNumbers.any fun i => (s.zone i).state == .fault

def State.station (s : State) (n : Nat) : Station := (entryAt s.slm.stations n).getD Station.powerOn
def State.onStation (s : State) (n : Nat) (f : Station → Station) : State :=
  s.onSlm fun m => { m with stations := modifyAt m.stations n f }

/-- The condition derived from the state and STALE (R166). -/
def Station.condition (st : Station) : Condition :=
  match st.state with
  | .lost => .lost
  | .missing => .missing
  | .online => if st.stale then .stale else .fresh

def State.stationFresh (s : State) (n : Nat) : Bool := (s.station n).condition == .fresh
def State.stationLost (s : State) (n : Nat) : Bool := (s.station n).state == .lost

/-- The commanded coordinate (R83). -/
def Str.commanded (t : Str) : Nat := t.belt + t.pendingIdx.sum

/-- A reason is present (R43): STARVED and ZONE follow conditions of RCU and ZSV. -/
structure HoldReasons where
  host    : Bool
  starved : Bool
  silent  : Bool
  zone    : Bool
  roll    : Bool
  deriving DecidableEq, Repr

def State.holdReasons (s : State) : HoldReasons :=
  { host := s.seq.hostHold, starved := s.rcu.acc.starved, silent := s.seq.silentHold, zone := s.anyZoneFault
    roll := s.seq.rollHold }

def HoldReasons.any (h : HoldReasons) : Bool := h.host || h.starved || h.silent || h.zone || h.roll

/-- SEQ is held by some reason. -/
def State.held (s : State) : Bool := s.holdReasons.any

def Rcu.unwind (r : Rcu) : UnwindId → Unwind
  | .a => r.unwindA
  | .b => r.unwindB

def Rcu.onUnwind (r : Rcu) (u : UnwindId) (f : Unwind → Unwind) : Rcu :=
  match u with
  | .a => { r with unwindA := f r.unwindA }
  | .b => { r with unwindB := f r.unwindB }

def UnwindId.other : UnwindId → UnwindId
  | .a => .b
  | .b => .a

/-- Unwinds A and B are stations 9 and 10 (R159). -/
def UnwindId.station : UnwindId → Nat
  | .a => 9
  | .b => 10

/-- The unwind whose record is ACTIVE (R138). -/
def Rcu.activeUnwind (r : Rcu) : Option UnwindId :=
  if r.unwindA.state = .active then some .a else if r.unwindB.state = .active then some .b else none

/-- The extent ends of a mark seen now (R68): an open mark reaches at least the inspection coordinate. -/
def Mark.isOpen (m : Mark) : Bool :=
  match m.kind with
  | .defect _ o => o
  | .splice _ => false

def Mark.isSplice (m : Mark) : Bool :=
  match m.kind with
  | .splice _ => true
  | .defect _ _ => false

def Mark.endAt (inspect : Int) (m : Mark) : Int :=
  if m.isOpen then max (max (m.coord + 1) inspect) m.stop else m.stop

def Wtr.spliceCount (w : Wtr) : Nat := w.marks.countP Mark.isSplice
def Wtr.defectCount (w : Wtr) : Nat := w.marks.countP fun m => !m.isSplice

/-- The reference causes of a profile (R4); an EMPTY profile has none. -/
structure References where
  job     : Bool
  zones   : Bool
  roll    : Bool
  splice  : Bool
  head    : Bool
  segment : Bool
  deriving DecidableEq, Repr

def References.any (r : References) : Bool := r.job || r.zones || r.roll || r.splice || r.head || r.segment

/-- An unwind record in READY or ACTIVE references the profile it names (R4). -/
def Unwind.references (u : Unwind) (id : Nat) : Bool :=
  (u.state == .ready || u.state == .active) && u.profileId == some id

def State.references (s : State) (id : Nat) : References :=
  let loaded := (s.pst.profile id).isSome
  { job := loaded && s.seq.jobs.any fun j => (s.pst.pattern j.patternId).profileId == some id
    zones := loaded && s.zsv.profile == some id && !s.allZonesOff
    roll := loaded && (s.rcu.unwindA.references id || s.rcu.unwindB.references id)
    splice := loaded && s.wtr.marks.any fun m => m.kind == .splice id
    head := loaded && s.wtr.headFabric == some id
    segment := loaded && s.str.segments.any fun g => g.profileId == id }

/-- A pattern named by a queued job is locked (R11). -/
def State.locked (s : State) (patternId : Nat) : Bool := s.seq.jobs.any fun j => j.patternId == patternId

end Sys2Proof.Machine
end

