-- ==== Sys2Proof/Decode.lean ====
section
/-! DEFINITION. How frames name commands: the request kinds (R207), the receiver byte by byte (R190, R204) and the frame
of a request. spec/opcode_table.json gives its rows no bits, so no word spells a command. -/

namespace Sys2Proof

open Machine

/-- No row of the table has bits (log 3). -/
def decodeTableWord (_nbits _w : Nat) : Option Instr := none

/-- The request that a valid frame of a kind is (R190, R191, R207): a kind of 0x80 or above is stray, any other kind is a
request, of an unknown kind where R207 lists none. -/
def commandOf (kind : Byte) (tag : BitVec 16) (payload : List Byte) : Instr :=
  if kind.toNat ≥ 0x80 then .strayFrame
  else
    match kind with
    | 0x01#8 => .identify tag payload
    | 0x02#8 => .readStatus tag payload
    | 0x03#8 => .configureLine tag payload
    | 0x04#8 => .configureZones tag payload
    | 0x05#8 => .configureRolls tag payload
    | 0x06#8 => .configureLink tag payload
    | 0x07#8 => .lineReset tag payload
    | 0x10#8 => .loadProfile tag payload
    | 0x11#8 => .readProfile tag payload
    | 0x12#8 => .openPattern tag payload
    | 0x13#8 => .loadSteps tag payload
    | 0x14#8 => .closePattern tag payload
    | 0x15#8 => .deletePattern tag payload
    | 0x16#8 => .readSteps tag payload
    | 0x20#8 => .queueJob tag payload
    | 0x21#8 => .cancelJob tag payload
    | 0x22#8 => .readJobs tag payload
    | 0x23#8 => .setPace tag payload
    | 0x24#8 => .go tag payload
    | 0x25#8 => .hold tag payload
    | 0x26#8 => .resume tag payload
    | 0x27#8 => .abortPanel tag payload
    | 0x28#8 => .stopLine tag payload
    | 0x30#8 => .reportDefect tag payload
    | 0x31#8 => .readMarks tag payload
    | 0x38#8 => .readSegments tag payload
    | 0x40#8 => .zoneCommand tag payload
    | 0x41#8 => .readZones tag payload
    | 0x50#8 => .declareRoll tag payload
    | 0x51#8 => .startUnwind tag payload
    | 0x52#8 => .changeRoll tag payload
    | 0x53#8 => .abortChange tag payload
    | 0x54#8 => .readRolls tag payload
    | 0x60#8 => .setScan tag payload
    | 0x61#8 => .readStations tag payload
    | 0x62#8 => .takeRequests tag payload
    | 0x68#8 => .readReports tag payload
    | 0x69#8 => .releaseReports tag payload
    | 0x6A#8 => .takeEvents tag payload
    | 0x6B#8 => .setNotices tag payload
    | k => .unknownKindRequest k tag payload

/-- The kind, tag and payload of a request (R204, R207); the events have none. -/
def requestOf : Instr → Option (Byte × BitVec 16 × List Byte)
  | .identify t p => some (0x01#8, t, p)
  | .readStatus t p => some (0x02#8, t, p)
  | .configureLine t p => some (0x03#8, t, p)
  | .configureZones t p => some (0x04#8, t, p)
  | .configureRolls t p => some (0x05#8, t, p)
  | .configureLink t p => some (0x06#8, t, p)
  | .lineReset t p => some (0x07#8, t, p)
  | .loadProfile t p => some (0x10#8, t, p)
  | .readProfile t p => some (0x11#8, t, p)
  | .openPattern t p => some (0x12#8, t, p)
  | .loadSteps t p => some (0x13#8, t, p)
  | .closePattern t p => some (0x14#8, t, p)
  | .deletePattern t p => some (0x15#8, t, p)
  | .readSteps t p => some (0x16#8, t, p)
  | .queueJob t p => some (0x20#8, t, p)
  | .cancelJob t p => some (0x21#8, t, p)
  | .readJobs t p => some (0x22#8, t, p)
  | .setPace t p => some (0x23#8, t, p)
  | .go t p => some (0x24#8, t, p)
  | .hold t p => some (0x25#8, t, p)
  | .resume t p => some (0x26#8, t, p)
  | .abortPanel t p => some (0x27#8, t, p)
  | .stopLine t p => some (0x28#8, t, p)
  | .reportDefect t p => some (0x30#8, t, p)
  | .readMarks t p => some (0x31#8, t, p)
  | .readSegments t p => some (0x38#8, t, p)
  | .zoneCommand t p => some (0x40#8, t, p)
  | .readZones t p => some (0x41#8, t, p)
  | .declareRoll t p => some (0x50#8, t, p)
  | .startUnwind t p => some (0x51#8, t, p)
  | .changeRoll t p => some (0x52#8, t, p)
  | .abortChange t p => some (0x53#8, t, p)
  | .readRolls t p => some (0x54#8, t, p)
  | .setScan t p => some (0x60#8, t, p)
  | .readStations t p => some (0x61#8, t, p)
  | .takeRequests t p => some (0x62#8, t, p)
  | .readReports t p => some (0x68#8, t, p)
  | .releaseReports t p => some (0x69#8, t, p)
  | .takeEvents t p => some (0x6A#8, t, p)
  | .setNotices t p => some (0x6B#8, t, p)
  | .unknownKindRequest k t p => some (k, t, p)
  | .powerOnReset _ _ _ _ | .strayFrame | .linkOverrun | .frameCrcError | .frameLengthError | .interByteGap
  | .missingStopBit _ | .replyEnd | .noticeBegin | .silenceTimeout | .markEdge _ | .paceExpiry | .foldEdge _
  | .guardOpen _ _ | .guardClose | .feedDone | .strokeDone | .waitEnd | .wasteWaitEnd | .defectActiveEdge
  | .defectInactiveEdge | .beltDone | .cutDone | .settleExpiry _ | .purgeDeadline _ | .forceTime _ | .purgeEndTime _
  | .compareDeadline | .calibrationDue _ | .phaseDeadline | .stationResponse _ | .responseWindowExpiry | .noticeEnd => none

/-! ## The receiver (R190) -/

/-- What the receiver holds between two bytes: it hunts for a start byte, or a frame is in progress, with its bytes after the
start byte. -/
inductive Receiver
  | hunting
  | inFrame (got : List Byte)
  deriving DecidableEq, Repr

/-- A byte on the link: whether more than 2 ms passed since the byte before it, and whether its stop bit is missing. -/
structure Arrival where
  byte   : Byte
  late   : Bool
  noStop : Bool
  deriving DecidableEq, Repr

/-- A byte in time with its stop bit. -/
def Arrival.plain (b : Byte) : Arrival := { byte := b, late := false, noStop := false }

/-- A byte while no frame is in progress: 0x5A begins one, and any other byte, or one with a missing stop bit, is passed over. -/
def huntByte (a : Arrival) : Receiver × List Instr :=
  if a.noStop then (.hunting, [.missingStopBit false])
  else if a.byte = 0x5A#8 then (.inFrame [], [])
  else (.hunting, [])

/-- The frame in progress with its newest byte: discarded at a length above 1,024; judged by its CRC once it is whole; in
progress until then. -/
def growFrame (body : List Byte) : Receiver × List Instr :=
  let n := fieldAt body 0 2
  if body.length < 2 then (.inFrame body, [])
  else if 1024 < n then (.hunting, [.frameLengthError])
  else if body.length < n + 7 then (.inFrame body, [])
  else if fieldAt body (n + 5) 2 ≠ (crc16 (body.take (n + 5))).toNat then (.hunting, [.frameCrcError])
  else (.hunting, [commandOf (body.getD 2 0#8) (BitVec.ofNat 16 (fieldAt body 3 2)) ((body.drop 5).take n)])

/-- One byte: what the receiver then holds, and the commands it brings about. A frame that a gap or a missing stop bit cuts
short is incomplete; the byte that ended a gap is itself hunted. -/
def Receiver.take (a : Arrival) : Receiver → Receiver × List Instr
  | .hunting => huntByte a
  | .inFrame got =>
    if a.late then ((huntByte a).1, .interByteGap :: (huntByte a).2)
    else if a.noStop then (.hunting, [.missingStopBit true])
    else growFrame (got ++ [a.byte])

/-- A run of bytes: what the receiver holds after them, and the commands in the order they come about. -/
def Receiver.receive : Receiver → List Arrival → Receiver × List Instr
  | r, [] => (r, [])
  | r, a :: rest => (((r.take a).1.receive rest).1, (r.take a).2 ++ ((r.take a).1.receive rest).2)

/-- The commands that bytes sent without a gap bring about, from a receiver that hunts, as it does after power-on (R201). -/
def commandsOf (bytes : List Byte) : List Instr := (Receiver.hunting.receive (bytes.map Arrival.plain)).2

/-- The frame a host sends for a request (R204). -/
def frameOf (i : Instr) : Option (List Byte) := (requestOf i).map fun r => hostFrame r.1 r.2.1 r.2.2

end Sys2Proof
end

