-- ==== Sys2Proof/Machine/Operands.lean ====
section
/-! DEFINITION. What a received payload spells and how each enumeration is coded (R203 to R208). A reader answers `none` where
the byte names no value of its list; the message's own check then refuses RANGE (R203). -/

namespace Sys2Proof.Machine

/-! ## Enumerations of requests -/

/-- A yes/no byte (R203). -/
def yesNoOf (b : Byte) : Option Bool := if b = 1#8 then some true else if b = 0#8 then some false else none

def StepKind.code : StepKind → Byte
  | .knife => 1#8 | .box => 2#8 | .inverted => 3#8 | .spacer => 4#8 | .loopBack => 5#8 | .panelEnd => 6#8

def StepKind.ofCode (b : Byte) : Option StepKind :=
  if b = 1#8 then some .knife else if b = 2#8 then some .box else if b = 3#8 then some .inverted
  else if b = 4#8 then some .spacer else if b = 5#8 then some .loopBack else if b = 6#8 then some .panelEnd else none

def Confirm.code : Confirm → Byte
  | .stop => 1#8 | .ignore => 2#8 | .retry => 3#8 | .skip => 4#8

def Confirm.ofCode (b : Byte) : Option Confirm :=
  if b = 1#8 then some .stop else if b = 2#8 then some .ignore else if b = 3#8 then some .retry
  else if b = 4#8 then some .skip else none

def TriggerSource.code : TriggerSource → Byte
  | .command => 1#8 | .pace => 2#8 | .mark => 3#8

def TriggerSource.ofCode (b : Byte) : Option TriggerSource :=
  if b = 1#8 then some .command else if b = 2#8 then some .pace else if b = 3#8 then some .mark else none

def edgeCode : Edge → Byte
  | .rising => 1#8 | .falling => 2#8

def edgeOf (b : Byte) : Option Edge := if b = 1#8 then some .rising else if b = 2#8 then some .falling else none

def UnwindId.code : UnwindId → Byte
  | .a => 1#8 | .b => 2#8

def UnwindId.ofCode (b : Byte) : Option UnwindId := if b = 1#8 then some .a else if b = 2#8 then some .b else none

def ScanMode.code : ScanMode → Byte
  | .stopped => 1#8 | .continuous => 2#8 | .single => 3#8

def ScanMode.ofCode (b : Byte) : Option ScanMode :=
  if b = 1#8 then some .stopped else if b = 2#8 then some .continuous else if b = 3#8 then some .single else none

/-- The actions of ZONE COMMAND (R109). -/
inductive ZoneAction
  | warm | standby | off | calibrate | purge
  deriving DecidableEq, Repr

def ZoneAction.ofCode (b : Byte) : Option ZoneAction :=
  if b = 1#8 then some .warm else if b = 2#8 then some .standby else if b = 3#8 then some .off
  else if b = 4#8 then some .calibrate else if b = 5#8 then some .purge else none

/-- The byte at an offset of a payload. -/
def byteAt (payload : List Byte) (offset : Nat) : Byte := payload.getD offset 0#8

/-! ## Records -/

/-- The profile record (R206) in 22 bytes. -/
def Profile.ofBytes (bs : List Byte) : Profile :=
  { setTemp := fieldAt bs 0 2, bandHalf := fieldAt bs 2 2, standbyDrop := fieldAt bs 4 2, shrink := fieldAt bs 6 4
    refTension := fieldAt bs 10 2, elasticity := fieldAt bs 12 1, minDwell := fieldAt bs 14 4
    maxDwell := fieldAt bs 18 4 }

/-- The temperatures of a profile record are signed fields (R205); the ranges of R3 leave out every negative one. -/
def Profile.inRange (p : Profile) : Bool :=
  decide (9000 ≤ p.setTemp ∧ p.setTemp ≤ 18000 ∧ 50 ≤ p.bandHalf ∧ p.bandHalf ≤ 1000 ∧ 500 ≤ p.standbyDrop
    ∧ p.standbyDrop ≤ 5000 ∧ p.shrink ≤ 150000 ∧ p.refTension ≤ 10000 ∧ p.elasticity ≤ 200 ∧ 1000 ≤ p.minDwell
    ∧ p.minDwell ≤ 600000 ∧ p.minDwell ≤ p.maxDwell ∧ p.maxDwell ≤ 1800000)

def Profile.toBytes (p : Profile) : List Byte :=
  beBytes 2 p.setTemp ++ beBytes 2 p.bandHalf ++ beBytes 2 p.standbyDrop ++ beBytes 4 p.shrink ++ beBytes 2 p.refTension
    ++ beBytes 1 p.elasticity ++ [0#8] ++ beBytes 4 p.minDwell ++ beBytes 4 p.maxDwell

/-- The profile record of an EMPTY entry: every field absent, the unused byte 0 (R203, R206). -/
def absentProfileBytes : List Byte := absentBytes 13 ++ [0#8] ++ absentBytes 8

/-- A kind takes face and depth (R10). -/
def StepKind.forming : StepKind → Bool
  | .knife | .box | .inverted | .spacer => true
  | .loopBack | .panelEnd => false

/-- A step record in 16 bytes (R206); the fields R10 marks absent for the kind are stored absent. -/
def StepRecord.ofBytes (bs : List Byte) : Option StepRecord :=
  match StepKind.ofCode (byteAt bs 0), Confirm.ofCode (byteAt bs 2) with
  | some k, some c =>
    some
      { kind := k, graded := (byteAt bs 1).getLsbD 0, confirm := c
        face := if k.forming then some (fieldAt bs 4 4) else none
        depth := if k.forming then some (fieldAt bs 8 4) else none
        loopTarget := if k = .loopBack then some (fieldAt bs 12 1) else none
        loopCount := if k = .loopBack then some (fieldAt bs 13 1) else none }
  | _, _ => none

def StepRecord.toBytes (r : StepRecord) : List Byte :=
  [r.kind.code, yesNo r.graded, r.confirm.code, 0#8] ++ beOpt 4 r.face ++ beOpt 4 r.depth ++ beOpt 1 r.loopTarget
    ++ beOpt 1 r.loopCount ++ [0#8, 0#8]

/-- Cut a run of bytes into step records of 16 bytes each; `none` where one of them names no kind or no confirm mode. -/
def stepRecordsOf : Nat → List Byte → Option (List StepRecord)
  | 0, _ => some []
  | n + 1, bs =>
    match StepRecord.ofBytes (bs.take 16), stepRecordsOf n (bs.drop 16) with
    | some r, some rest => some (r :: rest)
    | _, _ => none

/-- The parameters of CONFIGURE LINE in 33 bytes (R197, R205). -/
def LineConfig.ofBytes (bs : List Byte) : LineConfig :=
  { resolution := fieldAt bs 0 4, tunnel := fieldAt bs 4 4, zones := fieldAt bs 8 1, entry := fieldAt bs 9 4
    cut := fieldAt bs 13 4, clearance := fieldAt bs 17 4, headOffset := fieldAt bs 21 4
    inspectOffset := fieldAt bs 25 4, tableOffset := fieldAt bs 29 4 }

/-- The ranges of R197. -/
def LineConfig.inRange (c : LineConfig) : Bool :=
  decide (100000 ≤ c.resolution ∧ c.resolution ≤ 500000 ∧ 1000000 ≤ c.tunnel ∧ c.tunnel ≤ 12000000 ∧ 2 ≤ c.zones
    ∧ c.zones ≤ 8 ∧ c.entry ≤ 10000000 ∧ c.entry + c.tunnel ≤ c.cut ∧ c.cut ≤ 40000000 ∧ c.clearance ≤ 500
    ∧ c.headOffset ≤ 3000 ∧ c.inspectOffset ≤ 10000 ∧ c.tableOffset ≤ 20000)

/-- The parameters of CONFIGURE ROLLS in 45 bytes (R198, R205): `none` where auto change is neither on nor off. -/
def RollSettings.ofBytes (bs : List Byte) : Option RollSettings :=
  (yesNoOf (byteAt bs 20)).map fun auto =>
    { capacity := fieldAt bs 0 4, lowLimit := fieldAt bs 4 4, resumeLevel := fieldAt bs 8 4, spliceLevel := fieldAt bs 12 4
      threshold := fieldAt bs 16 4, auto := auto, fillingS := fieldAt bs 21 4, stoppingS := fieldAt bs 25 4
      splicingS := fieldAt bs 29 4, cuttingS := fieldAt bs 33 4, restartingS := fieldAt bs 37 4
      spliceLength := fieldAt bs 41 4 }

/-- The ranges and the order of R144. -/
def RollSettings.inRange (r : RollSettings) : Bool :=
  decide (1000 ≤ r.capacity ∧ r.capacity ≤ 30000 ∧ r.lowLimit ≤ 30000 ∧ 1 ≤ r.resumeLevel ∧ r.resumeLevel ≤ 30000
    ∧ 1 ≤ r.spliceLevel ∧ r.spliceLevel ≤ 30000 ∧ 1 ≤ r.threshold ∧ r.threshold ≤ 2000
    ∧ 1 ≤ r.fillingS ∧ r.fillingS ≤ 60 ∧ 1 ≤ r.stoppingS ∧ r.stoppingS ≤ 60 ∧ 1 ≤ r.splicingS ∧ r.splicingS ≤ 60
    ∧ 1 ≤ r.cuttingS ∧ r.cuttingS ≤ 60 ∧ 1 ≤ r.restartingS ∧ r.restartingS ≤ 60
    ∧ 20 ≤ r.spliceLength ∧ r.spliceLength ≤ 200
    ∧ r.lowLimit < r.resumeLevel ∧ r.resumeLevel ≤ r.spliceLevel ∧ r.spliceLevel ≤ r.capacity)

/-- The settings of SET PACE in 11 bytes (R46): `none` where the source or an edge select is not one of its values. -/
def Triggers.ofBytes (bs : List Byte) : Option Triggers :=
  match TriggerSource.ofCode (byteAt bs 0), edgeOf (byteAt bs 5), edgeOf (byteAt bs 6) with
  | some src, some me, some fe =>
    some { source := src, pacePeriod := fieldAt bs 1 4, markEdge := me, foldEdge := fe, strokePeriod := fieldAt bs 7 4 }
  | _, _, _ => none

def Triggers.toBytes (t : Triggers) : List Byte :=
  [t.source.code] ++ beBytes 4 t.pacePeriod ++ [edgeCode t.markEdge, edgeCode t.foldEdge] ++ beBytes 4 t.strokePeriod

/-! ## Responses of the stations (R163, R208) -/

/-- The role of a station (R159). -/
def roleOf (n : Nat) : Role :=
  if n ≤ 8 then .zone else if n ≤ 10 then .unwind else if n = 11 then .table
  else if n = 12 then .accumulator else .auxiliary

/-- The response length a role gives (R208). -/
def Role.responseLength : Role → Nat
  | .zone => 10
  | .unwind => 10
  | .table => 6
  | .accumulator => 12
  | .auxiliary => 14

/-- A temperature carried saturated (R1, R163). -/
def satTemp (t : Int) : Int := max 0 (min t 25000)

/-- The readings of a response of a role, saturated to their ranges (R163, R208). -/
def Readings.ofBytes (role : Role) (bs : List Byte) : Readings :=
  match role with
  | .zone => .zone (satTemp (fieldAtSigned bs 4 2)) (satTemp (fieldAtSigned bs 6 2))
  | .unwind => .unwind (min (fieldAt bs 4 4) 20000000)
  | .table => .table
  | .accumulator => .accumulator (min (fieldAt bs 4 4) 60000) (min (fieldAt bs 8 2) 10000)
  | .auxiliary => .auxiliary ((bs.drop 4).take 8)

/-- A good response as taken (R163). -/
structure Response where
  status   : Byte
  renewal  : Nat
  code     : Nat
  readings : Readings
  deriving DecidableEq, Repr

/-- The last two bytes of a frame are the CRC over the bytes before them (R163). -/
def crcCorrect (bs : List Byte) : Bool :=
  decide (3 ≤ bs.length) && (bs.drop (bs.length - 2) == crcBytes (bs.take (bs.length - 2)))

/-- The outcomes of a received response (R163). -/
inductive Judged
  | good (r : Response)
  | missCrc
  | miss
  deriving DecidableEq, Repr

/-- Judge a received response to the poll of station `n` (R163). A renewal count above 15 is a free value (log 6). -/
def judge (free n : Nat) (bs : List Byte) : Judged :=
  if !crcCorrect bs then .missCrc
  else if (byteAt bs 0).toNat ≠ n ∨ bs.length ≠ (roleOf n).responseLength then .miss
  else
    .good
      { status := byteAt bs 1
        renewal := if (byteAt bs 2).toNat ≤ 15 then (byteAt bs 2).toNat
                   else (Config.renewalOutOfRange free (byteAt bs 2)).val
        code := (byteAt bs 3).toNat
        readings := Readings.ofBytes (roleOf n) bs }

def RunState.ofFin (i : Fin 3) : RunState :=
  match i with
  | 0 => .stopped
  | 1 => .running
  | 2 => .atSpeed

/-- The run state a status byte reports (R208); an unlisted byte is a free value (log 6). -/
def RunState.ofStatus (free : Nat) (b : Byte) : RunState :=
  if b = 1#8 then .stopped else if b = 2#8 then .running else if b = 3#8 then .atSpeed
  else RunState.ofFin (Config.unlistedRunState free b)

def TableStatus.ofFin (i : Fin 5) : TableStatus :=
  match i with
  | 0 => .ready
  | 1 => .pressing
  | 2 => .spliced
  | 3 => .cutting
  | 4 => .cut

/-- The splice table status a status byte reports (R208); an unlisted byte is a free value (log 6). -/
def TableStatus.ofStatus (free : Nat) (b : Byte) : TableStatus :=
  if b = 1#8 then .ready else if b = 2#8 then .pressing else if b = 3#8 then .spliced
  else if b = 4#8 then .cutting else if b = 5#8 then .cut
  else TableStatus.ofFin (Config.unlistedTableStatus free b)

/-- A zone's status byte reports compare done in bit 7 (R208). -/
def compareDone (status : Byte) : Bool := status.getLsbD 7

/-! ## Enumerations of replies: the position in the list of the owning rule, counting from 1 (R203) -/

def PatternState.code : PatternState → Byte
  | .empty => 1#8 | .loading => 2#8 | .valid => 3#8 | .invalid => 4#8

def FailReason.code : FailReason → Byte
  | .noEnd => 1#8 | .range => 2#8 | .loop => 3#8 | .profile => 4#8 | .length => 5#8

/-- State and phase of SEQ (R42). -/
def SeqMode.codes : SeqMode → List Byte
  | .idle => [1#8, 0xFF#8]
  | .armed => [2#8, 0xFF#8]
  | .wasteFeed => [3#8, 1#8]
  | .wasteWait => [3#8, 2#8]
  | .runFeed => [4#8, 1#8]
  | .runWait => [4#8, 2#8]
  | .runStroke => [4#8, 3#8]
  | .holding _ => [5#8, 0xFF#8]
  | .fault _ => [6#8, 0xFF#8]

/-- A return point is a state and a phase (R204). -/
def ReturnPoint.codes : ReturnPoint → List Byte
  | .armed => [2#8, 0xFF#8]
  | .wasteWait => [3#8, 2#8]
  | .runFeed => [4#8, 1#8]
  | .runWait => [4#8, 2#8]

def SeqFaultReason.code : SeqFaultReason → Byte
  | .fold => 1#8 | .guard => 2#8 | .webEnd => 3#8

def ZoneState.code : ZoneState → Byte
  | .off => 1#8 | .warming => 2#8 | .ready => 3#8 | .standby => 4#8 | .purging => 5#8 | .calibrating => 6#8 | .fault => 7#8

def ZoneReturn.code : ZoneReturn → Byte
  | .warming => 1#8 | .ready => 2#8 | .standby => 3#8

def ZoneCause.code : ZoneCause → Byte
  | .overtemp => 1#8 | .station => 2#8 | .valveFault => 3#8 | .probeFault => 4#8

def CalKind.code : CalKind → Byte
  | .long => 1#8 | .short => 2#8

def LinkState.code : LinkState → Byte
  | .online => 1#8 | .missing => 2#8 | .lost => 3#8

def Condition.code : Condition → Byte
  | .fresh => 1#8 | .stale => 2#8 | .missing => 3#8 | .lost => 4#8

/-- The five roles as R162 and R208 list them (log 5). -/
def Role.code : Role → Byte
  | .zone => 1#8 | .unwind => 2#8 | .table => 3#8 | .accumulator => 4#8 | .auxiliary => 5#8

def UnwindState.code : UnwindState → Byte
  | .empty => 1#8 | .loaded => 2#8 | .ready => 3#8 | .active => 4#8 | .spent => 5#8

def RunState.code : RunState → Byte
  | .stopped => 1#8 | .running => 2#8 | .atSpeed => 3#8

/-- The change state, IDLE first (R147). -/
def ChangePhase.code : ChangePhase → Byte
  | .filling => 2#8 | .stopping => 3#8 | .splicing => 4#8 | .cutting => 5#8 | .restarting => 6#8

def ChangeOutcome.code : ChangeOutcome → Byte
  | .none => 1#8 | .done => 2#8 | .reverted => 3#8 | .failed => 4#8

def ChangeCause.code : ChangeCause → Byte
  | .command => 1#8 | .timeout => 2#8 | .jam => 3#8 | .station => 4#8 | .removed => 5#8 | .rollEnd => 6#8 | .reset => 7#8

def Verdict.code : Verdict → Byte
  | .good => 1#8 | .reject => 2#8

/-- An enumeration byte, 0xFF when absent (R203). -/
def codeOpt {α : Type} (code : α → Byte) : Option α → Byte
  | some a => code a
  | none => 0xFF#8

end Sys2Proof.Machine
end

