-- ==== Sys2Proof/Machine/Flags.lean ====
section
/-! DEFINITION. The sets of named members the part keeps and reports: segment flags and the verdict they decide (R87, R98,
R206), hold reasons (R43), reference causes (R4), and their coding (R203). -/

namespace Sys2Proof.Machine

/-- A set of named members: bit n stands for the member at position n (R203). -/
def memberSet : List Bool → Nat
  | [] => 0
  | b :: rest => (if b then 1 else 0) + 2 * memberSet rest

/-- The flags that decide a verdict: every flag but COMP_LIMIT (R98). -/
def PanelFlags.spoiled (f : PanelFlags) : Bool :=
  f.aborted || f.foldMiss || f.splice || f.defect || f.setShort || f.setOver || f.purged || f.zoneFault

/-- R98. -/
def PanelFlags.verdict (f : PanelFlags) : Verdict := if f.spoiled then .reject else .good

/-- The flags field of R206. -/
def PanelFlags.toBytes (f : PanelFlags) : List Byte :=
  beBytes 2 (memberSet [f.aborted, f.foldMiss, f.splice, f.defect, f.setShort, f.setOver, f.purged, f.zoneFault, f.compLimit])

/-- The hold reason set in the order of R42. -/
def HoldReasons.toByte (h : HoldReasons) : Byte :=
  BitVec.ofNat 8 (memberSet [h.host, h.starved, h.silent, h.zone, h.roll])

/-- The reference set in the order of R4. -/
def References.toByte (r : References) : Byte :=
  BitVec.ofNat 8 (memberSet [r.job, r.zones, r.roll, r.splice, r.head, r.segment])

/-- An event-class set as sent (R206). -/
def classSetBytes (b : BitVec 16) : List Byte := beBytes 2 b.toNat

/-- An event-class set as received. -/
def classSetOf (bs : List Byte) : BitVec 16 := BitVec.ofNat 16 (fieldAt bs 0 2)

end Sys2Proof.Machine
end

