-- ==== Sys2Proof/Machine/HostLink.lean ====
section
/-! DEFINITION. The Host Link Port (R189 to R196, R199, R200): how a request is judged, taken and answered, the transmitter,
and the receiver's error events. `hostRequest` is the one path of every request: the message's own rule is its handler. -/

namespace Sys2Proof.Machine

/-- Each valid frame makes the silence timer RUNNING from now, while the timeout is not 0 (R195). -/
def State.restartSilence (s : State) : State :=
  s.onHlp fun h =>
    { h with silenceTimer := if h.silenceTimeout = 0 then none else some (s.clock + h.silenceTimeout) }

/-- A request that finds 4 requests in the buffer is discarded and counted (R191). -/
def State.countOverrun (s : State) : State := s.onHlp fun h => { h with overruns := saturating 65535 h.overruns }

/-- A frame the receiver discards is counted (R190). -/
def State.countCrcError (s : State) : State := s.onHlp fun h => { h with crcErrors := saturating 65535 h.crcErrors }

/-- The reply frame of a request (R192): kind + 0x80, the request's tag. -/
def Answered.frame (a : Answered) : List Byte := hostFrame (a.kind + 0x80#8) a.tag a.reply

/-- Begin the reply that has waited longest, if one waits; otherwise the transmitter is idle. -/
def State.beginReply (s : State) : State :=
  s.onHlp fun h =>
    { h with transmitter := match h.buffer with
                            | [] => .idle
                            | a :: _ => .reply a.frame }

/-- Begin the notice frame: kind 0xF0, tag 0, the pending set as it stands; notice wanted is cleared (R187, R194). -/
def State.beginNotice (s : State) : State :=
  (s.onHlp fun h => { h with transmitter := .notice (hostFrame 0xF0#8 0#16 (classSetBytes s.evu.pendingSet)) }).onEvu
    fun e => { e with noticeWanted := false }

/-- A taken request holds its place with its reply, and the reply begins if the transmitter is free for it: a notice that is
wanted goes first (R192, R194). -/
def State.pushReply (s : State) (kind : Byte) (tag : BitVec 16) (reply : List Byte) : State :=
  let t := s.onHlp fun h => { h with buffer := h.buffer ++ [{ kind := kind, tag := tag, reply := reply }] }
  match t.hlp.transmitter with
  | .idle => if t.evu.noticeWanted then t else t.beginReply
  | _ => t

/-- Whether a message is taken in UNCONFIGURED (R196). -/
inductive Availability
  | always
  | configuredOnly
  deriving DecidableEq, Repr

/-- A request frame arrives (R190 to R193): it restarts the silence timer; it is discarded when the buffer is full; else it is
taken at once, refused UNCONFIGURED or judged by its own rule `h`, and its reply waits in the buffer. -/
def hostRequest (kind : Byte) (avail : Availability) (h : List Byte → State → State × List Byte) (tag : BitVec 16)
    (payload : List Byte) (s : State) : State :=
  let t := s.restartSilence
  if 4 ≤ t.hlp.buffer.length then t.countOverrun
  else if !t.configured && avail == .configuredOnly then t.pushReply kind tag (statusOnly .unconfigured)
  else (h payload t).1.pushReply kind tag (h payload t).2

/-! ## Link events -/

/-- UNKNOWN_KIND_REQUEST: the first check of R193 fails. -/
def execUnknownKindRequest (kind : Byte) (tag : BitVec 16) (payload : List Byte) (s : State) :
    Host.Outcome State Fault Refusal :=
  .next (hostRequest kind .always (fun _ t => (t, statusOnly .unknown)) tag payload s)

/-- STRAY_FRAME (R191): a valid frame, so it restarts the silence timer (R190); discarded and counted. -/
def execStrayFrame (s : State) : Host.Outcome State Fault Refusal :=
  .next (s.restartSilence.onHlp fun h => { h with strays := saturating 65535 h.strays })

/-- LINK_OVERRUN (R191). With a place free in the buffer the event does not arise and nothing changes. -/
def execLinkOverrun (s : State) : Host.Outcome State Fault Refusal :=
  .next (if 4 ≤ s.hlp.buffer.length then s.restartSilence.countOverrun else s)

/-- FRAME_CRC_ERROR (R190). -/
def execFrameCrcError (s : State) : Host.Outcome State Fault Refusal := .next s.countCrcError

/-- FRAME_LENGTH_ERROR (R190): a length field above 1,024. -/
def execFrameLengthError (s : State) : Host.Outcome State Fault Refusal := .next s.countCrcError

/-- INTER_BYTE_GAP (R190): the frame in progress ends as incomplete. -/
def execInterByteGap (s : State) : Host.Outcome State Fault Refusal := .next s.countCrcError

/-- MISSING_STOP_BIT (R190): the frame in progress ends as incomplete; with none in progress the byte is passed over. -/
def execMissingStopBit (inFrame : Bool) (s : State) : Host.Outcome State Fault Refusal :=
  .next (if inFrame then s.countCrcError else s)

/-- REPLY_END (R192, R194): the place is freed; a notice that is wanted goes before the replies that wait. -/
def execReplyEnd (s : State) : Host.Outcome State Fault Refusal :=
  .next <|
    match s.hlp.transmitter with
    | .reply _ =>
      let t := s.onHlp fun h => { h with buffer := h.buffer.tail }
      if t.evu.noticeWanted then t.beginNotice else t.beginReply
    | _ => s

/-- NOTICE_BEGIN (R187, R194): a notice is wanted and no frame is being sent. -/
def execNoticeBegin (s : State) : Host.Outcome State Fault Refusal :=
  .next <|
    match s.hlp.transmitter with
    | .idle => if s.evu.noticeWanted then s.beginNotice else s
    | _ => s

/-- NOTICE_END (R194): at most one notice stands between two replies, so a waiting reply goes next (log 12). -/
def execNoticeEnd (s : State) : Host.Outcome State Fault Refusal :=
  .next <|
    match s.hlp.transmitter with
    | .notice _ =>
      let t := s.beginReply
      match t.hlp.transmitter with
      | .idle => if t.evu.noticeWanted then t.beginNotice else t
      | _ => t
    | _ => s

/-! ## IDENTIFY and CONFIGURE LINK -/

/-- The configuration state (R189). -/
def State.configurationCode (s : State) : Byte := if s.configured then 2#8 else 1#8

/-- The items IDENTIFY returns (R200). -/
def identifyBody (s : State) : List Byte :=
  beBytes 2 0x5046 ++ beBytes 2 406 ++ beBytes 1 1 ++ beBytes 4 s.hlp.linkRate ++ [s.configurationCode] ++ beBytes 6 s.clock

def handleIdentify (payload : List Byte) (s : State) : State × List Byte :=
  if payload.length ≠ 0 then (s, statusOnly .length) else (s, Status.ok.code :: identifyBody s)

def execIdentify (tag : BitVec 16) (payload : List Byte) (s : State) : Host.Outcome State Fault Refusal :=
  .next (hostRequest 0x01#8 .always handleIdentify tag payload s)

/-- The values CONFIGURE LINK takes (R199). -/
def silenceTimeoutInRange (n : Nat) : Bool := decide (n = 0 ∨ (100 ≤ n ∧ n ≤ 10000))

/-- R199. The timer runs from now with the new timeout, or stops with a timeout of 0. -/
def handleConfigureLink (payload : List Byte) (s : State) : State × List Byte :=
  if payload.length ≠ 4 then (s, statusOnly .length)
  else if !silenceTimeoutInRange (fieldAt payload 0 4) then (s, statusOnly .range)
  else ((s.onHlp fun h => { h with silenceTimeout := fieldAt payload 0 4 }).restartSilence, statusOnly .ok)

def execConfigureLink (tag : BitVec 16) (payload : List Byte) (s : State) : Host.Outcome State Fault Refusal :=
  .next (hostRequest 0x06#8 .always handleConfigureLink tag payload s)

end Sys2Proof.Machine
end

