-- ==== Sys2Proof/Machine/EventUnit.lean ====
section
/-! DEFINITION. The Event Unit (R177 to R188): the report ring, the pending set and the notice enables. -/

namespace Sys2Proof.Machine

/-- The slot of the oldest report (R177). -/
def Evu.oldest (e : Evu) : Nat := (e.writePos + 8 - e.filled) % 8

/-- The reports of the FILLED slots, oldest first (R177). -/
def Evu.reportsInOrder (e : Evu) : List Report :=
  (List.range e.filled).filterMap fun k => (e.slots.getD ((e.oldest + k) % 8) none)

/-- Write one report into the ring (R179, R180), without the classes it raises. -/
def Evu.write (r : Report) (e : Evu) : Evu :=
  { e with
    slots := e.slots.set e.writePos (some { r with sequence := e.nextSeq })
    writePos := (e.writePos + 1) % 8
    filled := if e.filled < 8 then e.filled + 1 else e.filled
    nextSeq := (e.nextSeq + 1) % 65536
    overrun := if e.filled < 8 then e.overrun else saturating 255 e.overrun }

/-- STR hands over a finished panel record (R179, R180). -/
def State.writeReport (s : State) (r : Report) : State :=
  let t := s.onEvu (Evu.write r)
  if s.evu.filled < 8 then t.raise .panelReport else (t.raise .reportOverrun).raise .panelReport

/-- The panel report record, 38 bytes (R206). -/
def Report.toBytes (r : Report) : List Byte :=
  beBytes 2 r.sequence ++ beBytes 2 r.jobId ++ beBytes 2 r.panelNumber ++ beBytes 1 r.patternId ++ beBytes 1 r.profileId
    ++ beBytes 4 r.rawCounts ++ beBytes 4 r.finished ++ beBytes 2 r.strokes ++ beBytes 2 r.foldsMissed
    ++ beBytes 2 r.retries ++ r.flags.toBytes ++ beBytes 4 r.credit ++ beBytes 4 r.exposure ++ beIntOpt 2 r.minTemp
    ++ beIntOpt 2 r.maxTemp ++ [r.verdict.code, 0#8]

/-- The items of READ REPORTS (R181). -/
def reportsBody (s : State) : List Byte :=
  beBytes 1 s.evu.filled ++ beBytes 1 s.evu.overrun ++ beBytes 2 s.evu.nextSeq
    ++ countedList Report.toBytes (s.evu.reportsInOrder.take 4)

/-- R181. -/
def handleReadReports (payload : List Byte) (s : State) : State × List Byte :=
  if payload.length ≠ 1 then (s, statusOnly .length)
  else
    match yesNoOf (byteAt payload 0) with
    | none => (s, statusOnly .range)
    | some clear =>
      (if clear then s.onEvu fun e => { e with overrun := 0 } else s, Status.ok.code :: reportsBody s)

def execReadReports (tag : BitVec 16) (payload : List Byte) (s : State) : Host.Outcome State Fault Refusal :=
  .next (hostRequest 0x68#8 .always handleReadReports tag payload s)

/-- Free the `n` oldest slots (R182). -/
def Evu.release (n : Nat) (e : Evu) : Evu :=
  { e with
    slots := (List.range n).foldl (fun l k => l.set ((e.oldest + k) % 8) none) e.slots
    filled := e.filled - n }

/-- The sequence of the oldest report, absent when the ring is empty (R182). -/
def Evu.oldestSequence (e : Evu) : Option Nat := e.reportsInOrder.head?.map Report.sequence

/-- R182. -/
def handleReleaseReports (payload : List Byte) (s : State) : State × List Byte :=
  let n := fieldAt payload 0 1
  let q := fieldAt payload 1 2
  if payload.length ≠ 3 then (s, statusOnly .length)
  else if n < 1 ∨ 8 < n then (s, statusOnly .range)
  else if s.evu.filled < n then (s, statusOnly .range)
  else if s.evu.oldestSequence ≠ some q then (s, Status.mismatch.code :: presentBytes 2 s.evu.oldestSequence)
  else
    (s.onEvu (Evu.release n),
     Status.ok.code :: beBytes 1 (s.evu.release n).filled ++ presentBytes 2 (s.evu.release n).oldestSequence)

def execReleaseReports (tag : BitVec 16) (payload : List Byte) (s : State) : Host.Outcome State Fault Refusal :=
  .next (hostRequest 0x69#8 .configuredOnly handleReleaseReports tag payload s)

/-- R185: the reply takes the pending set, then the clear set's classes become not pending. -/
def handleTakeEvents (payload : List Byte) (s : State) : State × List Byte :=
  if payload.length ≠ 2 then (s, statusOnly .length)
  else
    (s.onEvu fun e => { e with pendingSet := e.pendingSet &&& ~~~(classSetOf payload) },
     Status.ok.code :: classSetBytes s.evu.pendingSet)

def execTakeEvents (tag : BitVec 16) (payload : List Byte) (s : State) : Host.Outcome State Fault Refusal :=
  .next (hostRequest 0x6A#8 .always handleTakeEvents tag payload s)

/-- Replace the enable set (R186); a pending class newly enabled calls for a notice (R187). -/
def Evu.setEnables (set : BitVec 16) (e : Evu) : Evu :=
  { e with
    enables := set
    noticeWanted := e.noticeWanted || decide (set &&& ~~~e.enables &&& e.pendingSet ≠ 0#16) }

/-- R186. -/
def handleSetNotices (payload : List Byte) (s : State) : State × List Byte :=
  if payload.length ≠ 2 then (s, statusOnly .length)
  else
    (s.onEvu (Evu.setEnables (classSetOf payload)),
     Status.ok.code :: classSetBytes (classSetOf payload) ++ classSetBytes s.evu.pendingSet)

def execSetNotices (tag : BitVec 16) (payload : List Byte) (s : State) : Host.Outcome State Fault Refusal :=
  .next (hostRequest 0x6B#8 .configuredOnly handleSetNotices tag payload s)

end Sys2Proof.Machine
end

