-- ==== Sys2Proof/Machine/PatternStore.lean ====
section
/-! DEFINITION. The Pattern Store (R2 to R22): profiles, patterns, the walk over the stored records and the checks of CLOSE
PATTERN. -/

namespace Sys2Proof.Machine

/-! ## Step arithmetic that the checks and the Feed Calculator share -/

def StepRecord.faceOf (r : StepRecord) : Nat := r.face.getD 0
def StepRecord.depthOf (r : StepRecord) : Nat := r.depth.getD 0

/-- The depth multiplier k (R10). -/
def StepKind.multiplier : StepKind → Nat
  | .knife => 2
  | .box | .inverted => 4
  | .spacer | .loopBack | .panelEnd => 0

/-- A kind the blades stroke (R10). -/
def StepKind.pleat : StepKind → Bool
  | .knife | .box | .inverted => true
  | .spacer | .loopBack | .panelEnd => false

/-- Stage 1 (R24): the graded face F′. -/
def StepRecord.gradedFace (r : StepRecord) (grade : Nat) : Nat :=
  if r.graded then (r.faceOf * grade + 5000) / 10000 else r.faceOf

/-- Stage 2 (R25): the nominal consumption N. -/
def StepRecord.nominal (r : StepRecord) (grade : Nat) : Nat := r.gradedFace grade + r.kind.multiplier * r.depthOf

/-! ## The walk (R18) -/

/-- Where the walk stands when it next takes a forming step or an END. -/
inductive WalkStop
  | forming (index : Nat) (step : StepRecord) (counters : List (Nat × Nat))
  | ended (index : Nat)
  | lost
  deriving DecidableEq, Repr

def setCounter (cs : List (Nat × Nat)) (i n : Nat) : List (Nat × Nat) := (i, n) :: cs.filter fun c => c.1 != i
def clearCounter (cs : List (Nat × Nat)) (i : Nat) : List (Nat × Nat) := cs.filter fun c => c.1 != i

/-- Follow REPEAT records from an index until a forming step or an END (R18). A pattern that passes the END and LOOP checks
meets no more than 128 REPEATs in a row. -/
def walkTo (steps : List StepRecord) : Nat → Nat → List (Nat × Nat) → WalkStop
  | 0, _, _ => .lost
  | fuel + 1, i, cs =>
    match steps[i]? with
    | none => .lost
    | some r =>
      match r.kind with
      | .panelEnd => .ended i
      | .loopBack =>
        match cs.lookup i with
        | none => walkTo steps fuel (r.loopTarget.getD 0) (setCounter cs i (r.loopCount.getD 0))
        | some n =>
          if 1 < n then walkTo steps fuel (r.loopTarget.getD 0) (setCounter cs i (n - 1))
          else walkTo steps fuel (i + 1) (clearCounter cs i)
      | _ => .forming i r cs

/-- Fuel of one `walkTo`: twice the slots of a region. -/
def walkFuel : Nat := 256

/-- The expanded sequence (R18): the forming steps in the order the walk takes them, each with its step index. -/
def expandFrom (steps : List StepRecord) : Nat → Nat → List (Nat × Nat) → List (Nat × StepRecord)
  | 0, _, _ => []
  | fuel + 1, i, cs =>
    match walkTo steps walkFuel i cs with
    | .forming j r cs' => (j, r) :: expandFrom steps fuel (j + 1) cs'
    | .ended _ => []
    | .lost => []

/-- Two loops deep, each passed at most 256 times, a slot is taken at most 65,536 times (R17, R18). -/
def expandFuel : Nat := 128 * 65536

def expanded (steps : List StepRecord) : List (Nat × StepRecord) := expandFrom steps expandFuel 0 []

/-- The finished length Lp (R30). -/
def finishedLength (steps : List StepRecord) (grade : Nat) : Nat :=
  ((expanded steps).map fun p => p.2.gradedFace grade).sum

/-! ## The checks of CLOSE PATTERN (R15 to R20) -/

/-- R15. -/
def endFailures (steps : List StepRecord) : List (Nat × FailReason) :=
  if steps.length = 0 then [(0, .noEnd)]
  else
    (List.range steps.length).filterMap fun i =>
      match steps[i]? with
      | none => none
      | some r => if (r.kind == .panelEnd) != (i == steps.length - 1) then some (i, .noEnd) else none

/-- The conditions of the RANGE check (R16), with F′ = F. -/
def StepRecord.inRange (r : StepRecord) : Bool :=
  match r.kind with
  | .knife => decide (2000 ≤ r.faceOf ∧ r.faceOf ≤ 80000 ∧ 1000 ≤ r.depthOf ∧ r.depthOf ≤ r.faceOf)
  | .box | .inverted => decide (2000 ≤ r.faceOf ∧ r.faceOf ≤ 80000 ∧ 1000 ≤ r.depthOf ∧ 2 * r.depthOf ≤ r.faceOf)
  | .spacer => decide (2000 ≤ r.faceOf ∧ r.faceOf ≤ 80000 ∧ r.depthOf = 0)
  | .loopBack => decide (1 ≤ r.loopCount.getD 0 ∧ r.loopCount.getD 0 ≤ 255)
  | .panelEnd => true

def rangeFailures (steps : List StepRecord) : List (Nat × FailReason) :=
  (List.range steps.length).filterMap fun i =>
    match steps[i]? with
    | none => none
    | some r => if r.inRange then none else some (i, .range)

/-- The REPEAT records as (index, loop target). -/
def loopsOf (steps : List StepRecord) : List (Nat × Nat) :=
  (List.range steps.length).filterMap fun i =>
    match steps[i]? with
    | none => none
    | some r => if r.kind = .loopBack then some (i, r.loopTarget.getD 0) else none

/-- The REPEATs whose body holds slot `j` (R17). -/
def enclosingLoops (loops : List (Nat × Nat)) (j : Nat) : List (Nat × Nat) :=
  loops.filter fun k => decide (k.2 ≤ j ∧ j < k.1)

/-- R17. -/
def loopFailures (steps : List StepRecord) : List (Nat × FailReason) :=
  let loops := loopsOf steps
  loops.filterMap fun l =>
    let around := enclosingLoops loops l.1
    if l.1 ≤ l.2 || around.any (fun k => decide (l.2 < k.2)) || decide (2 ≤ around.length) then some (l.1, .loop) else none

/-- The first step whose addition passes 2,000 strokes or 6,000,000 µm (R19). -/
def firstOver : Nat → Nat → List (Nat × StepRecord) → Option Nat
  | _, _, [] => none
  | strokes, total, (i, r) :: rest =>
    let strokes' := strokes + (if r.kind.pleat then 1 else 0)
    let total' := total + r.nominal 10000
    if 2000 < strokes' ∨ 6000000 < total' then some i else firstOver strokes' total' rest

/-- The LENGTH check, made only when neither END nor LOOP has failed (R19). -/
def lengthFailures (steps : List StepRecord) : List (Nat × FailReason) :=
  if (endFailures steps).isEmpty && (loopFailures steps).isEmpty then
    match firstOver 0 0 (expanded steps) with
    | some i => [(i, .length)]
    | none => []
  else []

def profileFailures (p : Pst) (profileId : Option Nat) : List (Nat × FailReason) :=
  if (profileId.bind p.profile).isSome then [] else [(0, .profile)]

/-- The order of R20 among failures at one index. -/
def FailReason.rank : FailReason → Nat
  | .noEnd => 0 | .range => 1 | .loop => 2 | .profile => 3 | .length => 4

/-- One failure is reported before another (R20). -/
def failsBefore (a b : Nat × FailReason) : Bool := decide (a.1 < b.1 ∨ (a.1 = b.1 ∧ a.2.rank ≤ b.2.rank))

/-- The failure R20 chooses. -/
def chooseFailure : List (Nat × FailReason) → Option (Nat × FailReason)
  | [] => none
  | f :: rest =>
    match chooseFailure rest with
    | none => some f
    | some g => some (if failsBefore f g then f else g)

/-- Every failure of a pattern (R15 to R19). -/
def patternFailures (p : Pst) (e : PatternEntry) : List (Nat × FailReason) :=
  endFailures e.steps ++ rangeFailures e.steps ++ loopFailures e.steps ++ profileFailures p e.profileId
    ++ lengthFailures e.steps

/-! ## Profiles -/

def validProfileId (n : Nat) : Bool := decide (1 ≤ n ∧ n ≤ 16)
def validPatternId (n : Nat) : Bool := decide (1 ≤ n ∧ n ≤ 32)

def Pst.setProfile (p : Pst) (id : Nat) (q : Profile) : Pst :=
  { p with profiles := modifyAt p.profiles id fun _ => some q }

def Pst.setPattern (p : Pst) (id : Nat) (e : PatternEntry) : Pst :=
  { p with patterns := modifyAt p.patterns id fun _ => e }

/-- R5. -/
def handleLoadProfile (payload : List Byte) (s : State) : State × List Byte :=
  let id := fieldAt payload 0 1
  let q := Profile.ofBytes (payload.drop 1)
  if payload.length ≠ 23 then (s, statusOnly .length)
  else if !validProfileId id then (s, statusOnly .range)
  else if !q.inRange then (s, statusOnly .range)
  else if (s.references id).any then (s, statusOnly .inUse)
  else (s.onPst fun p => p.setProfile id q, statusOnly .ok)

def execLoadProfile (tag : BitVec 16) (payload : List Byte) (s : State) : Host.Outcome State Fault Refusal :=
  .next (hostRequest 0x10#8 .always handleLoadProfile tag payload s)

/-- The items of READ PROFILE (R7). -/
def profileBody (s : State) (id : Nat) : List Byte :=
  match s.pst.profile id with
  | some q => 2#8 :: q.toBytes ++ [(s.references id).toByte]
  | none => 1#8 :: absentProfileBytes ++ [(s.references id).toByte]

def handleReadProfile (payload : List Byte) (s : State) : State × List Byte :=
  if payload.length ≠ 1 then (s, statusOnly .length)
  else if !validProfileId (fieldAt payload 0 1) then (s, statusOnly .range)
  else (s, Status.ok.code :: profileBody s (fieldAt payload 0 1))

def execReadProfile (tag : BitVec 16) (payload : List Byte) (s : State) : Host.Outcome State Fault Refusal :=
  .next (hostRequest 0x11#8 .always handleReadProfile tag payload s)

/-! ## Patterns -/

/-- R12. -/
def handleOpenPattern (payload : List Byte) (s : State) : State × List Byte :=
  let id := fieldAt payload 0 1
  let prof := fieldAt payload 1 1
  if payload.length ≠ 2 then (s, statusOnly .length)
  else if !validPatternId id then (s, statusOnly .range)
  else if !validProfileId prof then (s, statusOnly .range)
  else if s.locked id then (s, statusOnly .inUse)
  else
    (s.onPst fun p => p.setPattern id { PatternEntry.empty with state := .loading, profileId := some prof }, statusOnly .ok)

def execOpenPattern (tag : BitVec 16) (payload : List Byte) (s : State) : Host.Outcome State Fault Refusal :=
  .next (hostRequest 0x12#8 .always handleOpenPattern tag payload s)

/-- The number of whole records a LOAD STEPS payload holds after the pattern id. -/
def recordCount (payload : List Byte) : Nat := (payload.length - 1) / 16

/-- R13. -/
def handleLoadSteps (payload : List Byte) (s : State) : State × List Byte :=
  let id := fieldAt payload 0 1
  let n := recordCount payload
  let e := s.pst.pattern id
  if payload.length ≠ 1 + 16 * n ∨ n < 1 ∨ 16 < n then (s, statusOnly .length)
  else if !validPatternId id then (s, statusOnly .range)
  else if e.state ≠ .loading then (s, statusOnly .state)
  else
    match stepRecordsOf n (payload.drop 1) with
    | none => (s, statusOnly .range)
    | some rs =>
      if 128 < e.loadIndex + n then (s, statusOnly .full)
      else
        (s.onPst fun p => p.setPattern id { e with steps := e.steps ++ rs }, Status.ok.code :: beBytes 1 (e.loadIndex + n))

def execLoadSteps (tag : BitVec 16) (payload : List Byte) (s : State) : Host.Outcome State Fault Refusal :=
  .next (hostRequest 0x13#8 .always handleLoadSteps tag payload s)

/-- The entry CLOSE PATTERN leaves (R14). -/
def PatternEntry.closed (p : Pst) (e : PatternEntry) : PatternEntry :=
  match chooseFailure (patternFailures p e) with
  | none => { e with state := .valid, stepCount := e.loadIndex, failure := none }
  | some f => { e with state := .invalid, stepCount := e.loadIndex, failure := some f }

/-- The reply of CLOSE PATTERN: OK, or INVALID with the reason and the index (R14). -/
def PatternEntry.closeReply (e : PatternEntry) : List Byte :=
  match e.failure with
  | none => statusOnly .ok
  | some f => [Status.invalid.code, f.2.code] ++ beBytes 1 f.1

def handleClosePattern (payload : List Byte) (s : State) : State × List Byte :=
  let id := fieldAt payload 0 1
  let e := s.pst.pattern id
  if payload.length ≠ 1 then (s, statusOnly .length)
  else if !validPatternId id then (s, statusOnly .range)
  else if e.state ≠ .loading then (s, statusOnly .state)
  else (s.onPst fun p => p.setPattern id (e.closed p), (e.closed s.pst).closeReply)

def execClosePattern (tag : BitVec 16) (payload : List Byte) (s : State) : Host.Outcome State Fault Refusal :=
  .next (hostRequest 0x14#8 .always handleClosePattern tag payload s)

/-- R21. -/
def handleDeletePattern (payload : List Byte) (s : State) : State × List Byte :=
  let id := fieldAt payload 0 1
  if payload.length ≠ 1 then (s, statusOnly .length)
  else if !validPatternId id then (s, statusOnly .range)
  else if s.locked id then (s, statusOnly .inUse)
  else (s.onPst fun p => p.setPattern id PatternEntry.empty, statusOnly .ok)

def execDeletePattern (tag : BitVec 16) (payload : List Byte) (s : State) : Host.Outcome State Fault Refusal :=
  .next (hostRequest 0x15#8 .always handleDeletePattern tag payload s)

/-- The directory entry in the order of R8. -/
def PatternEntry.toBytes (e : PatternEntry) : List Byte :=
  [e.state.code] ++ beOpt 1 e.profileId ++ beBytes 1 e.loadIndex ++ beBytes 1 e.stepCount
    ++ beOpt 1 (e.failure.map Prod.fst) ++ [codeOpt FailReason.code (e.failure.map Prod.snd)]

/-- The items of READ STEPS (R22). -/
def stepsBody (s : State) (id first count : Nat) : List Byte :=
  let e := s.pst.pattern id
  e.toBytes ++ countedList StepRecord.toBytes ((e.steps.drop first).take count)

def handleReadSteps (payload : List Byte) (s : State) : State × List Byte :=
  let id := fieldAt payload 0 1
  let first := fieldAt payload 1 1
  let count := fieldAt payload 2 1
  if payload.length ≠ 3 then (s, statusOnly .length)
  else if !validPatternId id || decide (127 < first ∨ count < 1 ∨ 16 < count) then (s, statusOnly .range)
  else (s, Status.ok.code :: stepsBody s id first count)

def execReadSteps (tag : BitVec 16) (payload : List Byte) (s : State) : Host.Outcome State Fault Refusal :=
  .next (hostRequest 0x16#8 .always handleReadSteps tag payload s)

end Sys2Proof.Machine
end

