-- ==== Sys2Proof/Machine/FeedCalculator.lean ====
section
/-! DEFINITION. The Feed Calculator (R23 to R36): exact integer arithmetic, every rounding where its rule names it. -/

namespace Sys2Proof.Machine

/-- One count in units of the feed residue (R28). -/
def residueUnit : Nat := 1000000000000

/-- The residue a panel opens with (R29). -/
def openingResidue : Nat := 500000000000

/-- The tension correction (R26), clamped. -/
def tensionCorrection (tension : Nat) (p : Profile) : Int :=
  max (-20000) (min 20000 (((tension : Int) - p.refTension) * p.elasticity))

/-- Stage 3 (R27): the compensation factor G and the clamped mark. -/
def compFactor (shrink : Nat) (t : Int) : Nat × Bool :=
  if 1150000 < 1000000 + (shrink : Int) + t then (1150000, true) else ((1000000 + (shrink : Int) + t).toNat, false)

/-- Stage 4 (R28): the feed counts and the residue after them, from N, G, R and the residue. -/
def feedCounts (n g r residue : Nat) : Nat × Nat :=
  ((n * g * r + residue) / residueUnit, (n * g * r + residue) % residueUnit)

/-- Stage 5 (R31): minimum dwell × F′ / E, rounded up. -/
def minInterval (minDwell graded e : Nat) : Nat := ceilDiv (minDwell * graded) e

/-- The running sum of R32: counts so far and the scratch residue. -/
def predictFrom (g r grade : Nat) : List (Nat × StepRecord) → Nat → Nat
  | [], _ => 0
  | (_, step) :: rest, residue =>
    (feedCounts (step.nominal grade) g r residue).1
      + predictFrom g r grade rest (feedCounts (step.nominal grade) g r residue).2

/-- The panel prediction P (R32). -/
def prediction (steps : List StepRecord) (g r grade : Nat) : Nat :=
  predictFrom g r grade (expanded steps) openingResidue

/-- The look-ahead span (R33). -/
def lookAheadSpan (p clearance : Nat) : Nat := p + p / 50 + clearance

/-- A waste chunk (R34): counts, belt index and the waste residue after it. -/
def wasteChunk (remaining r w : Nat) : Nat × Nat × Nat :=
  let c := min remaining (r / 20)
  (c, (c * 1000000 + w) / r, (c * 1000000 + w) % r)

/-- The compensation factor for the head job as T stands. -/
def State.headFactor (s : State) : Nat × Bool :=
  compFactor ((s.headJobProfile.map Profile.shrink).getD 0) s.fca.tension

def State.headMinDwell (s : State) : Nat := (s.headJobProfile.map Profile.minDwell).getD 0

/-- Lp of the head job (R30). -/
def State.headLp (s : State) : Nat := finishedLength s.headJobSteps s.headJobGrade

/-- The look-ahead span of the head job (R32, R33). -/
def State.headSpan (s : State) : Nat :=
  lookAheadSpan (prediction s.headJobSteps s.headFactor.1 s.resolution s.headJobGrade) s.clearanceCounts

/-- A fresh tension delivery (R26): T is computed if there is a head job. -/
def State.deliverTension (s : State) (tension : Nat) : State :=
  match s.headJobProfile with
  | none => s
  | some p => s.onFca fun f => { f with tension := tensionCorrection tension p }

/-- What FCA answers to a step computation (R28, R31). -/
structure StepAnswer where
  counts   : Nat
  graded   : Nat
  clamped  : Bool
  interval : Nat
  deriving DecidableEq, Repr

/-- The answer to a step computation, from the state as it stands. -/
def State.stepAnswer (s : State) (r : StepRecord) : StepAnswer :=
  { counts := (feedCounts (r.nominal s.headJobGrade) s.headFactor.1 s.resolution s.fca.residue).1
    graded := r.gradedFace s.headJobGrade
    clamped := s.headFactor.2
    interval := minInterval s.headMinDwell (r.gradedFace s.headJobGrade) (s.tunnel - s.fca.panelLp.getD 0) }

/-- A step computation is taken (R27, R28): the residue, last G and last G clamped take their new values. -/
def State.takeStep (s : State) (r : StepRecord) : State :=
  s.onFca fun f =>
    { f with
      residue := (feedCounts (r.nominal s.headJobGrade) s.headFactor.1 s.resolution f.residue).2
      lastG := some s.headFactor.1
      lastClamped := s.headFactor.2 }

end Sys2Proof.Machine
end

