-- ==== Sys2Proof/Machine/Segments.lean ====
section
/-! DEFINITION. The set segment queue and the belt path (R83 to R92): spans, zone overlap, belt index requests, opening and
closing a segment, flags, dwell credit and exposure. What a belt advance sets off in the zones stands in BeltPath.lean. -/

namespace Sys2Proof.Machine

/-! ## Geometry (R86) -/

/-- The near end lo of a segment's span; an open segment has lo 0. -/
def Segment.near (g : Segment) (belt : Nat) : Nat :=
  match g.b1 with
  | none => 0
  | some b1 => belt - b1

/-- The far end hi of a segment's span. -/
def Segment.far (g : Segment) (belt : Nat) : Nat := belt - g.b0

def Segment.spanEmpty (g : Segment) (belt : Nat) : Bool := decide (g.far belt ≤ g.near belt)

/-- Partly inside the tunnel, from the distance to its entry and its length. -/
def Segment.partlyInside (g : Segment) (belt entry tunnel : Nat) : Bool :=
  !g.spanEmpty belt && decide (entry < g.far belt ∧ g.near belt < entry + tunnel)

/-- Wholly inside the tunnel. -/
def Segment.whollyInside (g : Segment) (belt entry tunnel : Nat) : Bool :=
  !g.spanEmpty belt && decide (entry ≤ g.near belt ∧ g.far belt ≤ entry + tunnel)

/-- Tunnel distance z(j) of Z zones. -/
def zoneBound (tunnel zones j : Nat) : Nat := j * tunnel / zones

/-- The span meets zone i's interval. -/
def Segment.overlaps (g : Segment) (belt entry tunnel zones i : Nat) : Bool :=
  !g.spanEmpty belt
    && decide (g.near belt < entry + zoneBound tunnel zones i ∧ entry + zoneBound tunnel zones (i - 1) < g.far belt)

def State.overlapsZone (s : State) (g : Segment) (i : Nat) : Bool :=
  g.overlaps s.str.belt s.entryDistance s.tunnel s.zoneCount i

/-- A zone is occupied while some segment overlaps it. -/
def State.zoneOccupied (s : State) (i : Nat) : Bool := s.str.segments.any fun g => s.overlapsZone g i

/-- A closed or open segment's fabric is still to leave the tunnel (R105). -/
def State.stillToLeave (s : State) (g : Segment) : Bool :=
  match g.b1 with
  | none => true
  | some b1 => decide (s.str.belt < b1 + s.entryDistance + s.tunnel)

/-! ## Belt index requests (R84) -/

/-- SEQ asks for an index: a ninth request joins the youngest pending one. -/
def Str.request (d : Nat) (t : Str) : Str :=
  { t with
    pendingIdx := if t.pendingIdx.length < 8 then t.pendingIdx ++ [d] else modifyLast (· + d) t.pendingIdx
    moving := true }

def State.indexBelt (s : State) (d : Nat) : State := s.onStr (Str.request d)

/-! ## Segments -/

/-- Change the open segment, the youngest of the queue (R89). -/
def State.onOpenSegment (s : State) (f : Segment → Segment) : State :=
  s.onStr fun t => { t with segments := modifyLast f t.segments }

def Segment.setFlags (g : Segment) (f : PanelFlags → PanelFlags) : Segment := { g with flags := f g.flags }

/-- R88: the segment of the head job's panel opens at the commanded coordinate. -/
def Str.openSegment (job : Job) (number profileId lp : Nat) (t : Str) : Str :=
  { t with
    segments := t.segments ++
      [{ jobId := job.jobId, panelNumber := number, patternId := job.patternId, profileId := profileId, finished := lp
         b0 := t.commanded, b1 := none, strokes := 0, retries := 0, foldsMissed := 0, rawCounts := 0
         flags := PanelFlags.none, leadNeeded := decide (t.lastEnd ≠ some t.commanded), credit := 0, exposure := 0
         minTemp := none, maxTemp := none }]
    panelsBegun := t.panelsBegun + 1 }

/-- R90: the open segment closes at the commanded coordinate; ABORTED when the panel did not reach its END. -/
def Str.closeSegment (reachedEnd : Bool) (t : Str) : Str :=
  { t with
    segments := modifyLast (fun g =>
      { g with b1 := some t.commanded, flags := if reachedEnd then g.flags else { g.flags with aborted := true } }) t.segments
    lastEnd := some t.commanded }

/-- Flag every segment that overlaps a zone (R93, R94). -/
def State.flagZone (s : State) (i : Nat) (f : PanelFlags → PanelFlags) : State :=
  s.onStr fun t => { t with segments := t.segments.map fun g => if s.overlapsZone g i then g.setFlags f else g }

def PanelFlags.setPurged (f : PanelFlags) : PanelFlags := { f with purged := true }
def PanelFlags.setZoneFault (f : PanelFlags) : PanelFlags := { f with zoneFault := true }

/-- The flags a segment takes from the zones it overlaps after a belt advance (R93, R94). -/
def State.zoneFlagged (s : State) (g : Segment) : Segment :=
  g.setFlags fun f =>
    { f with
      purged := f.purged || s.zoneNumbers.any fun i => s.overlapsZone g i && (s.zone i).state == .purging
      zoneFault := f.zoneFault || s.zoneNumbers.any fun i => s.overlapsZone g i && (s.zone i).state == .fault }

/-! ## In band, dwell credit and exposure (R91, R108) -/

/-- A zone is inside the band (R108), from the band half-width of the zone profile. -/
def Zone.inside (z : Zone) (fresh : Bool) (band : Nat) : Bool :=
  match z.state, z.corrected, z.setpoint with
  | .off, _, _ => false
  | .fault, _, _ => false
  | _, some c, some sp => fresh && decide (c - sp ≤ band ∧ sp - c ≤ band)
  | _, _, _ => false

def State.zoneProfile (s : State) : Option Profile := s.zsv.profile.bind s.pst.profile
def State.band (s : State) : Nat := (s.zoneProfile.map Profile.bandHalf).getD 0

def State.insideBand (s : State) (i : Nat) : Bool := (s.zone i).inside (s.stationFresh i) s.band

/-- In band: READY and inside the band (R108). -/
def State.inBand (s : State) (i : Nat) : Bool := (s.zone i).state == .ready && s.insideBand i

/-- Credit and exposure saturate (R91). -/
def satAdd (a b : Nat) : Nat := min (a + b) 4294967295

def minOpt (a : Option Int) (b : Int) : Option Int :=
  match a with
  | none => some b
  | some x => some (min x b)

def maxOpt (a : Option Int) (b : Int) : Option Int :=
  match a with
  | none => some b
  | some x => some (max x b)

/-- The corrected temperatures of the zones a segment overlaps (R91). -/
def State.overlappedTemps (s : State) (g : Segment) : List Int :=
  (s.zoneNumbers.filter fun i => s.overlapsZone g i).filterMap fun i => (s.zone i).corrected

/-- A closed segment wholly inside the tunnel with every zone it overlaps in band is credited (R91). -/
def State.credited (s : State) (g : Segment) : Bool :=
  g.b1.isSome && g.whollyInside s.str.belt s.entryDistance s.tunnel
    && s.zoneNumbers.all fun i => !s.overlapsZone g i || s.inBand i

/-- What a segment accrues over Δ (R91). -/
def State.accrued (s : State) (delta : Nat) (g : Segment) : Segment :=
  let h := if g.partlyInside s.str.belt s.entryDistance s.tunnel then { g with exposure := satAdd g.exposure delta } else g
  if s.credited g then
    { h with
      credit := satAdd h.credit delta
      minTemp := (s.overlappedTemps g).foldl minOpt h.minTemp
      maxTemp := (s.overlappedTemps g).foldl maxOpt h.maxTemp }
  else h

/-- Δ of a scan completion (R91). -/
def State.accrualDelta (s : State) : Nat :=
  match s.str.lastAccrual with
  | none => 0
  | some t => s.clock - t

/-- A scan completion is taken from SLM (R91). -/
def State.scanCompletion (s : State) : State :=
  s.onStr fun t => { t with segments := t.segments.map (s.accrued s.accrualDelta), lastAccrual := some s.clock }

end Sys2Proof.Machine
end

