-- ==== Sys2Proof/Machine/Zones.lean ====
section
/-! DEFINITION. The Zone Supervisor's operations (R102 to R137): setpoints and limits, settling, purge, the shared reference
probe, zone faults, readings, and the actions of ZONE COMMAND on one zone. -/

namespace Sys2Proof.Machine

/-! ## States -/

/-- The states with a setpoint: WARMING, READY, STANDBY, PURGING, CALIBRATING (R107, R116). -/
def ZoneState.heating : ZoneState → Bool
  | .off | .fault => false
  | _ => true

/-- WARMING, READY or STANDBY (R131). -/
def ZoneState.steady : ZoneState → Bool
  | .warming | .ready | .standby => true
  | _ => false

def ZoneReturn.state : ZoneReturn → ZoneState
  | .warming => .warming
  | .ready => .ready
  | .standby => .standby

/-- The return state a zone takes when it enters PURGING or CALIBRATING (R125, R131). -/
def ZoneState.asReturn : ZoneState → Option ZoneReturn
  | .warming => some .warming
  | .ready => some .ready
  | .standby => some .standby
  | _ => none

/-! ## Setpoint and over-temperature limit (R106, R107) -/

/-- The setpoint of a state or return state under a profile (R106). -/
def Profile.setpointFor (p : Profile) : ZoneReturn → Int
  | .standby => (p.setTemp : Int) - p.standbyDrop
  | _ => p.setTemp

/-- The setpoint or the zone profile changes: the limit becomes its target, or keeps its value with lowering pending; a zone
leaving OFF keeps 24,999 (R107). -/
def Zone.retarget (p : Profile) (sp : Int) (z : Zone) : Zone :=
  let target := sp + 4 * (p.bandHalf : Int)
  let standing := z.limit.getD 24999
  let cool : Bool := match z.corrected with
    | some c => decide (c ≤ sp + p.bandHalf)
    | none => false
  if standing ≤ target ∨ cool then { z with setpoint := some sp, limit := some target, lowering := false }
  else { z with setpoint := some sp, limit := some standing, lowering := true }

/-- Take a setpoint; where it does not change, the limit stands (R107). -/
def Zone.takeSetpoint (p : Profile) (sp : Int) (z : Zone) : Zone :=
  if z.setpoint = some sp then z else z.retarget p sp

def State.takeSetpoint (s : State) (i : Nat) (r : ZoneReturn) : State :=
  match s.zoneProfile with
  | none => s
  | some p => s.onZone i (Zone.takeSetpoint p (p.setpointFor r))

/-! ## Settle timer (R113) -/

def State.stopSettle (s : State) (i : Nat) : State := s.onZone i fun z => { z with settle := .stopped }

/-- RUNNING from now when the zone is inside the band, STOPPED otherwise. -/
def State.restartSettle (s : State) (i : Nat) : State :=
  s.onZone i fun z =>
    { z with settle := if s.insideBand i then .running (s.clock + s.zsv.settleTime) else .stopped }

/-- A zone leaves PURGING or CALIBRATING for its return state; one that returns to WARMING restarts its settle timer
(R127, R132, R134). -/
def State.returnZone (s : State) (i : Nat) : State :=
  match (s.zone i).ret with
  | none => s
  | some r =>
    let t := s.onZone i fun z => { z with state := r.state, ret := none }
    if r = .warming then t.restartSettle i else t

/-! ## Purge (R121 to R127) -/

/-- The zone enters PURGING with a return state (R124, R125). -/
def State.beginPurge (s : State) (i : Nat) (r : ZoneReturn) : State :=
  s.onZone i fun z =>
    { z with
      state := .purging, ret := some r, settle := .stopped, purgePending := false, forceTime := none
      purgeEnd := some (s.clock + s.zsv.purgeDuration * 1000), purgeCount := saturating 65535 z.purgeCount }

/-- The start test (R124). -/
def State.startTest (s : State) (i : Nat) : State :=
  let z := s.zone i
  if z.purgePending && !z.occupied then
    match z.state with
    | .ready => s.beginPurge i .ready
    | .standby => s.beginPurge i .standby
    | _ => s
  else s

/-- The start test of every configured zone. -/
def State.startTests (s : State) : State := s.zoneNumbers.foldl State.startTest s

/-- A zone becomes purge pending with a deadline (R122, R123). -/
def State.pendPurge (s : State) (i deadline : Nat) : State :=
  (s.onZone i fun z =>
    { z with
      purgeDeadline := some deadline, purgePending := true
      forceTime := some (deadline + s.zsv.purgeGrace * 1000) }).startTest i

/-! ## The reference probe (R129 to R134) -/

/-- A queued zone may be handed the reference (R131). -/
def State.eligible (s : State) (i : Nat) : Bool := (s.zone i).state.steady && !(s.zone i).occupied

/-- LONG when the zone is not calibrated, SHORT when it is (R131). -/
def Zone.calKind (z : Zone) : CalKind := if z.calibrated then .short else .long

/-- 40,000 ms for LONG, 8,000 ms for SHORT (R131). -/
def CalKind.compareTime : CalKind → Nat
  | .long => 40000
  | .short => 8000

/-- Hand the free reference to the first eligible zone of the queue (R131). -/
def State.handOut (s : State) : State :=
  match s.zsv.reference with
  | some _ => s
  | none =>
    match s.zsv.calQueue.find? s.eligible with
    | none => s
    | some i =>
      let k := (s.zone i).calKind
      (s.onZsv fun v =>
        { v with
          calQueue := v.calQueue.filter fun j => j != i
          reference := some { zone := i, kind := k, deadline := s.clock + k.compareTime, asked := false } }).onZone i
        fun z => { z with state := .calibrating, ret := z.state.asReturn, settle := .stopped }

/-- After a release or a hand-over every start test is made before the hand-out (R124, R131). -/
def State.startThenHandOut (s : State) : State := s.startTests.handOut

def State.ownsReference (s : State) (i : Nat) : Bool :=
  match s.zsv.reference with
  | some r => r.zone == i
  | none => false

/-- A compare done of the zone's station can be this calibration's: the zone owns the reference and has been polled as its owner
(R132, R135; log 31). -/
def State.compareStands (s : State) (i : Nat) : Bool :=
  match s.zsv.reference with
  | some r => r.zone == i && r.asked
  | none => false

/-- The poll of a station is sent: the owner of the reference is thereby asked to compare (R131, R162). -/
def Zsv.ask (n : Nat) (v : Zsv) : Zsv :=
  { v with reference := v.reference.map fun r => if r.zone = n then { r with asked := true } else r }

/-- A zone enters the queue at its tail; one that is queued, or owns the reference, does not (R130). -/
def State.joinQueue (s : State) (i : Nat) : State :=
  if s.zsv.calQueue.contains i || s.ownsReference i then s
  else s.onZsv fun v => { v with calQueue := v.calQueue ++ [i] }

def State.queueCalibration (s : State) (i : Nat) : State := (s.joinQueue i).handOut

def State.leaveQueue (s : State) (i : Nat) : State :=
  s.onZsv fun v => { v with calQueue := v.calQueue.filter fun j => j != i }

def State.releaseReference (s : State) : State := s.onZsv fun v => { v with reference := none }

/-- An abandoned or timed out calibration of the owner: the zone returns and is requeued (R133, R134). -/
def State.requeueOwner (s : State) (i : Nat) : State :=
  ((s.releaseReference.returnZone i).joinQueue i).startThenHandOut

/-- The offset of a compare, and whether the clamp acts (R132). -/
def compareOffset (raw reference : Int) : Int × Bool :=
  (max (-500) (min 500 (reference - raw)), decide (reference - raw < -500 ∨ 500 < reference - raw))

/-- The corrected temperature formed again from the last raw reading; absent stays absent (R104, R111, R132). -/
def Zone.withOffset (offset : Int) (z : Zone) : Zone :=
  { z with
    offset := offset
    corrected := match z.corrected, z.lastRaw with
                 | some _, some raw => some (satTemp (raw + offset))
                 | c, _ => c }

/-- A calibration completes (R132). The start test that follows begins a purge that is pending in the same event where the zone
returns to READY or STANDBY, so a force time that comes with the response finds it begun and does nothing (log 36). -/
def State.completeCalibration (s : State) (i : Nat) (raw reference : Int) : State :=
  let t := s.onZone i fun z =>
    { z.withOffset (compareOffset raw reference).1 with
      calibrated := true, calLimit := (compareOffset raw reference).2
      calibrationDue := if s.zsv.recalInterval = 0 then none else some (s.clock + s.zsv.recalInterval * 1000) }
  ((t.releaseReference.returnZone i).raise .calDone).startThenHandOut

/-! ## OFF, FAULT and the heating states -/

/-- What entry to OFF and entry to FAULT share: the purge ends, the calibration is abandoned, the zone leaves the queue
(R111, R116, R122). -/
def Zone.shut (st : ZoneState) (z : Zone) : Zone :=
  { z with
    state := st, setpoint := none, limit := none, ret := none, settle := .stopped, purgeDeadline := none
    purgePending := false, forceTime := none, purgeEnd := none }

/-- The zone leaves the queue; a reference it owns is released and handed out after the zone has taken its state. -/
def State.dropCalibration (s : State) (i : Nat) : State :=
  if s.ownsReference i then (s.leaveQueue i).releaseReference.startThenHandOut else s.leaveQueue i

/-- A zone enters FAULT (R116); a zone in OFF or FAULT does not. -/
def State.faultZone (s : State) (i : Nat) (cause : ZoneCause) : State :=
  if (s.zone i).state.heating then
    let t := s.onZone i fun z => { z.shut .fault with faultCause := some cause }
    (((t.flagZone i PanelFlags.setZoneFault).raise .zoneFault).dropCalibration i)
  else s

/-- A zone enters OFF (R111). -/
def State.offZone (s : State) (i : Nat) : State :=
  (s.onZone i fun z =>
    { (z.shut .off).withOffset 0 with
      lowering := false, calibrated := false, calLimit := false, faultCause := none }).dropCalibration i

/-- A zone enters WARMING by WARM (R112); from OFF it takes a purge deadline (R122). -/
def State.warmZone (s : State) (i : Nat) : State :=
  let fromOff := (s.zone i).state == .off
  let t := s.onZone i fun z =>
    { z with
      state := .warming
      purgeDeadline := if fromOff then some (s.clock + s.zsv.purgeInterval * 1000) else z.purgeDeadline }
  ((t.takeSetpoint i .warming).restartSettle i).handOut

/-- A zone enters STANDBY by command (R115). -/
def State.standbyZone (s : State) (i : Nat) : State :=
  (((s.onZone i fun z => { z with state := .standby, settle := .stopped }).takeSetpoint i .standby).startTest i).handOut

/-! ## Readings and notices (R104, R113, R114, R116 to R118) -/

/-- The settle test of a fresh delivery (R113). -/
def State.settleTest (s : State) (i : Nat) : State :=
  let z := s.zone i
  if z.state = .warming then
    if s.insideBand i then
      match z.settle with
      | .stopped => s.onZone i fun z => { z with settle := .running (s.clock + s.zsv.settleTime) }
      | _ => s
    else s.stopSettle i
  else s

/-- The calibration entry of a fresh delivery (R114). -/
def State.calibrationEntry (s : State) (i : Nat) : State :=
  let z := s.zone i
  if z.state = .warming ∧ z.calibrated = false ∧ s.insideBand i = true then s.queueCalibration i else s

/-- A pending lowering is carried out by a reading at or below the top of the band (R107). -/
def Zone.lowerLimit (band : Nat) (z : Zone) : Zone :=
  match z.lowering, z.corrected, z.setpoint with
  | true, some c, some sp =>
    if c ≤ sp + band then { z with limit := some (sp + 4 * (band : Int)), lowering := false } else z
  | _, _, _ => z

/-- The over-temperature test (R107). -/
def Zone.overTemp (z : Zone) : Bool :=
  match z.corrected, z.limit with
  | some c, some l => z.state.heating && decide (l < c)
  | _, _ => false

/-- A fresh reading of a zone station (R104). -/
def State.freshReading (s : State) (i : Nat) (raw : Int) : State :=
  let t := s.onZone i fun z => { z with lastRaw := some raw, corrected := some (satTemp (raw + z.offset)) }
  if (t.zone i).overTemp then t.faultZone i .overtemp
  else ((t.onZone i (Zone.lowerLimit t.band)).settleTest i).calibrationEntry i

/-- SLM's notice that a zone station has a new condition (R104, R113, R118). -/
def State.zoneNotice (s : State) (i : Nat) (c : Condition) : State :=
  let gone := s.onZone i fun z =>
    { z with corrected := none, settle := if z.state = .warming then .stopped else z.settle }
  match c with
  | .fresh => s
  | .lost => gone.faultZone i .station
  | _ => gone

/-- Request codes of a zone station (R117). -/
def State.zoneCode (s : State) (i code : Nat) : State :=
  if code = 1 then s.faultZone i .valveFault else if code = 2 then s.faultZone i .probeFault else s

/-- The reading and then a compare done of one response (R104, R132). The delivery may abandon the calibration, by a FAULT, or
hand the reference to the zone; a calibration so begun is not the one the response reports (R135). -/
def State.zoneReadings (s : State) (i : Nat) (fresh : Bool) (status : Byte) (raw reference : Int) : State :=
  let t := if fresh then s.freshReading i raw else s
  if compareDone status && t.compareStands i then t.completeCalibration i raw reference else t

/-- The code and the readings of one zone response, "taken in either order" (R117, log 7): which comes first is a free
value where it can matter. -/
def State.zoneResponse (s : State) (i : Nat) (fresh : Bool) (code : Nat) (status : Byte) (raw reference : Int) : State :=
  if code ≠ 1 ∧ code ≠ 2 then s.zoneReadings i fresh status raw reference
  else if !fresh && !compareDone status then s.zoneCode i code
  else if Config.codeBeforeReading s.freeCtr then (s.zoneCode i code).zoneReadings i fresh status raw reference
  else (s.zoneReadings i fresh status raw reference).zoneCode i code

/-! ## The zone profile (R105) -/

/-- What the switch makes of one zone. -/
def Zone.switched (p : Profile) (z : Zone) : Zone :=
  match z.state with
  | .off | .fault => z
  | .ready => { z.retarget p (p.setpointFor .warming) with state := .warming }
  | .warming => z.retarget p (p.setpointFor .warming)
  | .standby => z.retarget p (p.setpointFor .standby)
  | .purging | .calibrating =>
    match z.ret with
    | some .standby => z.retarget p (p.setpointFor .standby)
    | some _ => { z.retarget p (p.setpointFor .warming) with ret := some .warming }
    | none => z

/-- A WARMING zone restarts its settle timer at the switch. -/
def State.restartIfWarming (s : State) (i : Nat) : State :=
  if (s.zone i).state = .warming then s.restartSettle i else s

/-- The two conditions of the switch. -/
def State.switchDue (s : State) (id : Nat) : Bool :=
  decide (s.zsv.profile ≠ some id)
    && !(s.str.segments.any fun g => (some g.profileId == s.zsv.profile) && s.stillToLeave g)

/-- The zone profile switches to the head job's profile, when both conditions hold. -/
def State.switchTest (s : State) : State :=
  match s.headJobProfileId with
  | none => s
  | some id =>
    match s.pst.profile id with
    | none => s
    | some p =>
      if s.switchDue id then
        let t := s.onZsv fun v => { v with profile := some id }
        t.zoneNumbers.foldl (fun u i => (u.onZone i (Zone.switched p)).restartIfWarming i) t
      else s

/-! ## ZONE COMMAND on one zone (R110) -/

inductive ZoneOutcome
  | accepted | noChange | refused
  deriving DecidableEq, Repr

def ZoneOutcome.code : ZoneOutcome → Byte
  | .accepted => 1#8 | .noChange => 2#8 | .refused => 3#8

/-- STANDBY on a PURGING or CALIBRATING zone: the return state becomes STANDBY, with its setpoint and limit. -/
def State.returnToStandby (s : State) (i : Nat) : State × ZoneOutcome :=
  if (s.zone i).ret = some .standby then (s, .noChange)
  else ((s.onZone i fun z => { z with ret := some .standby }).takeSetpoint i .standby, .accepted)

/-- PURGE on a zone that is not PURGING, OFF or FAULT (R123). -/
def State.purgeCommand (s : State) (i : Nat) : State × ZoneOutcome :=
  if (s.zone i).purgePending then (s, .noChange) else (s.pendPurge i s.clock, .accepted)

/-- The table of R110. -/
def State.zoneAction (s : State) (a : ZoneAction) (i : Nat) : State × ZoneOutcome :=
  match a, (s.zone i).state with
  | .warm, .off =>
    if s.zoneProfile.isNone || s.stationLost i then (s, .refused) else (s.warmZone i, .accepted)
  | .warm, .warming | .warm, .ready => (s, .noChange)
  | .warm, .standby => (s.warmZone i, .accepted)
  | .warm, _ => (s, .refused)
  | .standby, .off | .standby, .fault => (s, .refused)
  | .standby, .warming | .standby, .ready => (s.standbyZone i, .accepted)
  | .standby, .standby => (s, .noChange)
  | .standby, _ => s.returnToStandby i
  | .off, .off => (s, .noChange)
  | .off, _ => (s.offZone i, .accepted)
  | .calibrate, .off | .calibrate, .fault => (s, .refused)
  | .calibrate, .calibrating => (s, .noChange)
  | .calibrate, _ => (s.queueCalibration i, .accepted)
  | .purge, .off | .purge, .fault => (s, .refused)
  | .purge, .purging => (s, .noChange)
  | .purge, _ => s.purgeCommand i

/-- The named zones one by one, each outcome in turn (R109). -/
def State.zoneActions (a : ZoneAction) : List Nat → State → State × List ZoneOutcome
  | [], s => (s, [])
  | i :: rest, s =>
    let r := s.zoneAction a i
    let q := State.zoneActions a rest r.1
    (q.1, r.2 :: q.2)

/-! ## Timers

Each answers `none` when the zone has no such time, so that the event does not arise. -/

/-- SETTLE_EXPIRY (R113). -/
def State.settleExpiry (s : State) (i : Nat) : Option State :=
  match (s.zone i).state, (s.zone i).settle with
  | .warming, .running e =>
    let t := s.reach e
    some <|
      if (t.zone i).calibrated then
        ((t.onZone i fun z => { z with state := .ready, settle := .stopped }).raise .zoneReady).startThenHandOut
      else t.onZone i fun z => { z with settle := .settled }
  | _, _ => none

/-- PURGE_DEADLINE (R122). -/
def State.purgeFallsDue (s : State) (i : Nat) : Option State :=
  match (s.zone i).purgeDeadline with
  | none => none
  | some d =>
    if !(s.zone i).purgePending && ((s.zone i).state.steady || (s.zone i).state == .calibrating) then
      some ((s.reach d).pendPurge i d)
    else none

/-- What follows the start of a forced purge (R125). -/
def State.purgeForced (s : State) (i : Nat) : State :=
  ((s.flagZone i PanelFlags.setPurged).raise .purgeForced).startThenHandOut

/-- FORCE_TIME (R125). -/
def State.forcePurge (s : State) (i : Nat) : Option State :=
  match (s.zone i).forceTime with
  | none => none
  | some f =>
    if (s.zone i).purgePending then
      match (s.zone i).state with
      | .warming => some (((s.reach f).beginPurge i .warming).purgeForced i)
      | .ready => some (((s.reach f).beginPurge i .ready).purgeForced i)
      | .standby => some (((s.reach f).beginPurge i .standby).purgeForced i)
      | .calibrating =>
        some ((((s.reach f).releaseReference.beginPurge i ((s.zone i).ret.getD .standby)).joinQueue i).purgeForced i)
      | _ => none
    else none

/-- PURGE_END_TIME (R127). -/
def State.endPurge (s : State) (i : Nat) : Option State :=
  match (s.zone i).state, (s.zone i).purgeEnd with
  | .purging, some e =>
    let t := s.reach e
    some ((t.onZone i fun z =>
        { z with purgeEnd := none, purgeDeadline := some (t.clock + t.zsv.purgeInterval * 1000) }).returnZone i).handOut
  | _, _ => none

/-- COMPARE_DEADLINE (R133). -/
def State.compareTimeout (s : State) : Option State :=
  s.zsv.reference.map fun r => (s.reach r.deadline).requeueOwner r.zone

/-- CALIBRATION_DUE (R130). -/
def State.calibrationFallsDue (s : State) (i : Nat) : Option State :=
  (s.zone i).calibrationDue.map fun d =>
    let t := (s.reach d).onZone i fun z => { z with calibrationDue := none }
    if (t.zone i).state.steady || (t.zone i).state == .purging then t.queueCalibration i else t

/-! ## Occupancy (R95) and LINE RESET (R120, R136) -/

/-- STR hands the occupancy of every configured zone. -/
def State.takeOccupancy (s : State) : State :=
  s.zoneNumbers.foldl (fun t i => t.onZone i fun z => { z with occupied := s.zoneOccupied i }) s

/-- The occupancy hand-over: start tests, then the hand-out (R124, R131). -/
def State.handOverOccupancy (s : State) : State := s.takeOccupancy.startThenHandOut

/-- The occupancy hand-over of a belt advance also names the CALIBRATING zone now entered, whose calibration is abandoned
(R95, R134). -/
def State.handOverAdvance (s : State) : State :=
  let t := s.takeOccupancy
  match t.zsv.reference with
  | some r => if (t.zone r.zone).occupied then t.requeueOwner r.zone else t.startThenHandOut
  | none => t.startThenHandOut

/-- One zone at LINE RESET (R120, R136). -/
def Zone.lineReset (now grace : Nat) (p : Option Profile) (z : Zone) : Zone :=
  match z.state with
  | .off | .fault => { z with occupied := false }
  | st =>
    let stood := match p with
      | none => z
      | some q => z.takeSetpoint q (q.setpointFor .standby)
    { stood with
      state := .standby, ret := none, settle := .stopped, occupied := false, purgeEnd := none
      purgePending := z.purgePending || st == .purging
      forceTime := if st = .purging then some (now + grace * 1000) else z.forceTime }

/-- ZSV at LINE RESET (R120, R136): the queue emptied, the reference released, heating zones to STANDBY, start tests. -/
def State.zonesLineReset (s : State) : State :=
  (s.onZsv fun v =>
    { v with
      calQueue := [], reference := none
      zones := v.zones.map (Zone.lineReset s.clock v.purgeGrace s.zoneProfile) }).startTests

end Sys2Proof.Machine
end

