-- ==== Sys2Proof/Machine/BeltPath.lean ====
section
/-! DEFINITION. The belt and the cutter (R84, R85, R92 to R98): what a belt advance sets off, in the order of R92, the belt
stop, the cut checks, and finishing a segment at its tail cut. -/

namespace Sys2Proof.Machine

/-! ## Cut checks (R96) -/

/-- The cut that the oldest segment calls for, with its downstream offset. -/
def Segment.cutDue (g : Segment) (belt cutDistance : Nat) : Option (CutKind × Nat) :=
  if g.leadNeeded then
    if g.b0 + cutDistance ≤ belt then some (.lead, belt - g.b0 - cutDistance) else none
  else
    match g.b1 with
    | none => none
    | some b1 => if b1 + cutDistance ≤ belt then some (.tail, belt - b1 - cutDistance) else none

/-- A cut check: made when the cutter is IDLE, of the oldest segment alone. -/
def State.cutCheck (s : State) : State :=
  match s.str.cutter, s.str.segments with
  | .idle, g :: _ =>
    match g.cutDue s.str.belt s.cutDistance with
    | some (k, offset) => s.onStr fun t => { t with cutter := .cutting k offset }
    | none => s
  | _, _ => s

/-! ## Belt advance (R92) -/

/-- Zone flags, occupancy with the calibration entries, the zone profile test (R105) and the cut checks, in that order
(log 10). -/
def State.beltConsequences (s : State) : State :=
  let flagged := s.onStr fun t => { t with segments := t.segments.map s.zoneFlagged }
  flagged.handOverAdvance.switchTest.cutCheck

/-- The belt drive has driven the index in motion (R84). -/
def Str.indexDone (t : Str) : Str :=
  match t.pendingIdx with
  | [] => t
  | d :: rest => { t with belt := t.belt + d, pendingIdx := rest, moving := !rest.isEmpty }

/-- BELT_DONE without what SEQ does after it; `none` with no index in motion (R84). -/
def State.beltDone (s : State) : Option State :=
  if s.str.moving && !s.str.pendingIdx.isEmpty then some (s.onStr Str.indexDone).beltConsequences else none

/-! ## Belt stop (R85) -/

/-- A coordinate above B becomes B. -/
def Segment.lower (belt : Nat) (g : Segment) : Segment := { g with b0 := min g.b0 belt, b1 := g.b1.map (min · belt) }

/-- Steps 1 to 3 of R85, with the distance the drive actually advanced, at most the index's. -/
def Str.stopBelt (moved : Nat) (t : Str) : Str :=
  let belt := t.belt + (if t.moving then min moved (t.pendingIdx.headD 0) else 0)
  { t with
    belt := belt, pendingIdx := [], moving := false, segments := t.segments.map (Segment.lower belt)
    lastEnd := t.lastEnd.map (min · belt) }

/-- The belt stop: the consequences follow where an index was in motion or pending. -/
def State.stopBelt (s : State) (moved : Nat) : State :=
  let t := s.onStr (Str.stopBelt moved)
  if s.str.pendingIdx.isEmpty then t else t.beltConsequences

/-! ## Cut-done (R97, R98) -/

/-- SET_SHORT and SET_OVER as the dwell limits of the segment's profile give them (R97). -/
def Segment.settled (p : Option Profile) (g : Segment) : Segment :=
  match p with
  | none => g
  | some q =>
    g.setFlags fun f =>
      { f with
        setShort := f.setShort || decide (g.credit < q.minDwell)
        setOver := f.setOver || decide (q.maxDwell < g.exposure) }

/-- The finished panel record of a settled segment (R97). EVU gives it its sequence. -/
def Segment.report (g : Segment) : Report :=
  { sequence := 0, jobId := g.jobId, panelNumber := g.panelNumber, patternId := g.patternId, profileId := g.profileId
    rawCounts := g.rawCounts, finished := g.finished, strokes := g.strokes, foldsMissed := g.foldsMissed
    retries := g.retries, flags := g.flags, credit := g.credit, exposure := g.exposure, minTemp := g.minTemp
    maxTemp := g.maxTemp, verdict := g.flags.verdict }

/-- The finished segment of a tail cut: the report is handed over, the segment leaves, the cutter is IDLE. -/
def State.finishSegment (s : State) (g : Segment) : State :=
  (s.writeReport (g.settled (s.pst.profile g.profileId)).report).onStr fun t =>
    { t with segments := t.segments.tail, reports := t.reports + 1, cutter := .idle }

/-- CUT_DONE without what SEQ does after it; `none` with the cutter IDLE (R97). -/
def State.cutDone (s : State) : Option State :=
  match s.str.cutter, s.str.segments with
  | .cutting .lead _, g :: rest =>
    some (s.onStr fun t => { t with segments := { g with leadNeeded := false } :: rest, cutter := .idle }).cutCheck
  | .cutting .tail _, g :: _ => some (s.finishSegment g).handOverOccupancy.switchTest.cutCheck
  | _, _ => none

/-- STR at LINE RESET (R83, R85). -/
def Str.lineReset (t : Str) : Str := { Str.powerOn with lastAccrual := t.lastAccrual }

end Sys2Proof.Machine
end

