-- ==== Sys2Proof/Machine/WebMarks.lean ====
section
/-! DEFINITION. The Web Tracker (R66 to R82): making and merging marks, the open mark's growth and close, passage at the pleat
head, the questions of SEQ, and the commands that reach it. -/

namespace Sys2Proof.Machine

/-! ## Merging DEFECT regions (R70) -/

/-- Two regions overlap or touch. -/
def touching (a0 a1 b0 b1 : Int) : Bool := decide (a0 ≤ b1 ∧ b0 ≤ a1)

/-- The HOST tag a region or mark carries. -/
def Mark.hostTag (m : Mark) : Option Nat :=
  match m.kind with
  | .defect t _ => t
  | .splice _ => none

/-- The tag of two merged marks (R70): of the HOST mark with the lower coordinate; a tie with the new region is a free value
(log 8). -/
def mergedTag (free : Nat) (region mark : Mark) : Option Nat :=
  match region.hostTag, mark.hostTag with
  | none, t => t
  | some t, none => some t
  | some t, some u =>
    if region.coord < mark.coord then some t
    else if mark.coord < region.coord then some u
    else if t = u then some t
    else if Config.tieKeepsNewTag free then some t else some u

/-- Where the HOST tag of a mark comes from while a merge gathers marks: its tag and the coordinate of the region named. -/
structure Merge where
  mark : Mark
  host : Mark
  deriving DecidableEq, Repr

/-- The merged mark covers the union; its open flag is set when either is the open mark; it is reached only if all of them were, so
an unreached region that merges into a reached mark makes the merged mark one to be reached (log 35). -/
def Merge.absorb (free : Nat) (inspect : Int) (g : Merge) (m : Mark) : Merge :=
  let tag := mergedTag free g.host m
  { mark :=
      { kind := .defect tag (g.mark.isOpen || m.isOpen), coord := min g.mark.coord m.coord
        stop := max (g.mark.endAt inspect) (m.endAt inspect), reached := g.mark.reached && m.reached }
    host :=
      { kind := .defect tag false
        coord := match g.host.hostTag, m.hostTag with
                 | some _, some _ => min g.host.coord m.coord
                 | none, some _ => m.coord
                 | _, _ => g.host.coord
        stop := 0, reached := false } }

/-- A mark of the list that a region merges with: a DEFECT that overlaps or touches it, or the open mark when a new region of
the sensor keeps it (R72). -/
def Merge.takes (inspect : Int) (g : Merge) (m : Mark) : Bool :=
  !m.isSplice
    && (touching g.mark.coord (g.mark.endAt inspect) m.coord (m.endAt inspect) || (g.mark.isOpen && m.isOpen))

/-- Merging is repeated until the result touches no other DEFECT mark (R70): the merged mark and the marks left. -/
def mergeAll (free : Nat) (inspect : Int) : Nat → Merge → List Mark → Mark × List Mark
  | 0, g, l => (g.mark, l)
  | fuel + 1, g, l =>
    match l.filter (g.takes inspect) with
    | [] => (g.mark, l)
    | taken => mergeAll free inspect fuel (taken.foldl (Merge.absorb free inspect) g) (l.filter fun m => !g.takes inspect m)

/-- Ascending coordinate, a SPLICE before a DEFECT of the same coordinate (R69). -/
def markBefore (a b : Mark) : Bool := decide (a.coord < b.coord) || (decide (a.coord = b.coord) && a.isSplice && !b.isSplice)

/-- A mark enters at the position its coordinate gives (R69). -/
def insertMark (m : Mark) : List Mark → List Mark
  | [] => [m]
  | x :: rest => if markBefore m x then m :: x :: rest else x :: insertMark m rest

/-- The mark that a DEFECT region becomes, and the list with it (R70). -/
def placeRegion (free : Nat) (inspect : Int) (region : Mark) (l : List Mark) : Mark × List Mark :=
  let r := mergeAll free inspect (l.length + 1) { mark := region, host := region } l
  (r.1, insertMark r.1 r.2)

/-- A region merges with some mark of the list. -/
def mergesInto (inspect : Int) (region : Mark) (l : List Mark) : Bool :=
  l.any (Merge.takes inspect { mark := region, host := region })

/-- A new region that merges with none needs a place: the list is full for it (R71). -/
def noPlace (inspect : Int) (region : Mark) (l : List Mark) : Bool :=
  !mergesInto inspect region l && (decide (60 ≤ l.countP fun m => !m.isSplice) || decide (64 ≤ l.length))

/-! ## Reaching and passing (R76, R77) -/

def MarkKind.isDefect : MarkKind → Bool
  | .defect _ _ => true
  | .splice _ => false

/-- The head fabric profile after a mark is reached. -/
def fabricAfter (fabric : Option Nat) (m : Mark) : Option Nat :=
  match m.kind with
  | .splice p => some p
  | .defect _ _ => fabric

/-- A panel is open (R76). -/
def State.panelOpen (s : State) : Bool := s.seq.openPanel.isSome

/-- Marks at or below the head that were not reached before are reached, in list order (R76): at an advance, and where a DEFECT or a
SPLICE enters. A mark that CONFIGURE LINE has put at or below the head is reached at the first of these (log 16). -/
def State.reachMarks (s : State) : State :=
  let now := s.wtr.marks.filter fun m => !m.reached && decide (m.coord ≤ s.headCoord)
  let t := s.onWtr fun w =>
    { w with
      marks := w.marks.map fun m => if m.coord ≤ s.headCoord then { m with reached := true } else m
      headFabric := now.foldl fabricAfter w.headFabric }
  if s.panelOpen then
    t.onOpenSegment fun g => g.setFlags fun f =>
      { f with splice := f.splice || now.any Mark.isSplice, defect := f.defect || now.any fun m => m.kind.isDefect }
  else t

/-- Marks whose end the head has passed leave the list; an open mark does not (R77): at an advance, and where an inactive edge
closes the open mark. A mark that CONFIGURE LINE has put behind the head leaves at the first of these (log 16). -/
def State.passMarks (s : State) : State :=
  s.onWtr fun w => { w with marks := w.marks.filter fun m => m.isOpen || decide (s.headCoord < m.stop) }

/-- The open mark takes the end that the inspection coordinate gives it, and merges with what it now touches (R73). -/
def State.growOpenMark (s : State) : State :=
  match s.wtr.marks.find? Mark.isOpen with
  | none => s
  | some m =>
    let grown := { m with stop := m.endAt s.inspectCoord }
    s.onWtr fun w => { w with marks := (placeRegion s.freeCtr s.inspectCoord grown (w.marks.filter fun x => !x.isOpen)).2 }

/-- The open mark is closed: its end fixed, its open flag cleared (R73). -/
def Mark.close (inspect : Int) (m : Mark) : Mark :=
  match m.kind with
  | .defect t true => { m with kind := .defect t false, stop := m.endAt inspect }
  | _ => m

def State.closeOpenMark (s : State) : State :=
  s.onWtr fun w => { w with marks := w.marks.map (Mark.close s.inspectCoord), closePending := false }

/-- WTR takes the head's advance, in the order of R78; the feed total has its new value. -/
def State.takeAdvance (s : State) : State :=
  let grown := s.growOpenMark
  let closed := if grown.wtr.closePending then grown.closeOpenMark else grown
  closed.reachMarks.passMarks

/-! ## New marks -/

/-- A DEFECT region is discarded (R71, R81). -/
def State.loseMark (s : State) : State :=
  (s.onWtr fun w => { w with markLost := saturating 255 w.markLost }).raise .markLost

/-- A DEFECT region merges or takes a place; a mark at or below the head is reached (R70, R71, R76). -/
def State.enterRegion (s : State) (region : Mark) : State :=
  (s.onWtr fun w => { w with marks := (placeRegion s.freeCtr s.inspectCoord region w.marks).2 }).reachMarks

/-- The region of an active edge (R72): open, at the inspection coordinate as it stands. -/
def State.sensorRegion (s : State) : Mark :=
  { kind := .defect none true, coord := s.inspectCoord, stop := s.inspectCoord + 1, reached := false }

/-- DEFECT_ACTIVE_EDGE (R72). -/
def execDefectActiveEdge (s : State) : Host.Outcome State Fault Refusal :=
  let t := s.onWtr fun w => { w with defectActive := true, closePending := false }
  .next (if noPlace t.inspectCoord t.sensorRegion t.wtr.marks then t.loseMark else t.enterRegion t.sensorRegion)

/-- A feed is in progress (R72). -/
def State.feeding (s : State) : Bool := s.seq.feedPort.isSome

/-- DEFECT_INACTIVE_EDGE (R73): during a feed the close is pending; otherwise the open mark closes at once and is judged for
passage (R77). -/
def execDefectInactiveEdge (s : State) : Host.Outcome State Fault Refusal :=
  let t := s.onWtr fun w => { w with defectActive := false }
  .next <|
    if s.feeding then t.onWtr fun w => { w with closePending := true }
    else if s.wtr.marks.any Mark.isOpen then t.closeOpenMark.passMarks else t

/-- The coordinate of a new SPLICE (R75): above the highest SPLICE of the list. -/
def spliceCoord (tableCoord : Int) (l : List Mark) : Int :=
  (l.filter Mark.isSplice).foldl (fun c m => max c (m.coord + 1)) tableCoord

/-- RCU hands WTR a new splice (R75). -/
def State.makeSplice (s : State) (profileId : Nat) : State :=
  let c := spliceCoord s.tableCoord s.wtr.marks
  let m : Mark :=
    { kind := .splice profileId, coord := c, stop := c + s.counts s.rcu.settings.spliceLength, reached := false }
  (s.onWtr fun w => { w with marks := insertMark m w.marks }).reachMarks

/-! ## What SEQ asks (R79) -/

/-- The marks that overlap the window from the head to the head plus a span, both ends included. -/
def State.marksInWindow (s : State) (span : Nat) : List Mark :=
  s.wtr.marks.filter fun m => decide (m.coord ≤ s.headCoord + span ∧ s.headCoord < m.endAt s.inspectCoord)

/-- The greatest of some ends. -/
def greatest : List Int → Option Int
  | [] => none
  | x :: rest => some (rest.foldl max x)

/-- The greatest end among the marks in the window. -/
def State.windowEnd (s : State) (span : Nat) : Option Int :=
  greatest ((s.marksInWindow span).map (Mark.endAt s.inspectCoord))

/-- The end of the nearest SPLICE ahead of the head with a profile. The list ascends, so it is the first such mark. -/
def State.spliceAhead (s : State) (profileId : Nat) : Option Int :=
  (s.wtr.marks.find? fun m => m.kind == .splice profileId && decide (s.headCoord < m.coord)).map Mark.stop

/-! ## REPORT DEFECT and READ MARKS -/

/-- The region of a REPORT DEFECT (R74). -/
def State.hostRegion (s : State) (offset : Int) (extent tag : Nat) : Mark :=
  { kind := .defect (some tag) false, coord := s.headCoord + offset, stop := s.headCoord + offset + extent, reached := false }

/-- R74. The reply carries the coordinate and extent of the mark the region now forms part of. -/
def handleReportDefect (payload : List Byte) (s : State) : State × List Byte :=
  let offset := fieldAtSigned payload 0 4
  let extent := fieldAt payload 4 6
  let region := s.hostRegion offset extent (fieldAt payload 10 2)
  if payload.length ≠ 12 then (s, statusOnly .length)
  else if extent < 1 ∨ 1000000 < extent then (s, statusOnly .range)
  else if offset < 0 then (s, statusOnly .range)
  else if s.tableCoord < s.headCoord + offset then (s, statusOnly .range)
  else if noPlace s.inspectCoord region s.wtr.marks then (s.loseMark, statusOnly .full)
  else
    let m := (placeRegion s.freeCtr s.inspectCoord region s.wtr.marks).1
    ((s.enterRegion region).useFree,
     Status.ok.code :: beInt 8 m.coord ++ beBytes 6 (m.endAt s.inspectCoord - m.coord).toNat)

def execReportDefect (tag : BitVec 16) (payload : List Byte) (s : State) : Host.Outcome State Fault Refusal :=
  .next (hostRequest 0x30#8 .configuredOnly handleReportDefect tag payload s)

/-- The mark record of R206: a DEFECT has source HOST exactly when it carries a host tag, and the open flag is absent for a
SPLICE (R68). -/
def Mark.toBytes (inspect : Int) (m : Mark) : List Byte :=
  (match m.kind with
   | .splice p => [1#8, 1#8] ++ beBytes 1 p ++ [0xFF#8]
   | .defect t o => [2#8, if t.isSome then 3#8 else 2#8, 0xFF#8, yesNo o])
    ++ beInt 8 m.coord ++ beBytes 6 (m.endAt inspect - m.coord).toNat ++ presentBytes 2 m.hostTag
    ++ [0#8, 0#8, 0#8]

/-- The items of READ MARKS (R80). -/
def marksBody (s : State) (first count : Nat) : List Byte :=
  beInt 8 s.headCoord ++ beInt 8 s.inspectCoord ++ beInt 8 s.tableCoord ++ beOpt 1 s.wtr.headFabric
    ++ [if s.wtr.defectActive then 1#8 else 2#8, yesNo s.wtr.closePending] ++ beBytes 1 s.wtr.markLost
    ++ beBytes 1 s.wtr.marks.length ++ beBytes 1 s.wtr.spliceCount
    ++ countedList (Mark.toBytes s.inspectCoord) ((s.wtr.marks.drop first).take count)

/-- READ MARKS (R80). DEDUCED (log 5): the first position takes one byte, as the table of R205 names no list position and this is
read like a step index. -/
def handleReadMarks (payload : List Byte) (s : State) : State × List Byte :=
  let first := fieldAt payload 0 1
  let count := fieldAt payload 1 1
  if payload.length ≠ 2 then (s, statusOnly .length)
  else if 63 < first ∨ count < 1 ∨ 32 < count then (s, statusOnly .range)
  else (s, Status.ok.code :: marksBody s first count)

def execReadMarks (tag : BitVec 16) (payload : List Byte) (s : State) : Host.Outcome State Fault Refusal :=
  .next (hostRequest 0x31#8 .always handleReadMarks tag payload s)

/-- WTR at LINE RESET (R67, R82): the input level is the one its last edge gave. -/
def Wtr.lineReset (w : Wtr) : Wtr := Wtr.powerOn w.defectActive

end Sys2Proof.Machine
end

