-- ==== Sys2Proof/Machine/Sequencer.lean ====
section
/-! DEFINITION. The Panel Sequencer (R42 to R64): entering and leaving its states, the panel start, waste feeds, the steps of a
panel, the ends of a panel and of a stay in WASTE, and `settle`, which takes the hold points, the WAITs that have run and
the standing trigger at the end of an event. The commands that drive it stand in SequencerCommands.lean. -/

namespace Sys2Proof.Machine

/-! ## States -/

def State.setMode (s : State) (m : SeqMode) : State := s.onSeq fun q => { q with mode := m }

/-- SEQ is IDLE. -/
def State.seqIdle (s : State) : Bool := s.seq.mode == .idle

/-- SEQ enters IDLE: phase, return point and fault reason become absent and the pace timer stops (R47, R53). -/
def Seq.toIdle (q : Seq) : Seq :=
  { q with mode := .idle, paceTimer := none, step := none, chunk := none, wasteTarget := none, ending := Ending.none }

def State.toIdle (s : State) : State := s.onSeq Seq.toIdle

/-- Entry to HOLDING with a return point (R44). -/
def State.enterHolding (s : State) (p : ReturnPoint) : State := (s.setMode (.holding p)).raise .seqHold

/-- Entry to FAULT, or a change of the reason in FAULT; nothing is raised where the reason stands already (R184). -/
def State.enterFault (s : State) (r : SeqFaultReason) : State :=
  if s.seq.mode = .fault r then s
  else (s.onSeq fun q => { q with mode := .fault r, step := none, chunk := none, wasteTarget := none }).raise .seqFault

/-- SEQ enters ARMED, HOLDING with return point ARMED when it is held, or IDLE when the queue is empty (R40, R44, R62). -/
def State.toArmed (s : State) : State :=
  if s.seq.jobs.isEmpty then s.toIdle else if s.held then s.enterHolding .armed else s.setMode .armed

/-! ## Leaving the queue, ending a panel, ending a stay (R40, R52, R62) -/

/-- The head job leaves, and the zone profile is tested for the next one (R105). -/
def State.removeHead (s : State) : State := (s.onSeq fun q => { q with jobs := q.jobs.tail }).switchTest

/-- The head job leaves at a panel end or at the end of a stay in WASTE (R40, R62). -/
def State.headLeaves (s : State) : State := s.removeHead.raise .jobDone

def Job.advance (j : Job) : Job := { j with panelsDone := j.panelsDone + 1 }

/-- R62 step 4, of a job whose panels done has advanced. -/
def Job.finished (j : Job) : Bool := j.panelsDone == j.panelCount || j.cancelPending

/-- The end of a panel, steps 1 to 4 of R62. -/
def State.endPanel (s : State) (reachedEnd : Bool) : State :=
  let t := ((s.onStr (Str.closeSegment reachedEnd)).onSeq fun q =>
    { q with
      openPanel := none, lastStrokeStart := none, step := none, jobs := q.jobs.modify 0 Job.advance }).onFca
    fun f => { f with panelLp := none }
  if (t.headJob.map Job.finished).getD false then t.headLeaves else t

/-- The head job is to be removed. -/
def State.headCancelPending (s : State) : Bool := (s.headJob.map Job.cancelPending).getD false

/-- The end of a stay in WASTE; a cancel-pending head job leaves (R40). -/
def State.endStay (s : State) : State :=
  let t := s.onSeq fun q => { q with chunk := none, wasteTarget := none, lastStrokeStart := none }
  if t.headCancelPending then t.headLeaves else t

/-- SEQ is in WASTE, or HOLDING with a return point in WASTE. -/
def SeqMode.inWaste : SeqMode → Bool
  | .wasteFeed | .wasteWait | .holding .wasteWait => true
  | _ => false

/-- An open panel ends as ABORTED; a stay in WASTE ends. -/
def State.endWork (s : State) : State :=
  if s.panelOpen then s.endPanel false else if s.seq.mode.inWaste then s.endStay else s

def Ending.any (e : Ending) : Bool := e.abort || e.stop || e.webEnd

/-- The effects that waited for the motion apply at its completion (R49, R52, R53, R64); a web end before a STOP LINE
(log 9). -/
def State.finishEnding (s : State) : State :=
  let e := s.seq.ending
  let t := (s.onSeq fun q => { q with ending := Ending.none }).endWork
  let u := if e.webEnd then t.enterFault .webEnd else t
  if e.stop then u.toIdle else if e.webEnd then u else u.toArmed

/-! ## Steps of a panel (R57 to R61) -/

/-- The record at the step pointer. -/
def State.currentRecord (s : State) : Option StepRecord :=
  s.seq.openPanel.bind fun p => s.headJobSteps[p.pointer]?

def PanelFlags.setCompLimit (f : PanelFlags) : PanelFlags := { f with compLimit := true }

/-- The FEED phase begins with a step computation (R58). -/
def State.beginFeed (s : State) (r : StepRecord) : State :=
  let a := s.stepAnswer r
  let t := (s.takeStep r).onSeq fun q =>
    { q with
      mode := .runFeed, feedPort := some a.counts
      step := some { graded := a.graded, interval := a.interval, stroked := false, retries := 0 } }
  if a.clamped then t.onOpenSegment fun g => g.setFlags PanelFlags.setCompLimit else t

/-- Take what the walk has come to (R57): the next step's FEED, unless SEQ is held there (R44); or the panel's end. -/
def State.takeWalk (s : State) (w : WalkStop) : State :=
  match w with
  | .forming i r cs =>
    let t := s.onSeq fun q =>
      { q with step := none, openPanel := q.openPanel.map fun p => { p with pointer := i, counters := cs } }
    if t.held then t.enterHolding .runFeed else t.beginFeed r
  | .ended _ => (s.endPanel true).toArmed
  | .lost => (s.endPanel false).toArmed

/-- The walk moves on from the step at the pointer (R57). -/
def State.walkOn (s : State) : State :=
  match s.seq.openPanel with
  | none => s
  | some p => s.takeWalk (walkTo s.headJobSteps walkFuel (p.pointer + 1) p.counters)

/-- The blades of a kind (R60). -/
def StepKind.blades : StepKind → BladeStroke
  | .box => .pairedOut
  | .inverted => .pairedIn
  | _ => .single

/-- The STROKE phase begins (R60), or a retry's stroke (R61). -/
def State.beginStroke (s : State) (r : StepRecord) (st : StepRun) : State :=
  let t := s.onSeq fun q =>
    { q with
      mode := .runStroke, lastStrokeStart := some s.clock, bladePort := some r.kind.blades, foldEdges := 0
      step := some { st with stroked := true, retries := if st.stroked then st.retries + 1 else st.retries } }
  if st.stroked then t.onOpenSegment fun g => { g with retries := g.retries + 1 }
  else (t.indexBelt st.graded).onOpenSegment fun g => { g with strokes := g.strokes + 1 }

/-- The end of a WAIT in RUNNING (R59, R60). -/
def State.endRunWait (s : State) : State :=
  match s.currentRecord, s.seq.step with
  | some r, some st =>
    if r.kind.pleat then s.beginStroke r st
    else ((s.onSeq fun q => { q with lastStrokeStart := some s.clock }).indexBelt st.graded).walkOn
  | _, _ => s

def PanelFlags.setFoldMiss (f : PanelFlags) : PanelFlags := { f with foldMiss := true }

/-- A fold is recorded missed: folds missed + 1, FOLD_MISS set (R61). -/
def Segment.missFold (g : Segment) : Segment :=
  { g.setFlags PanelFlags.setFoldMiss with foldsMissed := g.foldsMissed + 1 }

def State.foldMissed (s : State) : State := s.onOpenSegment Segment.missFold

/-- The edges a fold needs (R61). -/
def StepKind.foldsNeeded : StepKind → Nat
  | .knife => 1
  | .box | .inverted => 2
  | _ => 0

/-- The fold check under each confirm mode (R61). -/
def State.foldCheck (s : State) (r : StepRecord) (retries : Nat) : State :=
  if r.confirm = .ignore ∨ r.kind.foldsNeeded ≤ s.seq.foldEdges then s.walkOn
  else
    match r.confirm with
    | .stop => s.foldMissed.enterFault .fold
    | .retry => if retries < 2 then s.setMode .runWait else s.foldMissed.walkOn
    | _ => s.foldMissed.walkOn

/-- The fold check of a panel that ends at this stroke-done (R52): recorded, with no retry and no FAULT. -/
def State.lastFoldCheck (s : State) (r : StepRecord) : State :=
  if r.confirm = .ignore ∨ r.kind.foldsNeeded ≤ s.seq.foldEdges then s else s.foldMissed

/-! ## Panel start (R54 to R56) -/

/-- The head fabric profile is the head job's profile. -/
def State.fabricMatches (s : State) : Bool := s.headJobProfileId.isSome && s.wtr.headFabric == s.headJobProfileId

/-- The end of the nearest SPLICE of the head job's profile ahead of the head (R79). -/
def State.matchingSplice (s : State) : Option Int := s.headJobProfileId.bind s.spliceAhead

/-- ZONES is unmet (R45). -/
def State.zonesUnmet (s : State) : Bool :=
  !(s.zoneNumbers.all fun i => (s.zone i).state == .ready) || s.headJobProfileId.isNone
    || s.zsv.profile != s.headJobProfileId

/-- FABRIC is unmet (R45). -/
def State.fabricUnmet (s : State) : Bool := !s.fabricMatches && s.matchingSplice.isNone

/-- SEGMENTS is unmet (R45). -/
def State.segmentsUnmet (s : State) : Bool := decide (64 ≤ s.str.segments.length)

/-- The arm conditions are met (R45). -/
def State.armMet (s : State) : Bool := !s.zonesUnmet && !s.fabricUnmet && !s.segmentsUnmet

/-- The ends that apply to the waste target (R54). -/
def State.targetEnds (s : State) : List Int :=
  (s.windowEnd s.headSpan).toList ++ (if s.fabricMatches then [] else s.matchingSplice.toList)

/-- The waste target (R54). -/
def State.newTarget (s : State) : Option Int := (greatest s.targetEnds).map (· + s.clearanceCounts)

/-- The panel opens (R56). -/
def State.openPanelNow (s : State) : State :=
  match s.headJob with
  | none => s
  | some j =>
    let lp := s.headLp
    let t := (s.onFca fun f => { f with residue := openingResidue, panelLp := some lp }).onSeq fun q =>
      { q with
        openPanel := some { number := j.panelsDone + 1, pointer := 0, counters := [] }, lastStrokeStart := none
        chunk := none, wasteTarget := none }
    let u := t.onStr (Str.openSegment j (j.panelsDone + 1) (s.headJobProfileId.getD 0) lp)
    u.takeWalk (walkTo s.headJobSteps walkFuel 0 [])

/-- The FEED of a chunk begins (R34, R35, R55). -/
def State.beginChunk (s : State) (target : Int) : State :=
  let a := wasteChunk (target - s.headCoord).toNat s.resolution s.fca.wasteResidue
  (s.onFca fun f => { f with wasteResidue := a.2.2 }).onSeq fun q =>
    { q with
      mode := .wasteFeed, feedPort := some a.1, wasteTarget := some target
      chunk := some { counts := a.1, index := a.2.1, interval := ceilDiv (s.headMinDwell * a.2.1) s.tunnel } }

/-- Entry to WASTE from ARMED (R55). -/
def State.enterWaste (s : State) (target : Int) : State :=
  ((s.onFca fun f => { f with wasteResidue := 0 }).onSeq fun q => { q with lastStrokeStart := none }).beginChunk target

/-- The first panel start check, at a trigger taken in ARMED (R54). -/
def State.startPanel (s : State) : State :=
  match s.newTarget with
  | some t => s.enterWaste t
  | none => s.openPanelNow

/-- The repeated panel start check, at the end of a waste feed (R54). -/
def State.repeatCheck (s : State) : State :=
  if s.zonesUnmet || s.segmentsUnmet || s.headCancelPending || s.fabricUnmet then s.endStay.toArmed
  else
    match s.newTarget with
    | some t => s.beginChunk t
    | none => s.openPanelNow

/-- The end of a WAIT in WASTE (R55). -/
def State.endWasteWait (s : State) : State :=
  match s.seq.chunk, s.seq.wasteTarget with
  | some c, some target =>
    let t := (s.onSeq fun q =>
      { q with lastStrokeStart := some s.clock, wasteTotal := q.wasteTotal + c.index, chunk := none }).indexBelt c.index
    if target ≤ t.headCoord then t.repeatCheck else t.beginChunk target
  | _, _ => s

/-! ## The end of an event -/

/-- The time a WAIT runs from the last stroke start (R55, R59). -/
def State.waitInterval (s : State) : Nat :=
  max s.seq.triggers.strokePeriod
    (match s.seq.mode with
     | .wasteWait => (s.seq.chunk.map ChunkRun.interval).getD 0
     | _ => (s.seq.step.map StepRun.interval).getD 0)

/-- The line clock value at which the WAIT ends; with no last stroke start it ends at once. -/
def State.waitExpiry (s : State) : Nat :=
  match s.seq.lastStrokeStart with
  | none => 0
  | some t => t + s.waitInterval

/-- Held at a hold point, SEQ enters HOLDING (R44). -/
def State.takeHold (s : State) : State :=
  if s.held then
    match s.seq.mode with
    | .armed => s.enterHolding .armed
    | .wasteWait => s.enterHolding .wasteWait
    | .runWait => s.enterHolding .runWait
    | _ => s
  else s

/-- Held by no reason, SEQ leaves HOLDING for its return point (R44). -/
def State.leaveHold (s : State) : State :=
  if s.held then s
  else
    match s.seq.mode with
    | .holding .armed => s.toArmed
    | .holding .wasteWait => s.setMode .wasteWait
    | .holding .runWait => s.setMode .runWait
    | .holding .runFeed =>
      match s.currentRecord with
      | some r => s.beginFeed r
      | none => s
    | _ => s

/-- A WAIT that has run ends in the event that finds it so, whatever the event (R55, R59; log 11). -/
def State.waitStep (s : State) : State :=
  if s.waitExpiry ≤ s.clock then
    match s.seq.mode with
    | .wasteWait => s.endWasteWait
    | .runWait => s.endRunWait
    | _ => s
  else s

/-- Under COMMAND the trigger is standing: ARMED with the arm conditions met begins a panel start (R47). -/
def State.armedStart (s : State) : State :=
  if s.seq.mode = .armed ∧ s.seq.triggers.source = .command ∧ s.armMet = true then s.startPanel else s

/-- What SEQ does at the end of an event that has changed a condition it reads: hold points, leaving HOLDING, a WAIT that has
run, the standing trigger. -/
def State.settle (s : State) : State := s.takeHold.leaveHold.waitStep.armedStart

/-! ## Motion -/

/-- The feed total, and in RUNNING the raw counts, take the counts; then WTR takes the advance (R58, R63). -/
def State.feedAdvance (s : State) (counts : Nat) : State :=
  let t := s.onSeq fun q => { q with feedTotal := q.feedTotal + counts, feedPort := none }
  (if s.seq.mode = .runFeed then t.onOpenSegment fun g => { g with rawCounts := g.rawCounts + counts } else t).takeAdvance

/-- A web end is reported by RCU (R64). -/
def State.webEnd (s : State) : State :=
  match s.seq.mode with
  | .idle => s
  | .wasteFeed | .runFeed | .runStroke => s.onSeq fun q => { q with ending := { q.ending with webEnd := true } }
  | _ => s.endWork.enterFault .webEnd

/-- SEQ at LINE RESET (R42, R43, R46); the GUARD input stands as it is. -/
def Seq.lineReset (q : Seq) : Seq := { Seq.powerOn q.guardIsOpen with triggers := q.triggers }

end Sys2Proof.Machine
end

