-- ==== Sys2Proof/Machine/SequencerCommands.lean ====
section
/-! DEFINITION. The requests and events of the Panel Sequencer: the job queue (R37 to R41), the trigger settings and triggers
(R46 to R48), the commands of R49 to R53, the motion completions (R58 to R61), GUARD (R63), link silence (R195). -/

namespace Sys2Proof.Machine

/-! ## The job queue -/

/-- The ranges of QUEUE JOB (R38). -/
def jobInRange (id pattern count grade : Nat) : Bool :=
  decide (1 ≤ id ∧ 1 ≤ pattern ∧ pattern ≤ 32 ∧ 1 ≤ count ∧ count ≤ 9999 ∧ 9000 ≤ grade ∧ grade ≤ 11000)

/-- The depth condition of R39 at a grade. -/
def StepRecord.depthFits (grade : Nat) (r : StepRecord) : Bool :=
  match r.kind with
  | .knife => decide (r.depthOf ≤ r.gradedFace grade)
  | .box | .inverted => decide (2 * r.depthOf ≤ r.gradedFace grade)
  | _ => true

/-- The lowest step index at which a depth condition fails (R39). -/
def depthFailure (grade : Nat) (steps : List StepRecord) : Option Nat :=
  (List.range steps.length).find? fun i => (steps[i]?.map fun r => !r.depthFits grade).getD false

/-- The two length checks (R38), also made by CONFIGURE LINE (R197). -/
def lengthsFit (lp tunnel cut : Nat) : Bool := decide (2 * lp ≤ tunnel ∧ cut ≤ 60 * lp)

/-- R38. -/
def handleQueueJob (payload : List Byte) (s : State) : State × List Byte :=
  let id := fieldAt payload 0 2
  let pattern := fieldAt payload 2 1
  let count := fieldAt payload 3 2
  let grade := fieldAt payload 5 2
  let e := s.pst.pattern pattern
  if payload.length ≠ 7 then (s, statusOnly .length)
  else if !jobInRange id pattern count grade then (s, statusOnly .range)
  else if s.seq.jobs.any (fun j => j.jobId == id) then (s, statusOnly .inUse)
  else if e.state ≠ .valid then (s, statusOnly .state)
  else
    match depthFailure grade e.steps with
    | some i => (s, Status.range.code :: beBytes 1 i)
    | none =>
      if !lengthsFit (finishedLength e.steps grade) s.tunnel s.cutDistance then (s, statusOnly .range)
      else if 16 ≤ s.seq.jobs.length then (s, statusOnly .full)
      else
        let j : Job :=
          { jobId := id, patternId := pattern, panelCount := count, grade := grade, panelsDone := 0, cancelPending := false }
        let t := s.onSeq fun q => { q with jobs := q.jobs ++ [j] }
        (if s.seq.jobs.isEmpty then t.switchTest else t, Status.ok.code :: beBytes 1 t.seq.jobs.length)

def execQueueJob (tag : BitVec 16) (payload : List Byte) (s : State) : Host.Outcome State Fault Refusal :=
  .next (hostRequest 0x20#8 .configuredOnly handleQueueJob tag payload s)

/-- Cancel-pending is set on the head job. -/
def State.markHeadCancelled (s : State) : State :=
  s.onSeq fun q => { q with jobs := q.jobs.modify 0 fun j => { j with cancelPending := true } }

/-- CANCEL JOB on the head job (R40). -/
def State.cancelHead (s : State) : State :=
  if s.panelOpen then s.markHeadCancelled
  else
    match s.seq.mode with
    | .wasteFeed => s.markHeadCancelled
    | .wasteWait => s.markHeadCancelled.endStay.toArmed
    | .holding .wasteWait => s.markHeadCancelled.endStay.setMode (.holding .armed)
    | _ => if s.removeHead.seq.jobs.isEmpty then s.removeHead.toIdle else s.removeHead

/-- R40. -/
def handleCancelJob (payload : List Byte) (s : State) : State × List Byte :=
  let id := fieldAt payload 0 2
  if payload.length ≠ 2 then (s, statusOnly .length)
  else if !s.seq.jobs.any (fun j => j.jobId == id) then (s, statusOnly .noSuch)
  else if (s.headJob.map Job.jobId) = some id then (s.cancelHead.settle, statusOnly .ok)
  else (s.onSeq fun q => { q with jobs := q.jobs.filter fun j => j.jobId != id }, statusOnly .ok)

def execCancelJob (tag : BitVec 16) (payload : List Byte) (s : State) : Host.Outcome State Fault Refusal :=
  .next (hostRequest 0x21#8 .configuredOnly handleCancelJob tag payload s)

/-- The job record in the order of R37. -/
def Job.toBytes (j : Job) : List Byte :=
  beBytes 2 j.jobId ++ beBytes 1 j.patternId ++ beBytes 2 j.panelCount ++ beBytes 2 j.grade ++ beBytes 2 j.panelsDone
    ++ [yesNo j.cancelPending]

/-- R41. -/
def handleReadJobs (payload : List Byte) (s : State) : State × List Byte :=
  if payload.length ≠ 0 then (s, statusOnly .length) else (s, Status.ok.code :: countedList Job.toBytes s.seq.jobs)

def execReadJobs (tag : BitVec 16) (payload : List Byte) (s : State) : Host.Outcome State Fault Refusal :=
  .next (hostRequest 0x22#8 .always handleReadJobs tag payload s)

/-! ## Trigger settings and triggers -/

/-- A stroke period is stored within its range (R46). -/
def Triggers.clamp (t : Triggers) : Triggers := { t with strokePeriod := max 60 (min 2000 t.strokePeriod) }

/-- R46. -/
def handleSetPace (payload : List Byte) (s : State) : State × List Byte :=
  if payload.length ≠ 11 then (s, statusOnly .length)
  else if !s.seqIdle then (s, statusOnly .state)
  else
    match Triggers.ofBytes payload with
    | none => (s, statusOnly .range)
    | some t =>
      if t.pacePeriod < 1000 ∨ 600000 < t.pacePeriod then (s, statusOnly .range)
      else
        (s.onSeq fun q => { q with triggers := t.clamp },
         (if t.clamp = t then Status.ok else Status.clamped).code :: t.clamp.toBytes)

def execSetPace (tag : BitVec 16) (payload : List Byte) (s : State) : Host.Outcome State Fault Refusal :=
  .next (hostRequest 0x23#8 .configuredOnly handleSetPace tag payload s)

/-- A trigger that SEQ cannot take (R48). -/
def State.ignoreTrigger (s : State) : State :=
  s.onSeq fun q => { q with ignoredTriggers := saturating 255 q.ignoredTriggers }

/-- SEQ is ARMED with the arm conditions met: a trigger instant is taken (R47). -/
def State.triggerTaken (s : State) : Bool := s.seq.mode == .armed && s.armMet

/-- MARK_EDGE (R47, R48). -/
def execMarkEdge (edge : Edge) (s : State) : Host.Outcome State Fault Refusal :=
  .next <|
    if s.seq.triggers.source = .mark ∧ s.seq.triggers.markEdge = edge then
      if s.triggerTaken then s.startPanel else s.ignoreTrigger.onSeq fun q => { q with markPending := true }
    else s

/-- PACE_EXPIRY (R47, R48): the timer restarts one pace period after the expiry. -/
def execPaceExpiry (s : State) : Host.Outcome State Fault Refusal :=
  .next <|
    match s.seq.paceTimer with
    | none => s
    | some e =>
      let t := (s.reach e).onSeq fun q => { q with paceTimer := some (e + q.triggers.pacePeriod) }
      if t.triggerTaken then t.startPanel else t.ignoreTrigger

/-! ## Commands -/

/-- GO is refused STATE (R50). -/
def State.goRefused (s : State) : Bool :=
  !s.seqIdle || s.seq.jobs.isEmpty || s.rcu.activeUnwind.isNone || s.seq.guardIsOpen

/-- R50. Under PACE the timer starts. -/
def handleGo (payload : List Byte) (s : State) : State × List Byte :=
  if payload.length ≠ 0 then (s, statusOnly .length)
  else if s.goRefused then (s, statusOnly .state)
  else
    let t := s.onSeq fun q =>
      { q with paceTimer := if q.triggers.source = .pace then some (s.clock + q.triggers.pacePeriod) else none }
    (t.toArmed.settle, statusOnly .ok)

def execGo (tag : BitVec 16) (payload : List Byte) (s : State) : Host.Outcome State Fault Refusal :=
  .next (hostRequest 0x24#8 .configuredOnly handleGo tag payload s)

/-- R50. -/
def handleHold (payload : List Byte) (s : State) : State × List Byte :=
  if payload.length ≠ 0 then (s, statusOnly .length)
  else ((s.onSeq fun q => { q with hostHold := true }).settle, statusOnly .ok)

def execHold (tag : BitVec 16) (payload : List Byte) (s : State) : Host.Outcome State Fault Refusal :=
  .next (hostRequest 0x25#8 .configuredOnly handleHold tag payload s)

/-- The reasons RESUME removes (R51). -/
def State.releaseHolds (s : State) : State :=
  s.onSeq fun q =>
    { q with hostHold := false, silentHold := false, rollHold := if s.rcu.change.isNone then false else q.rollHold }

/-- SEQ leaves FAULT (R51). -/
def State.leaveFault (s : State) : State := if s.panelOpen then s.walkOn else s.toArmed

/-- R51. -/
def handleResume (payload : List Byte) (s : State) : State × List Byte :=
  if payload.length ≠ 0 then (s, statusOnly .length)
  else if s.seq.guardIsOpen then (s, statusOnly .state)
  else
    match s.seq.mode with
    | .fault _ => (s.releaseHolds.leaveFault.settle, statusOnly .ok)
    | _ => (s.releaseHolds.settle, statusOnly .ok)

def execResume (tag : BitVec 16) (payload : List Byte) (s : State) : Host.Outcome State Fault Refusal :=
  .next (hostRequest 0x26#8 .configuredOnly handleResume tag payload s)

/-- ABORT PANEL is refused STATE (R52). -/
def State.abortRefused (s : State) : Bool :=
  match s.seq.mode with
  | .idle | .armed => true
  | .holding _ | .fault _ => !s.panelOpen
  | _ => false

/-- The effect of ABORT PANEL (R52); in a WAIT of WASTE the stay ends at once (log 22). -/
def State.abortPanel (s : State) : State :=
  match s.seq.mode with
  | .wasteFeed | .runFeed | .runStroke => s.onSeq fun q => { q with ending := { q.ending with abort := true } }
  | .wasteWait | .runWait => s.endWork.toArmed
  | .holding _ => (s.endPanel false).setMode (.holding .armed)
  | .fault _ => s.endPanel false
  | _ => s

def handleAbortPanel (payload : List Byte) (s : State) : State × List Byte :=
  if payload.length ≠ 0 then (s, statusOnly .length)
  else if s.abortRefused then (s, statusOnly .state)
  else (s.abortPanel.settle, statusOnly .ok)

def execAbortPanel (tag : BitVec 16) (payload : List Byte) (s : State) : Host.Outcome State Fault Refusal :=
  .next (hostRequest 0x27#8 .configuredOnly handleAbortPanel tag payload s)

/-- The effect of STOP LINE (R53). -/
def State.stopLine (s : State) : State :=
  match s.seq.mode with
  | .idle => s
  | .wasteFeed | .runFeed | .runStroke => s.onSeq fun q => { q with ending := { q.ending with stop := true } }
  | _ => s.endWork.toIdle

def handleStopLine (payload : List Byte) (s : State) : State × List Byte :=
  if payload.length ≠ 0 then (s, statusOnly .length) else (s.stopLine, statusOnly .ok)

def execStopLine (tag : BitVec 16) (payload : List Byte) (s : State) : Host.Outcome State Fault Refusal :=
  .next (hostRequest 0x28#8 .configuredOnly handleStopLine tag payload s)

/-! ## Motion completions -/

/-- FEED_DONE (R55, R58, R64); with no feed in progress it changes nothing (R202). -/
def execFeedDone (s : State) : Host.Outcome State Fault Refusal :=
  .next <|
    match s.seq.feedPort with
    | none => s
    | some c =>
      let t := s.feedAdvance c
      (if t.seq.ending.any then t.finishEnding
        else if t.seq.mode = .wasteFeed then
          if t.headCancelPending then t.endStay.toArmed else t.setMode .wasteWait
        else t.setMode .runWait).settle.useFree

/-- STROKE_DONE (R61, R52, R53, R64); with no stroke in progress it changes nothing (R202). -/
def execStrokeDone (s : State) : Host.Outcome State Fault Refusal :=
  .next <|
    match s.seq.bladePort, s.currentRecord with
    | some _, some r =>
      let t := s.onSeq fun q => { q with bladePort := none }
      (if t.seq.ending.any then (t.lastFoldCheck r).finishEnding
        else t.foldCheck r ((t.seq.step.map StepRun.retries).getD 0)).settle
    | _, _ => s

/-- FOLD_EDGE (R60). -/
def execFoldEdge (edge : Edge) (s : State) : Host.Outcome State Fault Refusal :=
  .next <|
    if s.seq.bladePort.isSome ∧ s.seq.triggers.foldEdge = edge then
      s.onSeq fun q => { q with foldEdges := q.foldEdges + 1 }
    else s

/-- WAIT_END (R59): the line clock has reached the end of the WAIT. -/
def execWaitEnd (s : State) : Host.Outcome State Fault Refusal :=
  .next (if s.seq.mode = .runWait then (s.reach s.waitExpiry).settle else s)

/-- WASTE_WAIT_END (R55). -/
def execWasteWaitEnd (s : State) : Host.Outcome State Fault Refusal :=
  .next (if s.seq.mode = .wasteWait then (s.reach s.waitExpiry).settle else s)

/-! ## GUARD and link silence -/

/-- GUARD_OPEN outside IDLE (R63): the feed is cut short, the stroke and the belt stop, the work ends, FAULT. -/
def State.guardStop (s : State) (fed moved : Nat) : State :=
  let a := if s.feeding then s.feedAdvance fed else s
  let b := (a.onSeq fun q => { q with bladePort := none, ending := Ending.none }).stopBelt moved
  b.endWork.enterFault .guard

/-- GUARD_OPEN (R63). -/
def execGuardOpen (fed moved : Nat) (s : State) : Host.Outcome State Fault Refusal :=
  let t := s.onSeq fun q => { q with guardIsOpen := true }
  .next (if s.seqIdle then t else (t.guardStop fed moved).useFree)

/-- GUARD_CLOSE (R63): changes no state of SEQ but the input's. -/
def execGuardClose (s : State) : Host.Outcome State Fault Refusal :=
  .next (s.onSeq fun q => { q with guardIsOpen := false })

/-- SILENCE_TIMEOUT (R195). -/
def execSilenceTimeout (s : State) : Host.Outcome State Fault Refusal :=
  .next <|
    match s.hlp.silenceTimer with
    | none => s
    | some e =>
      let t := (s.reach e).restartSilence
      if t.seqIdle then t else ((t.raise .linkSilent).onSeq fun q => { q with silentHold := true }).settle

/-! ## READ STATUS (R65, R200) -/

/-- The arm wait reasons (R45), TRIGGER, ZONES, FABRIC, SEGMENTS; empty in every state but ARMED. -/
def State.armWaitByte (s : State) : Byte :=
  if s.seq.mode = .armed then
    BitVec.ofNat 8 (memberSet
      [s.seq.triggers.source != .command, s.zonesUnmet, s.fabricUnmet, s.segmentsUnmet])
  else 0#8

/-- Return point in HOLDING, fault reason in FAULT. -/
def SeqMode.pointBytes : SeqMode → List Byte
  | .holding p => p.codes
  | _ => [0xFF#8, 0xFF#8]

def SeqMode.reasonByte : SeqMode → Byte
  | .fault r => r.code
  | _ => 0xFF#8

/-- The silence timer: its state and its expiry. -/
def silenceTimerBytes (t : Option Nat) : List Byte := (if t.isSome then 2#8 else 1#8) :: presentBytes 6 t

def statusHlpBytes (s : State) : List Byte :=
  beBytes 6 s.clock ++ [s.configurationCode] ++ beBytes 4 s.hlp.linkRate ++ beBytes 4 s.hlp.silenceTimeout
    ++ silenceTimerBytes s.hlp.silenceTimer ++ beBytes 2 s.hlp.crcErrors ++ beBytes 2 s.hlp.overruns
    ++ beBytes 2 s.hlp.strays

/-- The items of R65 and the trigger settings. -/
def statusSeqBytes (s : State) : List Byte :=
  s.seq.mode.codes ++ s.seq.mode.pointBytes ++ [s.seq.mode.reasonByte, s.holdReasons.toByte, s.armWaitByte]
    ++ presentBytes 2 (s.headJob.map Job.jobId) ++ beOpt 2 (s.seq.openPanel.map OpenPanel.number)
    ++ beOpt 1 (s.seq.openPanel.map OpenPanel.pointer) ++ beBytes 6 s.seq.feedTotal ++ beBytes 6 s.seq.wasteTotal
    ++ [yesNo s.seq.guardIsOpen] ++ beBytes 1 s.seq.ignoredTriggers ++ [yesNo s.seq.markPending]
    ++ s.seq.triggers.toBytes

/-- The items of R36. -/
def statusFcaBytes (s : State) : List Byte :=
  beInt 4 s.fca.tension ++ beOpt 4 s.fca.lastG ++ [yesNo s.fca.lastClamped] ++ beBytes 8 s.fca.residue
    ++ beOpt 4 s.fca.panelLp

def ChangePhase.codeOrIdle : Option ChangePhase → Byte
  | some p => p.code
  | none => 1#8

/-- The items of READ STATUS in the order of R200. -/
def statusBody (s : State) : List Byte :=
  statusHlpBytes s ++ statusSeqBytes s ++ statusFcaBytes s
    ++ beBytes 6 s.str.belt ++ beBytes 1 s.str.segments.length ++ beBytes 4 s.str.panelsBegun ++ beBytes 4 s.str.reports
    ++ classSetBytes s.evu.pendingSet ++ beBytes 1 s.evu.filled
    ++ [s.slm.mode.code, ChangePhase.codeOrIdle (s.rcu.change.map Change.phase)]

def Hlp.clearCounters (h : Hlp) : Hlp := { h with crcErrors := 0, overruns := 0, strays := 0 }

/-- R200: the reply takes its values first; then MARK pending is cleared, and the counters where asked. -/
def handleReadStatus (payload : List Byte) (s : State) : State × List Byte :=
  if payload.length ≠ 1 then (s, statusOnly .length)
  else
    match yesNoOf (byteAt payload 0) with
    | none => (s, statusOnly .range)
    | some clear =>
      let t := s.onSeq fun q => { q with markPending := false }
      (if clear then t.onHlp Hlp.clearCounters else t, Status.ok.code :: statusBody s)

def execReadStatus (tag : BitVec 16) (payload : List Byte) (s : State) : Host.Outcome State Fault Refusal :=
  .next (hostRequest 0x02#8 .always handleReadStatus tag payload s)

end Sys2Proof.Machine
end

