-- ==== Sys2Proof/Machine/RollChange.lean ====
section
/-! DEFINITION. The Roll Change Unit (R138 to R158): unwind records, the accumulator, the change sequence, what the stations of
the unwinds, the splice table and the accumulator deliver to it, and its requests. -/

namespace Sys2Proof.Machine

/-! ## Records -/

/-- Entry to EMPTY (R138). -/
def Unwind.toEmpty (u : Unwind) : Unwind :=
  { u with state := .empty, profileId := none, rollTag := none, declared := none, remaining := none }

/-- Entry to ACTIVE (R138). -/
def Unwind.toActive (u : Unwind) : Unwind :=
  { u with state := .active, remaining := u.declared.map (· * 1000), lowRaised := false, autoStarted := false }

/-- An ACTIVE record becomes SPENT; the remaining length becomes absent (R138). -/
def Unwind.spend (u : Unwind) : Unwind := if u.state = .active then { u with state := .spent, remaining := none } else u

def State.onUnwind (s : State) (u : UnwindId) (f : Unwind → Unwind) : State := s.onRcu fun r => r.onUnwind u f

/-- ROLL enters SEQ's hold reason set (R43). -/
def State.addRoll (s : State) : State := s.onSeq fun q => { q with rollHold := true }

/-! ## The change sequence -/

/-- The timeout of a phase in ms (R144). -/
def RollSettings.timeout (r : RollSettings) : ChangePhase → Nat
  | .filling => r.fillingS * 1000
  | .stopping => r.stoppingS * 1000
  | .splicing => r.splicingS * 1000
  | .cutting => r.cuttingS * 1000
  | .restarting => r.restartingS * 1000

/-- Entry to a phase sets its deadline (R147). -/
def State.enterPhase (s : State) (p : ChangePhase) : State :=
  s.onRcu fun r =>
    { r with change := r.change.map fun c => { c with phase := p, deadline := s.clock + r.settings.timeout p } }

/-- The checks of CHANGE ROLL after its payload check (R148): the status of the first that fails. -/
def State.changeRefused (s : State) : Option Status :=
  if s.slm.mode = .stopped then some .state
  else if s.rcu.change.isSome then some .state
  else if (s.rcu.activeUnwind.map fun u => (s.rcu.unwind u.other).state) ≠ some .ready then some .state
  else if s.stationLost 9 || s.stationLost 10 || s.stationLost 11 || s.stationLost 12 then some .state
  else if 4 ≤ s.wtr.spliceCount then some .full
  else none

/-- A change starts in FILLING (R148). -/
def State.startChange (s : State) (automatic : Bool) : State :=
  match s.rcu.activeUnwind with
  | none => s
  | some u =>
    s.onRcu fun r =>
      { r with
        change := some { phase := .filling, old := u, new := u.other, deadline := s.clock + r.settings.timeout .filling
                         automatic := automatic } }

/-- The change state becomes IDLE with an outcome. -/
def State.endChange (s : State) (o : ChangeOutcome) (cause : Option ChangeCause) : State :=
  s.onRcu fun r =>
    { r with change := none, outcome := o, outcomePhase := r.change.map Change.phase, outcomeCause := cause }

/-- The old unwind can be given RUN again (R153). -/
def State.restartable (s : State) (u : UnwindId) : Bool :=
  (s.rcu.unwind u).state == .active && !s.stationLost u.station

/-- A change before its splice is reverted (R153). -/
def State.revertChange (s : State) (c : Change) (cause : ChangeCause) : State :=
  ((if s.restartable c.old then s else s.addRoll).endChange .reverted (some cause)).raise .changeAbort

/-- A change after its splice fails (R155). -/
def State.failChange (s : State) (cause : ChangeCause) : State :=
  (s.addRoll.endChange .failed (some cause)).raise .changeAbort

/-- The splice of the change is not yet made. -/
def ChangePhase.beforeSplice : ChangePhase → Bool
  | .filling | .stopping | .splicing => true
  | .cutting | .restarting => false

/-- The events that revert a change before its splice and fail it after (R153, R155). -/
def State.breakChange (s : State) (cause : ChangeCause) : State :=
  match s.rcu.change with
  | none => s
  | some c => if c.phase.beforeSplice then s.revertChange c cause else s.failChange cause

/-! ## Request codes of the unwinds (R139 to R141) -/

/-- ROLL_LOADED (R140). -/
def State.rollLoaded (s : State) (u : UnwindId) : State :=
  if (s.rcu.unwind u).state = .empty then s.onUnwind u fun x => { x with state := .loaded } else s

/-- ROLL_END on an ACTIVE record (R141). The failure in RESTARTING and the web end are one event, so SEQ does not enter HOLDING
between them (log 30). -/
def State.activeRollEnd (s : State) (u : UnwindId) : State :=
  match s.rcu.change with
  | none => s.webEnd
  | some c =>
    if c.old = u then
      if c.phase.beforeSplice then ((s.endChange .failed (some .rollEnd)).raise .changeAbort).webEnd else s
    else if c.phase = .restarting then (s.failChange .rollEnd).webEnd
    else s

/-- ROLL_END (R141). -/
def State.rollEnd (s : State) (u : UnwindId) : State :=
  if (s.rcu.unwind u).state = .active then s.activeRollEnd u else s

/-- What ROLL_REMOVED from a READY standby does to the change (R140). -/
def State.standbyRemoved (s : State) (u : UnwindId) : State :=
  match s.rcu.change with
  | some c => if c.new = u ∧ c.phase ≠ .restarting then s.breakChange .removed else s
  | none => s

/-- ROLL_REMOVED (R140). -/
def State.rollRemoved (s : State) (u : UnwindId) : State :=
  match (s.rcu.unwind u).state with
  | .empty => s
  | .loaded | .spent => s.onUnwind u Unwind.toEmpty
  | .ready => (s.standbyRemoved u).onUnwind u Unwind.toEmpty
  | .active => s.rollEnd u

/-- A changed request code of an unwind (R139). -/
def State.unwindCode (s : State) (u : UnwindId) (code : Nat) : State :=
  if code = 1 then s.rollLoaded u else if code = 2 then s.rollRemoved u else if code = 3 then s.rollEnd u else s

/-! ## Deliveries of SLM (R171), taken in the order condition, status, request code, readings (log 15) -/

/-- SLM's notice of a new condition of an unwind's station (R138, R153, R155). -/
def State.unwindNotice (s : State) (u : UnwindId) (c : Condition) : State :=
  let gone := s.onUnwind u fun x => { x with runState := none }
  match c with
  | .fresh => s
  | .lost => gone.breakChange .station
  | _ => gone

/-- The run state of a good response (R138, R149, R151). -/
def State.unwindStatus (s : State) (u : UnwindId) (rs : RunState) : State :=
  let t := s.onUnwind u fun x => { x with runState := some rs }
  match t.rcu.change with
  | none => t
  | some c =>
    if c.phase = .stopping ∧ c.old = u ∧ rs = .stopped then t.enterPhase .splicing
    else if c.phase = .restarting ∧ c.new = u ∧ rs = .atSpeed then (t.endChange .done none).raise .changeDone
    else t

/-- The conditions of a try at an automatic change (R152). -/
def State.autoDue (s : State) (u : UnwindId) (remaining : Nat) : Bool :=
  s.rcu.settings.auto && s.rcu.change.isNone && !s.seq.rollHold && !(s.rcu.unwind u).autoStarted
    && decide (remaining ≤ s.rcu.settings.threshold * 1000)

/-- A try at an automatic change (R152). -/
def State.tryAuto (s : State) (u : UnwindId) : State :=
  match s.changeRefused with
  | none => (s.startChange true).onUnwind u fun x => { x with autoStarted := true }
  | some _ =>
    if (s.rcu.unwind u).lowRaised then s
    else (s.onUnwind u fun x => { x with lowRaised := true }).raise .rollLow

/-- A fresh remaining length (R138, R152). -/
def State.unwindReading (s : State) (u : UnwindId) (remaining : Nat) : State :=
  if (s.rcu.unwind u).state = .active then
    let t := s.onUnwind u fun x => { x with remaining := some remaining }
    if t.autoDue u remaining then t.tryAuto u else t
  else s

/-- A good response of an unwind's station. -/
def State.unwindResponse (s : State) (u : UnwindId) (fresh : Bool) (rs : RunState) (newCode : Option Nat)
    (remaining : Nat) : State :=
  let t := s.unwindStatus u rs
  let v := match newCode with
    | some code => t.unwindCode u code
    | none => t
  if fresh then v.unwindReading u remaining else v

/-- SLM's notice of the splice table's station. -/
def State.tableNotice (s : State) (c : Condition) : State := if c = .lost then s.breakChange .station else s

/-- CUT in CUTTING (R151). -/
def State.cutComplete (s : State) (c : Change) : State :=
  ((s.onUnwind c.old Unwind.spend).onUnwind c.new Unwind.toActive).enterPhase .restarting

/-- SPLICED in SPLICING (R150): the mark of the new roll's profile, then CUTTING. -/
def State.spliceComplete (s : State) (c : Change) : State :=
  (s.makeSplice ((s.rcu.unwind c.new).profileId.getD 0)).enterPhase .cutting

/-- The status of the splice table (R150, R151). -/
def State.tableStatus (s : State) (st : TableStatus) : State :=
  match s.rcu.change with
  | none => s
  | some c =>
    match c.phase, st with
    | .splicing, .spliced => s.spliceComplete c
    | .cutting, .cut => s.cutComplete c
    | _, _ => s

/-- A good response of the splice table: JAM is taken at every one that carries it (R153). -/
def State.tableResponse (s : State) (st : TableStatus) (code : Nat) : State :=
  let t := s.tableStatus st
  if code = 1 then t.breakChange .jam else t

/-- SLM's notice of the accumulator's station (R145, R146, R153, R155). -/
def State.accumulatorNotice (s : State) (c : Condition) : State :=
  let t := s.onRcu fun r =>
    { r with acc := { r.acc with station := c, starved := r.acc.starved || c == .stale || c == .lost } }
  if c = .lost then t.breakChange .station else t

/-- The starvation test of a fresh delivery (R146). -/
def starvedAfter (settings : RollSettings) (stock : Nat) (was : Bool) : Bool :=
  if stock ≤ settings.lowLimit then true else if settings.resumeLevel ≤ stock then false else was

/-- FILLING ends at the splice level (R149). -/
def State.fillingTest (s : State) (stock : Nat) : State :=
  match s.rcu.change with
  | some c => if c.phase = .filling ∧ s.rcu.settings.spliceLevel ≤ stock then s.enterPhase .stopping else s
  | none => s

/-- A fresh delivery of the accumulator (R145): stock and tension, then WTR (a view), FCA, starvation, FILLING. -/
def State.accumulatorReading (s : State) (stock tension : Nat) : State :=
  let t := (s.onRcu fun r => { r with acc := { r.acc with stock := stock, tension := some tension } }).deliverTension tension
  (t.onRcu fun r => { r with acc := { r.acc with starved := starvedAfter r.settings stock r.acc.starved } }).fillingTest stock

/-! ## Outputs (R147, R162, R208) -/

/-- LINE RESET has made the unwind SPENT in the scan cycle still in progress, whose polls then brake it (R176, log 29). -/
def Rcu.resetBrakes (r : Rcu) (u : UnwindId) : Bool := r.brakeSpent && (r.unwind u).state == .spent

/-- RUN is 1, BRAKE is 2. In RESTARTING a new unwind that LINE RESET has made SPENT is given BRAKE to the end of the scan cycle
(R176) and RUN after it (R147, R158; log 29). The table of R147 holds in a change also while ROLL stands (R155; log 32). A change
reverted while ROLL stands leaves its old unwind at BRAKE (R147 against R153), and START UNWIND accepted while ROLL stands leaves
the unwind it makes ACTIVE at BRAKE (R147 against R143); both until ROLL is removed (log 33). -/
def State.unwindCommand (s : State) (u : UnwindId) : Byte :=
  match s.rcu.change with
  | none => if (s.rcu.unwind u).state = .active ∧ s.seq.rollHold = false then 1#8 else 2#8
  | some c =>
    if (c.phase = .filling ∧ c.old = u) ∨ (c.phase = .restarting ∧ c.new = u ∧ s.rcu.resetBrakes u = false) then 1#8
    else 2#8

/-- IDLE is 1, PRESS 2, CUT 3. -/
def State.tableCommand (s : State) : Byte :=
  match s.rcu.change.map Change.phase with
  | some .splicing => 2#8
  | some .cutting => 3#8
  | _ => 1#8

/-- The fill target in mm. -/
def State.fillTarget (s : State) : Nat :=
  match s.rcu.change.map Change.phase with
  | none => s.rcu.settings.resumeLevel
  | some .filling => s.rcu.settings.spliceLevel
  | some .restarting => s.rcu.settings.resumeLevel
  | some _ => 0

/-! ## Requests -/

/-- R142. -/
def handleDeclareRoll (payload : List Byte) (s : State) : State × List Byte :=
  let profile := fieldAt payload 1 1
  let tag := fieldAt payload 2 4
  let len := fieldAt payload 6 4
  if payload.length ≠ 10 then (s, statusOnly .length)
  else
    match UnwindId.ofCode (byteAt payload 0) with
    | none => (s, statusOnly .range)
    | some u =>
      if !validProfileId profile || decide (len < 1 ∨ 20000 < len) then (s, statusOnly .range)
      else if (s.rcu.unwind u).state ≠ .loaded then (s, statusOnly .state)
      else if (s.pst.profile profile).isNone then (s, statusOnly .noSuch)
      else
        (s.onUnwind u fun x =>
          { x with state := .ready, profileId := some profile, rollTag := some tag, declared := some len },
         statusOnly .ok)

def execDeclareRoll (tag : BitVec 16) (payload : List Byte) (s : State) : Host.Outcome State Fault Refusal :=
  .next (hostRequest 0x50#8 .configuredOnly handleDeclareRoll tag payload s)

/-- The STATE checks of START UNWIND (R143). -/
def State.startRefused (s : State) (u : UnwindId) : Bool :=
  s.slm.mode == .stopped || s.rcu.change.isSome || !s.seqIdle || s.rcu.activeUnwind.isSome || !s.wtr.marks.isEmpty
    || (s.rcu.unwind u).state != .ready || s.stationLost u.station

/-- R143: the record becomes ACTIVE and the head fabric profile is its profile. -/
def State.startUnwind (s : State) (u : UnwindId) : State :=
  (s.onUnwind u Unwind.toActive).onWtr fun w => { w with headFabric := (s.rcu.unwind u).profileId }

def handleStartUnwind (payload : List Byte) (s : State) : State × List Byte :=
  if payload.length ≠ 1 then (s, statusOnly .length)
  else
    match UnwindId.ofCode (byteAt payload 0) with
    | none => (s, statusOnly .range)
    | some u => if s.startRefused u then (s, statusOnly .state) else (s.startUnwind u, statusOnly .ok)

def execStartUnwind (tag : BitVec 16) (payload : List Byte) (s : State) : Host.Outcome State Fault Refusal :=
  .next (hostRequest 0x51#8 .configuredOnly handleStartUnwind tag payload s)

/-- R148. -/
def handleChangeRoll (payload : List Byte) (s : State) : State × List Byte :=
  if payload.length ≠ 0 then (s, statusOnly .length)
  else
    match s.changeRefused with
    | some st => (s, statusOnly st)
    | none => (s.startChange false, statusOnly .ok)

def execChangeRoll (tag : BitVec 16) (payload : List Byte) (s : State) : Host.Outcome State Fault Refusal :=
  .next (hostRequest 0x52#8 .configuredOnly handleChangeRoll tag payload s)

/-- R154. A revert may add ROLL, so SEQ takes its hold point. -/
def handleAbortChange (payload : List Byte) (s : State) : State × List Byte :=
  if payload.length ≠ 0 then (s, statusOnly .length)
  else
    match s.rcu.change with
    | none => (s, statusOnly .state)
    | some c =>
      if c.phase.beforeSplice then ((s.revertChange c .command).settle, statusOnly .ok) else (s, statusOnly .state)

def execAbortChange (tag : BitVec 16) (payload : List Byte) (s : State) : Host.Outcome State Fault Refusal :=
  .next (hostRequest 0x53#8 .configuredOnly handleAbortChange tag payload s)

/-- An unwind record in the order of R138, with the state of its station (R157). -/
def unwindBytes (s : State) (u : UnwindId) : List Byte :=
  let x := s.rcu.unwind u
  [x.state.code] ++ beOpt 1 x.profileId ++ presentBytes 4 x.rollTag ++ beOpt 4 x.declared ++ beOpt 4 x.remaining
    ++ [codeOpt RunState.code x.runState, yesNo x.lowRaised, yesNo x.autoStarted, (s.station u.station).state.code]

def Accumulator.toBytes (a : Accumulator) : List Byte :=
  beBytes 4 a.stock ++ beOpt 2 a.tension ++ [a.station.code, yesNo a.starved]

def RollSettings.toBytes (r : RollSettings) : List Byte :=
  beBytes 4 r.capacity ++ beBytes 4 r.lowLimit ++ beBytes 4 r.resumeLevel ++ beBytes 4 r.spliceLevel
    ++ beBytes 4 r.threshold ++ [yesNo r.auto] ++ beBytes 4 r.fillingS ++ beBytes 4 r.stoppingS ++ beBytes 4 r.splicingS
    ++ beBytes 4 r.cuttingS ++ beBytes 4 r.restartingS ++ beBytes 4 r.spliceLength

/-- The change record in the order of R147. -/
def Rcu.changeBytes (r : Rcu) : List Byte :=
  [ChangePhase.codeOrIdle (r.change.map Change.phase), codeOpt UnwindId.code (r.change.map Change.old),
    codeOpt UnwindId.code (r.change.map Change.new)]
    ++ presentBytes 6 (r.change.map Change.deadline)
    ++ [codeOpt yesNo (r.change.map Change.automatic), r.outcome.code, codeOpt ChangePhase.code r.outcomePhase,
        codeOpt ChangeCause.code r.outcomeCause]

/-- The items of READ ROLLS (R157). -/
def rollsBody (s : State) : List Byte :=
  unwindBytes s .a ++ unwindBytes s .b ++ s.rcu.acc.toBytes ++ s.rcu.settings.toBytes ++ s.rcu.changeBytes

def handleReadRolls (payload : List Byte) (s : State) : State × List Byte :=
  if payload.length ≠ 0 then (s, statusOnly .length) else (s, Status.ok.code :: rollsBody s)

def execReadRolls (tag : BitVec 16) (payload : List Byte) (s : State) : Host.Outcome State Fault Refusal :=
  .next (hostRequest 0x54#8 .always handleReadRolls tag payload s)

/-- CONFIGURE ROLLS (R144, R198). -/
def handleConfigureRolls (payload : List Byte) (s : State) : State × List Byte :=
  if payload.length ≠ 45 then (s, statusOnly .length)
  else
    match RollSettings.ofBytes payload with
    | none => (s, statusOnly .range)
    | some r =>
      if !r.inRange then (s, statusOnly .range) else (s.onRcu fun x => { x with settings := r }, statusOnly .ok)

def execConfigureRolls (tag : BitVec 16) (payload : List Byte) (s : State) : Host.Outcome State Fault Refusal :=
  .next (hostRequest 0x05#8 .always handleConfigureRolls tag payload s)

/-- PHASE_DEADLINE (R149, R153, R155). -/
def execPhaseDeadline (s : State) : Host.Outcome State Fault Refusal :=
  .next <|
    match s.rcu.change with
    | none => s
    | some c => ((s.reach c.deadline).breakChange .timeout).settle

/-- The ACTIVE record, if any, becomes SPENT (R158). -/
def State.spendUnwinds (s : State) : State := (s.onUnwind .a Unwind.spend).onUnwind .b Unwind.spend

/-- RCU at LINE RESET (R158). What is left of a scan cycle in progress brakes an unwind made SPENT (R176, log 29). -/
def State.rollsLineReset (s : State) : State :=
  let t := match s.rcu.change with
    | some c =>
      if c.phase = ChangePhase.filling ∨ c.phase = ChangePhase.stopping
      then (s.endChange .reverted (some .reset)).raise .changeAbort else s
    | none => s
  (t.onRcu fun r => { r with brakeSpent := r.brakeSpent || (r.activeUnwind.isSome && !s.slm.toPoll.isEmpty) }).spendUnwinds

end Sys2Proof.Machine
end

