-- ==== Sys2Proof/Machine/StationLink.lean ====
section
/-! DEFINITION. The Station Link Master (R159 to R176): the cycle of polls, judging a response, the station records, what the
owners are told, the request queue, and the requests that reach it. -/

namespace Sys2Proof.Machine

/-! ## Polls (R159, R162, R208) -/

/-- The enabled set as Z and L stand (R159). -/
def State.enabledSet (s : State) : List Nat :=
  List.range' 1 s.zoneCount ++ [9, 10, 11, 12] ++ List.range' 13 (s.slm.lastStation - 12)

/-- Mode, setpoint and compare kind of a zone's poll. -/
def State.zoneOutput (s : State) (i : Nat) : List Byte :=
  let sp := beIntOpt 2 (s.zone i).setpoint
  match (s.zone i).state with
  | .off | .fault => [1#8, 0xFF#8, 0xFF#8, 0xFF#8]
  | .warming | .ready | .standby => [2#8] ++ sp ++ [0xFF#8]
  | .purging => [3#8] ++ sp ++ [0xFF#8]
  | .calibrating => [4#8] ++ sp ++ [codeOpt CalKind.code (s.zsv.reference.map RefOwner.kind)]

/-- The output record of a station's role, as the owner stands (R162). -/
def State.outputRecord (s : State) (n : Nat) : List Byte :=
  match roleOf n with
  | .zone => s.zoneOutput n
  | .unwind => [s.unwindCommand (if n = 9 then .a else .b)]
  | .table => [s.tableCommand]
  | .accumulator => beBytes 4 s.fillTarget ++ beBytes 4 s.rcu.settings.capacity
  | .auxiliary => []

/-- A poll on the station link (R208). -/
def State.pollFrame (s : State) (n : Nat) : List Byte :=
  let body := beBytes 1 n ++ s.outputRecord n
  body ++ crcBytes body

/-- Send the poll of the next station of the cycle; a poll to the zone that owns the reference gives it COMPARE (R162). -/
def State.sendPoll (s : State) : State :=
  match s.slm.toPoll with
  | [] => s.onSlm fun m => { m with pollFrame := [] }
  | n :: _ => (s.onSlm fun m => { m with pollFrame := s.pollFrame n }).onZsv (Zsv.ask n)

/-- A cycle starts (R161). -/
def State.startCycle (s : State) : State :=
  (s.onSlm fun m =>
    { m with scanNumber := (m.scanNumber + 1) % 65536, enabled := s.enabledSet, toPoll := s.enabledSet }).sendPoll

/-- SEQ is IDLE, every configured zone OFF and the change state IDLE (R164, R165). -/
def State.quiet (s : State) : Bool := s.seqIdle && s.allZonesOff && s.rcu.change.isNone

/-- The end of a cycle (R161, R165); what R176 says of its remaining polls ends with it (log 29). -/
def State.endCycle (s : State) : State :=
  let t := s.scanCompletion.onRcu fun r => { r with brakeSpent := false }
  match t.slm.mode with
  | .stopped => t.sendPoll
  | .continuous => t.startCycle
  | .single =>
    if t.quiet then (t.onSlm fun m => { m with mode := .stopped }).sendPoll
    else (t.onSlm fun m => { m with mode := .continuous }).startCycle

/-- The poll of the station at the front has been judged. -/
def State.nextPoll (s : State) : State :=
  let t := s.onSlm fun m => { m with toPoll := m.toPoll.tail }
  if t.slm.toPoll.isEmpty then t.endCycle else t.sendPoll

/-! ## Station records (R166 to R169) -/

/-- A miss (R167). -/
def Station.miss (threshold : Nat) (crc : Bool) (st : Station) : Station :=
  let t := { st with
    missCounter := saturating 255 st.missCounter
    crcErrors := if crc then saturating 255 st.crcErrors else st.crcErrors }
  if st.state = .lost then { t with recovery := 0 }
  else if st.misses + 1 < threshold then { t with state := .missing, misses := st.misses + 1 }
  else { t with state := .lost, misses := threshold }

/-- State and counts at a good response (R168). -/
def Station.answered (st : Station) : Station :=
  if st.state = .lost then
    if st.recovery < 2 then { st with recovery := st.recovery + 1 }
    else { st with state := .online, misses := 0, recovery := 0 }
  else { st with state := .online, misses := 0 }

/-- The renewal fields (R169). -/
def Station.renew (count : Nat) (st : Station) : Station :=
  if st.lastRenewal = some count then
    { st with unchanged := min 8 (st.unchanged + 1), stale := st.stale || decide (8 ≤ st.unchanged + 1) }
  else { st with lastRenewal := some count, unchanged := 0, stale := false }

/-- A station record after a good response, but for the last request code (R168, R169, R171). -/
def Station.good (r : Response) (st : Station) : Station :=
  { st.answered.renew r.renewal with lastReading := some { status := r.status, readings := r.readings } }

/-! ## What the owners receive (R170, R171) -/

/-- The owner is told of a new condition. -/
def State.notifyOwner (s : State) (n : Nat) (c : Condition) : State :=
  match roleOf n with
  | .zone => if n ≤ s.zoneCount then s.zoneNotice n c else s
  | .unwind => s.unwindNotice (if n = 9 then .a else .b) c
  | .table => s.tableNotice c
  | .accumulator => s.accumulatorNotice c
  | .auxiliary => s

/-- The notice of a condition that differs from the one before. -/
def State.noticeIfChanged (s : State) (n : Nat) (before : Condition) : State :=
  if (s.station n).condition = before then s else s.notifyOwner n (s.station n).condition

/-- The response of a delivery, after its notice (R171). -/
def State.deliver (s : State) (n : Nat) (r : Response) (newCode : Option Nat) : State :=
  let fresh := s.stationFresh n
  match r.readings with
  | .zone raw reference => if n ≤ s.zoneCount then s.zoneResponse n fresh r.code r.status raw reference else s
  | .unwind remaining =>
    s.unwindResponse (if n = 9 then .a else .b) fresh (RunState.ofStatus s.freeCtr r.status) newCode remaining
  | .table => s.tableResponse (TableStatus.ofStatus s.freeCtr r.status) r.code
  | .accumulator stock tension => if fresh then s.accumulatorReading stock tension else s
  | .auxiliary _ => s

/-- A request record (R173). -/
def State.queueRequest (s : State) (n code : Nat) : State :=
  if s.slm.requests.length < 32 then
    (s.onSlm fun m =>
      { m with requests := m.requests ++ [{ station := n, code := code, scan := m.scanNumber }] }).raise .stationRequest
  else s.onSlm fun m => { m with overflow := true }

/-- A good response of station `n` (R168 to R173). -/
def State.goodResponse (s : State) (n : Nat) (r : Response) : State :=
  let before := s.station n
  let newCode := if r.code ≠ before.lastCode then some r.code else none
  let t := s.onStation n (Station.good r)
  let u := if r.code ≠ 0 ∧ r.code ≠ before.lastCode then t.queueRequest n r.code else t
  ((u.noticeIfChanged n before.condition).deliver n r newCode).onStation n fun st => { st with lastCode := r.code }

/-- A miss of station `n` (R167, R170). -/
def State.stationMiss (s : State) (n : Nat) (crc : Bool) : State :=
  let before := s.station n
  let t := s.onStation n (Station.miss s.slm.lossThreshold crc)
  let u := if before.state ≠ .lost ∧ (t.station n).state = .lost then t.raise .stationLost else t
  u.noticeIfChanged n before.condition

/-- STATION_RESPONSE (R163); with no poll outstanding the bytes are discarded. What SEQ has due, a WAIT that has run among it, is done
when the owner has taken the response and before the next poll or, at a cycle's last poll, the scan completion of R91: a panel that
such a WAIT closes is a closed segment at that completion. The spec gives these no order (log 37). -/
def execStationResponse (bytes : List Byte) (s : State) : Host.Outcome State Fault Refusal :=
  .next <|
    match s.slm.toPoll with
    | [] => s
    | n :: _ =>
      (match judge s.freeCtr n bytes with
       | .good r => s.goodResponse n r
       | .missCrc => s.stationMiss n true
       | .miss => s.stationMiss n false).settle.nextPoll.useFree

/-- RESPONSE_WINDOW_EXPIRY (R163); what SEQ has due comes before the next poll or the scan completion here too (log 37). -/
def execResponseWindowExpiry (s : State) : Host.Outcome State Fault Refusal :=
  .next <|
    match s.slm.toPoll with
    | [] => s
    | n :: _ => (s.stationMiss n false).settle.nextPoll

/-! ## SET SCAN (R164, R165, R172) -/

/-- A station under a new loss threshold (R172). -/
def Station.underThreshold (threshold : Nat) (st : Station) : Station :=
  match st.state with
  | .lost => { st with misses := threshold }
  | .missing =>
    if threshold ≤ st.misses then { st with state := .lost, misses := threshold, recovery := 0 } else st
  | .online => { st with misses := 0 }

/-- Bring one station under a new threshold: STATION_LOST and the owner's notice where it becomes LOST. -/
def State.rethreshold (threshold : Nat) (s : State) (n : Nat) : State :=
  let t := s.onStation n (Station.underThreshold threshold)
  if (s.station n).state ≠ .lost ∧ (t.station n).state = .lost then (t.raise .stationLost).notifyOwner n .lost else t

/-- The threshold changes (R172). -/
def State.changeThreshold (s : State) (threshold : Nat) : State :=
  if s.slm.lossThreshold = threshold then s
  else (List.range' 1 16).foldl (State.rethreshold threshold) (s.onSlm fun m => { m with lossThreshold := threshold })

/-- The scan is idle (R160). -/
def Slm.scanIdle (m : Slm) : Bool := m.mode == .stopped && m.toPoll.isEmpty

/-- The ranges of SET SCAN (R164). -/
def scanInRange (last threshold window : Nat) : Bool :=
  decide (12 ≤ last ∧ last ≤ 16 ∧ 1 ≤ threshold ∧ threshold ≤ 6 ∧ 50 ≤ window ∧ window ≤ 500)

/-- The values are stored and the mode acts (R164, R165, R172). As every event, it ends with what SEQ then does, so a WAIT that
has run ends in it (log 11). -/
def State.setScan (s : State) (mode : ScanMode) (last threshold window : Nat) : State :=
  let t := ((s.changeThreshold threshold).onSlm fun m =>
    { m with mode := mode, lastStation := last, window := window }).settle
  if mode ≠ .stopped ∧ t.slm.toPoll.isEmpty = true then t.startCycle else t

/-- R164. -/
def handleSetScan (payload : List Byte) (s : State) : State × List Byte :=
  let last := fieldAt payload 1 1
  let threshold := fieldAt payload 2 1
  let window := fieldAt payload 3 4
  if payload.length ≠ 7 then (s, statusOnly .length)
  else
    match ScanMode.ofCode (byteAt payload 0) with
    | none => (s, statusOnly .range)
    | some mode =>
      if !scanInRange last threshold window then (s, statusOnly .range)
      else if (threshold ≠ s.slm.lossThreshold ∨ window ≠ s.slm.window) ∧ s.slm.scanIdle = false then
        (s, statusOnly .state)
      else if mode = .stopped ∧ s.slm.mode ≠ .stopped ∧ s.quiet = false then (s, statusOnly .state)
      else (s.setScan mode last threshold window, statusOnly .ok)

def execSetScan (tag : BitVec 16) (payload : List Byte) (s : State) : Host.Outcome State Fault Refusal :=
  .next (hostRequest 0x60#8 .configuredOnly handleSetScan tag payload s)

/-! ## READ STATIONS (R175) and TAKE REQUESTS (R174) -/

def Readings.toBytes : Readings → List Byte
  | .zone raw reference => beInt 2 raw ++ beInt 2 reference
  | .unwind remaining => beBytes 4 remaining
  | .table => []
  | .accumulator stock tension => beBytes 4 stock ++ beBytes 2 tension
  | .auxiliary bytes => bytes

/-- The bytes of an absent last reading of a role. -/
def Role.absentReading (r : Role) : List Byte := absentBytes (r.responseLength - 5)

/-- A station record in the order of R166. -/
def Station.toBytes (role : Role) (st : Station) : List Byte :=
  [st.state.code] ++ beBytes 1 st.misses ++ beBytes 1 st.recovery ++ beBytes 1 st.missCounter ++ beBytes 1 st.crcErrors
    ++ beOpt 1 st.lastRenewal ++ beBytes 1 st.unchanged ++ [yesNo st.stale] ++ beBytes 1 st.lastCode
    ++ (match st.lastReading with
        | some l => l.status :: l.readings.toBytes
        | none => role.absentReading)
    ++ [st.condition.code]

/-- The set that R175 shows: of the cycle in progress, or of the next. -/
def State.shownEnabled (s : State) : List Nat := if s.slm.toPoll.isEmpty then s.enabledSet else s.slm.enabled

/-- The items of READ STATIONS. -/
def stationsBody (s : State) : List Byte :=
  [s.slm.mode.code, yesNo (!s.slm.toPoll.isEmpty)] ++ beBytes 1 s.slm.lastStation ++ beBytes 1 s.slm.lossThreshold
    ++ beBytes 4 s.slm.window ++ beBytes 2 s.slm.scanNumber ++ beBytes 1 s.slm.requests.length ++ [yesNo s.slm.overflow]
    ++ (List.range' 1 16).flatMap fun n =>
        [yesNo (s.shownEnabled.contains n), (roleOf n).code] ++ (s.station n).toBytes (roleOf n)

def Station.clearCounters (st : Station) : Station := { st with missCounter := 0, crcErrors := 0 }

def handleReadStations (payload : List Byte) (s : State) : State × List Byte :=
  if payload.length ≠ 1 then (s, statusOnly .length)
  else
    match yesNoOf (byteAt payload 0) with
    | none => (s, statusOnly .range)
    | some clear =>
      (if clear then s.onSlm fun m => { m with stations := m.stations.map Station.clearCounters } else s,
       Status.ok.code :: stationsBody s)

def execReadStations (tag : BitVec 16) (payload : List Byte) (s : State) : Host.Outcome State Fault Refusal :=
  .next (hostRequest 0x61#8 .always handleReadStations tag payload s)

/-- The station request record (R206). -/
def StationRequest.toBytes (r : StationRequest) : List Byte := beBytes 1 r.station ++ beBytes 1 r.code ++ beBytes 2 r.scan

/-- The records returned leave; an emptied queue clears the overflow flag (R174). -/
def Slm.take (n : Nat) (m : Slm) : Slm :=
  { m with requests := m.requests.drop n, overflow := m.overflow && !(m.requests.drop n).isEmpty }

/-- R174. -/
def handleTakeRequests (payload : List Byte) (s : State) : State × List Byte :=
  let n := fieldAt payload 0 1
  if payload.length ≠ 1 then (s, statusOnly .length)
  else if n < 1 ∨ 16 < n then (s, statusOnly .range)
  else
    (s.onSlm (Slm.take n),
     Status.ok.code :: yesNo s.slm.overflow :: countedList StationRequest.toBytes (s.slm.requests.take n))

def execTakeRequests (tag : BitVec 16) (payload : List Byte) (s : State) : Host.Outcome State Fault Refusal :=
  .next (hostRequest 0x62#8 .configuredOnly handleTakeRequests tag payload s)

end Sys2Proof.Machine
end

