-- ==== Sys2Proof/Machine/Reports.lean ====
section
/-! DEFINITION. What the host asks of the belt and the zones: READ SEGMENTS (R100), ZONE COMMAND (R109), READ ZONES (R119, R137),
and the events of the belt, the cutter and the zone timers. -/

namespace Sys2Proof.Machine

/-! ## READ SEGMENTS -/

/-- The cutter state and the cut kind (R83). -/
def Cutter.codes : Cutter → List Byte
  | .idle => [1#8, 0xFF#8]
  | .cutting .lead _ => [2#8, 1#8]
  | .cutting .tail _ => [2#8, 2#8]

/-- A segment record in the order of R87. -/
def Segment.toBytes (g : Segment) : List Byte :=
  beBytes 2 g.jobId ++ beBytes 2 g.panelNumber ++ beBytes 1 g.patternId ++ beBytes 1 g.profileId ++ beBytes 4 g.finished
    ++ beBytes 6 g.b0 ++ presentBytes 6 g.b1 ++ beBytes 2 g.strokes ++ beBytes 2 g.retries ++ beBytes 2 g.foldsMissed
    ++ beBytes 4 g.rawCounts ++ g.flags.toBytes ++ [yesNo g.leadNeeded] ++ beBytes 4 g.credit ++ beBytes 4 g.exposure
    ++ beIntOpt 2 g.minTemp ++ beIntOpt 2 g.maxTemp

/-- The items of READ SEGMENTS (R100). -/
def segmentsBody (s : State) (first count : Nat) : List Byte :=
  beBytes 6 s.str.belt ++ beBytes 6 s.str.commanded ++ beBytes 1 s.str.pendingIdx.length ++ s.str.cutter.codes
    ++ beBytes 4 s.str.panelsBegun ++ beBytes 4 s.str.reports ++ beBytes 1 s.str.segments.length
    ++ countedList Segment.toBytes ((s.str.segments.drop first).take count)

/-- READ SEGMENTS (R100). DEDUCED (log 5): the first position takes one byte, as the table of R205 names no list position and this is
read like a step index. -/
def handleReadSegments (payload : List Byte) (s : State) : State × List Byte :=
  let first := fieldAt payload 0 1
  let count := fieldAt payload 1 1
  if payload.length ≠ 2 then (s, statusOnly .length)
  else if 63 < first ∨ count < 1 ∨ 16 < count then (s, statusOnly .range)
  else (s, Status.ok.code :: segmentsBody s first count)

def execReadSegments (tag : BitVec 16) (payload : List Byte) (s : State) : Host.Outcome State Fault Refusal :=
  .next (hostRequest 0x38#8 .always handleReadSegments tag payload s)

/-! ## ZONE COMMAND -/

/-- The zones a command names: ALL is sent as 0 (R205). -/
def State.namedZones (s : State) (zone : Nat) : List Nat := if zone = 0 then s.zoneNumbers else [zone]

/-- The status of ZONE COMMAND: STATE when some zone refuses (R109). -/
def zoneStatus (outcomes : List ZoneOutcome) : Status := if outcomes.contains .refused then .state else .ok

/-- R109. -/
def handleZoneCommand (payload : List Byte) (s : State) : State × List Byte :=
  let zone := fieldAt payload 0 1
  if payload.length ≠ 2 then (s, statusOnly .length)
  else
    match ZoneAction.ofCode (byteAt payload 1) with
    | none => (s, statusOnly .range)
    | some a =>
      if s.zoneCount < zone then (s, statusOnly .range)
      else if s.slm.mode = .stopped then (s, statusOnly .state)
      else
        let r := State.zoneActions a (s.namedZones zone) s
        (r.1.settle, (zoneStatus r.2).code :: countedList (fun o => [ZoneOutcome.code o]) r.2)

def execZoneCommand (tag : BitVec 16) (payload : List Byte) (s : State) : Host.Outcome State Fault Refusal :=
  .next (hostRequest 0x40#8 .configuredOnly handleZoneCommand tag payload s)

/-! ## READ ZONES -/

/-- The settle timer: its state and its expiry. -/
def SettleTimer.toBytes : SettleTimer → List Byte
  | .stopped => 1#8 :: presentBytes 6 none
  | .running e => 2#8 :: presentBytes 6 (some e)
  | .settled => 3#8 :: presentBytes 6 none

/-- A zone record in the order of R103, with the items of R121 and R129 behind it (R137). -/
def Zone.toBytes (z : Zone) : List Byte :=
  [z.state.code] ++ beIntOpt 2 z.setpoint ++ beIntOpt 2 z.limit ++ [yesNo z.lowering] ++ beIntOpt 2 z.corrected
    ++ beIntOpt 2 z.lastRaw ++ beInt 2 z.offset ++ [yesNo z.calibrated, yesNo z.calLimit, codeOpt ZoneReturn.code z.ret]
    ++ z.settle.toBytes ++ presentBytes 6 z.purgeDeadline ++ [yesNo z.purgePending] ++ beBytes 2 z.purgeCount
    ++ [codeOpt ZoneCause.code z.faultCause] ++ presentBytes 6 z.forceTime ++ presentBytes 6 z.purgeEnd
    ++ presentBytes 6 z.calibrationDue

/-- A zone as READ ZONES shows it: its record, inside the band, in band (R119). -/
def zoneBytes (s : State) (i : Nat) : List Byte :=
  (s.zone i).toBytes ++ [yesNo (s.insideBand i), yesNo (s.inBand i)]

/-- The items of READ ZONES, the settings behind the settle time (R119, R137). DESIGN CHOICE (log 38): before the first CONFIGURE LINE
Z, which R102 gives no value then, is sent as 0, not as the absent 0xFF. -/
def zonesBody (s : State) : List Byte :=
  beBytes 1 s.zoneCount ++ beBytes 4 s.zsv.settleTime ++ beBytes 4 s.zsv.purgeInterval ++ beBytes 4 s.zsv.purgeDuration
    ++ beBytes 4 s.zsv.purgeGrace ++ beBytes 4 s.zsv.recalInterval ++ beOpt 1 s.zsv.profile
    ++ countedList (beBytes 1) s.zsv.calQueue ++ beOpt 1 (s.zsv.reference.map RefOwner.zone)
    ++ [codeOpt CalKind.code (s.zsv.reference.map RefOwner.kind)]
    ++ presentBytes 6 (s.zsv.reference.map RefOwner.deadline) ++ countedList (zoneBytes s) s.zoneNumbers

def handleReadZones (payload : List Byte) (s : State) : State × List Byte :=
  if payload.length ≠ 0 then (s, statusOnly .length) else (s, Status.ok.code :: zonesBody s)

def execReadZones (tag : BitVec 16) (payload : List Byte) (s : State) : Host.Outcome State Fault Refusal :=
  .next (hostRequest 0x41#8 .always handleReadZones tag payload s)

/-! ## Belt, cutter and zone timers -/

/-- What an event did, and then what SEQ does; an event that does not arise changes nothing. -/
def State.thenSettle (s : State) (o : Option State) : State :=
  match o with
  | some t => t.settle
  | none => s

/-- BELT_DONE (R84, R92). -/
def execBeltDone (s : State) : Host.Outcome State Fault Refusal := .next (s.thenSettle s.beltDone)

/-- CUT_DONE (R97). -/
def execCutDone (s : State) : Host.Outcome State Fault Refusal := .next (s.thenSettle s.cutDone)

/-- SETTLE_EXPIRY (R113). -/
def execSettleExpiry (zone : Nat) (s : State) : Host.Outcome State Fault Refusal :=
  .next (s.thenSettle (s.settleExpiry zone))

/-- PURGE_DEADLINE (R122). -/
def execPurgeDeadline (zone : Nat) (s : State) : Host.Outcome State Fault Refusal :=
  .next (s.thenSettle (s.purgeFallsDue zone))

/-- FORCE_TIME (R125). -/
def execForceTime (zone : Nat) (s : State) : Host.Outcome State Fault Refusal :=
  .next (s.thenSettle (s.forcePurge zone))

/-- PURGE_END_TIME (R127). -/
def execPurgeEndTime (zone : Nat) (s : State) : Host.Outcome State Fault Refusal :=
  .next (s.thenSettle (s.endPurge zone))

/-- COMPARE_DEADLINE (R133). -/
def execCompareDeadline (s : State) : Host.Outcome State Fault Refusal := .next (s.thenSettle s.compareTimeout)

/-- CALIBRATION_DUE (R130). -/
def execCalibrationDue (zone : Nat) (s : State) : Host.Outcome State Fault Refusal :=
  .next (s.thenSettle (s.calibrationFallsDue zone))

end Sys2Proof.Machine
end

