-- ==== Sys2Proof/Machine/Configuration.lean ====
section
/-! DEFINITION. CONFIGURE LINE and CONFIGURE ZONES (R197, R198), power-on reset (R201) and LINE RESET (R202). -/

namespace Sys2Proof.Machine

/-! ## CONFIGURE LINE -/

/-- The STATE check of CONFIGURE LINE (R197). -/
def State.lineBusy (s : State) : Bool :=
  s.configured && !(s.seqIdle && s.rcu.activeUnwind.isNone && s.allZonesOff && s.slm.mode == .stopped)

/-- The first queued job that fails the length checks under a geometry (R197). -/
def State.failingJob (s : State) (c : LineConfig) : Option Job :=
  s.seq.jobs.find? fun j => !lengthsFit (finishedLength (s.pst.pattern j.patternId).steps j.grade) c.tunnel c.cut

/-- The nine values are stored as one whole; an open mark takes the new inspection coordinate (log 16); STR hands ZSV the
occupancy. -/
def State.storeLine (s : State) (c : LineConfig) : State := ({ s with line := some c }.growOpenMark).handOverOccupancy

/-- R197. -/
def handleConfigureLine (payload : List Byte) (s : State) : State × List Byte :=
  let c := LineConfig.ofBytes payload
  if payload.length ≠ 33 then (s, statusOnly .length)
  else if !c.inRange then (s, statusOnly .range)
  else if s.lineBusy then (s, statusOnly .state)
  else
    match s.failingJob c with
    | some j => (s, Status.range.code :: beBytes 2 j.jobId)
    | none => ((s.storeLine c).useFree, statusOnly .ok)

def execConfigureLine (tag : BitVec 16) (payload : List Byte) (s : State) : Host.Outcome State Fault Refusal :=
  .next (hostRequest 0x03#8 .always handleConfigureLine tag payload s)

/-! ## CONFIGURE ZONES -/

/-- The five settings, as ZSV holds them (R102, R121). -/
structure ZoneSettings where
  settleTime    : Nat
  purgeInterval : Nat
  purgeDuration : Nat
  purgeGrace    : Nat
  recalInterval : Nat
  deriving DecidableEq, Repr

def ZoneSettings.ofBytes (bs : List Byte) : ZoneSettings :=
  { settleTime := fieldAt bs 0 4, purgeInterval := fieldAt bs 4 4, purgeDuration := fieldAt bs 8 4
    purgeGrace := fieldAt bs 12 4, recalInterval := fieldAt bs 16 4 }

/-- The ranges of R198. -/
def ZoneSettings.inRange (z : ZoneSettings) : Bool :=
  decide (1000 ≤ z.settleTime ∧ z.settleTime ≤ 60000 ∧ 60 ≤ z.purgeInterval ∧ z.purgeInterval ≤ 900
    ∧ 2 ≤ z.purgeDuration ∧ z.purgeDuration ≤ 30 ∧ 10 ≤ z.purgeGrace ∧ z.purgeGrace ≤ 600
    ∧ (z.recalInterval = 0 ∨ (600 ≤ z.recalInterval ∧ z.recalInterval ≤ 86400)))

/-- The settings are stored. A calibration due time already set stands also when the recalibration interval becomes 0, as R121
has it, where R130 says that it is absent while the interval is 0 (log 34). -/
def Zsv.store (z : ZoneSettings) (v : Zsv) : Zsv :=
  { v with
    settleTime := z.settleTime, purgeInterval := z.purgeInterval, purgeDuration := z.purgeDuration
    purgeGrace := z.purgeGrace, recalInterval := z.recalInterval }

/-- R198. -/
def handleConfigureZones (payload : List Byte) (s : State) : State × List Byte :=
  if payload.length ≠ 20 then (s, statusOnly .length)
  else if !(ZoneSettings.ofBytes payload).inRange then (s, statusOnly .range)
  else (s.onZsv (Zsv.store (ZoneSettings.ofBytes payload)), statusOnly .ok)

def execConfigureZones (tag : BitVec 16) (payload : List Byte) (s : State) : Host.Outcome State Fault Refusal :=
  .next (hostRequest 0x04#8 .always handleConfigureZones tag payload s)

/-! ## Resets -/

/-- POWER_ON_RESET (R201); the commands that wait and the number of free values used are the model's own and stay (log 26). -/
def execPowerOnReset (strap1 strap0 guardIsOpen defectIsActive : Bool) (s : State) : Host.Outcome State Fault Refusal :=
  .next { State.powerOn strap1 strap0 guardIsOpen defectIsActive with pending := s.pending, freeCtr := s.freeCtr }

/-- Every block applies its reset, in the order of the table of R202 (log 20). The waste residue becomes 0, as R23 has it, where
R34 lets it stand until the next entry to WASTE (log 28). -/
def State.resetLine (s : State) : State :=
  (((((s.onSeq Seq.lineReset).onFca fun _ => Fca.powerOn).onWtr Wtr.lineReset).onStr Str.lineReset).zonesLineReset).rollsLineReset

/-- R202. -/
def handleLineReset (payload : List Byte) (s : State) : State × List Byte :=
  if payload.length ≠ 0 then (s, statusOnly .length) else (s.resetLine, statusOnly .ok)

def execLineReset (tag : BitVec 16) (payload : List Byte) (s : State) : Host.Outcome State Fault Refusal :=
  .next (hostRequest 0x07#8 .configuredOnly handleLineReset tag payload s)

end Sys2Proof.Machine
end

