-- ==== Sys2Proof/Machine/Dispatch.lean ====
section
/-! DEFINITION. One arm per command, each one direct call of its meaning. -/

namespace Sys2Proof.Machine

def exec (i : Instr) (s : State) : Host.Outcome State Fault Refusal :=
  match i with
  | .powerOnReset strap1 strap0 guardIsOpen defectIsActive => Sys2Proof.Machine.execPowerOnReset strap1 strap0 guardIsOpen defectIsActive s
  | .lineReset tag payload => Sys2Proof.Machine.execLineReset tag payload s
  | .identify tag payload => Sys2Proof.Machine.execIdentify tag payload s
  | .readStatus tag payload => Sys2Proof.Machine.execReadStatus tag payload s
  | .configureLine tag payload => Sys2Proof.Machine.execConfigureLine tag payload s
  | .configureZones tag payload => Sys2Proof.Machine.execConfigureZones tag payload s
  | .configureRolls tag payload => Sys2Proof.Machine.execConfigureRolls tag payload s
  | .configureLink tag payload => Sys2Proof.Machine.execConfigureLink tag payload s
  | .loadProfile tag payload => Sys2Proof.Machine.execLoadProfile tag payload s
  | .readProfile tag payload => Sys2Proof.Machine.execReadProfile tag payload s
  | .openPattern tag payload => Sys2Proof.Machine.execOpenPattern tag payload s
  | .loadSteps tag payload => Sys2Proof.Machine.execLoadSteps tag payload s
  | .closePattern tag payload => Sys2Proof.Machine.execClosePattern tag payload s
  | .deletePattern tag payload => Sys2Proof.Machine.execDeletePattern tag payload s
  | .readSteps tag payload => Sys2Proof.Machine.execReadSteps tag payload s
  | .queueJob tag payload => Sys2Proof.Machine.execQueueJob tag payload s
  | .cancelJob tag payload => Sys2Proof.Machine.execCancelJob tag payload s
  | .readJobs tag payload => Sys2Proof.Machine.execReadJobs tag payload s
  | .setPace tag payload => Sys2Proof.Machine.execSetPace tag payload s
  | .go tag payload => Sys2Proof.Machine.execGo tag payload s
  | .hold tag payload => Sys2Proof.Machine.execHold tag payload s
  | .resume tag payload => Sys2Proof.Machine.execResume tag payload s
  | .abortPanel tag payload => Sys2Proof.Machine.execAbortPanel tag payload s
  | .stopLine tag payload => Sys2Proof.Machine.execStopLine tag payload s
  | .reportDefect tag payload => Sys2Proof.Machine.execReportDefect tag payload s
  | .readMarks tag payload => Sys2Proof.Machine.execReadMarks tag payload s
  | .readSegments tag payload => Sys2Proof.Machine.execReadSegments tag payload s
  | .zoneCommand tag payload => Sys2Proof.Machine.execZoneCommand tag payload s
  | .readZones tag payload => Sys2Proof.Machine.execReadZones tag payload s
  | .declareRoll tag payload => Sys2Proof.Machine.execDeclareRoll tag payload s
  | .startUnwind tag payload => Sys2Proof.Machine.execStartUnwind tag payload s
  | .changeRoll tag payload => Sys2Proof.Machine.execChangeRoll tag payload s
  | .abortChange tag payload => Sys2Proof.Machine.execAbortChange tag payload s
  | .readRolls tag payload => Sys2Proof.Machine.execReadRolls tag payload s
  | .setScan tag payload => Sys2Proof.Machine.execSetScan tag payload s
  | .readStations tag payload => Sys2Proof.Machine.execReadStations tag payload s
  | .takeRequests tag payload => Sys2Proof.Machine.execTakeRequests tag payload s
  | .readReports tag payload => Sys2Proof.Machine.execReadReports tag payload s
  | .releaseReports tag payload => Sys2Proof.Machine.execReleaseReports tag payload s
  | .takeEvents tag payload => Sys2Proof.Machine.execTakeEvents tag payload s
  | .setNotices tag payload => Sys2Proof.Machine.execSetNotices tag payload s
  | .unknownKindRequest kind tag payload => Sys2Proof.Machine.execUnknownKindRequest kind tag payload s
  | .strayFrame => Sys2Proof.Machine.execStrayFrame s
  | .linkOverrun => Sys2Proof.Machine.execLinkOverrun s
  | .frameCrcError => Sys2Proof.Machine.execFrameCrcError s
  | .frameLengthError => Sys2Proof.Machine.execFrameLengthError s
  | .interByteGap => Sys2Proof.Machine.execInterByteGap s
  | .missingStopBit inFrame => Sys2Proof.Machine.execMissingStopBit inFrame s
  | .replyEnd => Sys2Proof.Machine.execReplyEnd s
  | .noticeBegin => Sys2Proof.Machine.execNoticeBegin s
  | .silenceTimeout => Sys2Proof.Machine.execSilenceTimeout s
  | .markEdge edge => Sys2Proof.Machine.execMarkEdge edge s
  | .paceExpiry => Sys2Proof.Machine.execPaceExpiry s
  | .foldEdge edge => Sys2Proof.Machine.execFoldEdge edge s
  | .guardOpen fed moved => Sys2Proof.Machine.execGuardOpen fed moved s
  | .guardClose => Sys2Proof.Machine.execGuardClose s
  | .feedDone => Sys2Proof.Machine.execFeedDone s
  | .strokeDone => Sys2Proof.Machine.execStrokeDone s
  | .waitEnd => Sys2Proof.Machine.execWaitEnd s
  | .wasteWaitEnd => Sys2Proof.Machine.execWasteWaitEnd s
  | .defectActiveEdge => Sys2Proof.Machine.execDefectActiveEdge s
  | .defectInactiveEdge => Sys2Proof.Machine.execDefectInactiveEdge s
  | .beltDone => Sys2Proof.Machine.execBeltDone s
  | .cutDone => Sys2Proof.Machine.execCutDone s
  | .settleExpiry zone => Sys2Proof.Machine.execSettleExpiry zone s
  | .purgeDeadline zone => Sys2Proof.Machine.execPurgeDeadline zone s
  | .forceTime zone => Sys2Proof.Machine.execForceTime zone s
  | .purgeEndTime zone => Sys2Proof.Machine.execPurgeEndTime zone s
  | .compareDeadline => Sys2Proof.Machine.execCompareDeadline s
  | .calibrationDue zone => Sys2Proof.Machine.execCalibrationDue zone s
  | .phaseDeadline => Sys2Proof.Machine.execPhaseDeadline s
  | .stationResponse bytes => Sys2Proof.Machine.execStationResponse bytes s
  | .responseWindowExpiry => Sys2Proof.Machine.execResponseWindowExpiry s
  | .noticeEnd => Sys2Proof.Machine.execNoticeEnd s

end Sys2Proof.Machine
end

