-- ==== Sys2Proof/Machine/LineClock.lean ====
section
/-! DEFINITION. What the part does with no command waiting (log 2): the line clock runs, and the events of the clock and of an
idle transmitter come about when they are due. -/

namespace Sys2Proof.Machine

/-- A time that the line clock has reached. -/
def State.reached (s : State) (time : Option Nat) : Bool :=
  match time with
  | some t => decide (t ≤ s.clock)
  | none => false

/-- An event that is due, or nothing. -/
def dueIf (b : Bool) (c : Instr) : List Instr := if b then [c] else []

/-- The expiry of a RUNNING settle timer. -/
def SettleTimer.expiry : SettleTimer → Option Nat
  | .running e => some e
  | _ => none

/-- The timed events of one zone that are due (R113, R122, R125, R127, R130). -/
def State.zoneDue (s : State) (i : Nat) : List Instr :=
  let z := s.zone i
  dueIf (z.state == .warming && s.reached z.settle.expiry) (.settleExpiry i)
    ++ dueIf (!z.purgePending && (z.state.steady || z.state == .calibrating) && s.reached z.purgeDeadline)
        (.purgeDeadline i)
    ++ dueIf (z.purgePending && s.reached z.forceTime) (.forceTime i)
    ++ dueIf (z.state == .purging && s.reached z.purgeEnd) (.purgeEndTime i)
    ++ dueIf (s.reached z.calibrationDue) (.calibrationDue i)

/-- A notice is wanted and no frame is being sent (R194). -/
def State.noticeDue (s : State) : Bool := s.evu.noticeWanted && s.hlp.transmitter == .idle

/-- Every event that is due now, of all eight zone records: a zone above Z stays OFF (R102) and reaches its calibration due time
there (R130). -/
def State.due (s : State) : List Instr :=
  dueIf (s.seq.mode == .runWait && decide (s.waitExpiry ≤ s.clock)) .waitEnd
    ++ dueIf (s.seq.mode == .wasteWait && decide (s.waitExpiry ≤ s.clock)) .wasteWaitEnd
    ++ dueIf (s.reached s.seq.paceTimer) .paceExpiry
    ++ dueIf (s.reached s.hlp.silenceTimer) .silenceTimeout
    ++ ((List.range' 1 8).flatMap s.zoneDue)
    ++ dueIf (s.reached (s.zsv.reference.map RefOwner.deadline)) .compareDeadline
    ++ dueIf (s.reached (s.rcu.change.map Change.deadline)) .phaseDeadline
    ++ dueIf s.noticeDue .noticeBegin

/-- A tick: one due event comes about, which of several being a free value; with none due the line clock advances 1 ms. -/
def State.tick (s : State) : Host.Outcome State Fault Refusal :=
  match s.due with
  | [] => .next { s with clock := s.clock + 1 }
  | [c] => exec c s
  | c :: d :: rest => exec ((c :: d :: rest).getD (Config.pickDue s.freeCtr % (rest.length + 2)) c) s.useFree

end Sys2Proof.Machine
end

