-- ==== Sys2Proof/WellFormed.lean ====
section
/-! DEFINITION. Which commands the links and the lines can bring: a request's payload has 1,024 bytes or fewer (R190, R204), an
unknown kind is below 0x80 and no kind of R207, a zone is one of the eight (R102), and a response is the bytes of one
frame. The meanings are total on every command all the same. -/

namespace Sys2Proof

/-- The request kinds of R207. -/
def requestKinds : List Nat :=
  [0x01, 0x02, 0x03, 0x04, 0x05, 0x06, 0x07, 0x10, 0x11, 0x12, 0x13, 0x14, 0x15, 0x16, 0x20, 0x21, 0x22, 0x23, 0x24, 0x25,
   0x26, 0x27, 0x28, 0x30, 0x31, 0x38, 0x40, 0x41, 0x50, 0x51, 0x52, 0x53, 0x54, 0x60, 0x61, 0x62, 0x68, 0x69, 0x6A, 0x6B]

def payloadFits (payload : List Byte) : Bool := decide (payload.length ≤ 1024)

def zoneNumberFits (zone : Nat) : Bool := decide (1 ≤ zone ∧ zone ≤ 8)

/-- The longest frame a station can be asked for is an auxiliary's of 14 bytes (R208); a response received "whole" may be of
another length (R163), so only emptiness is refused: its first byte arrived. -/
def responseFits (bytes : List Byte) : Bool := !bytes.isEmpty

/-- A command that can arrive. -/
def Instr.wellFormed : Instr → Bool
  | .lineReset _ p | .identify _ p | .readStatus _ p | .configureLine _ p | .configureZones _ p | .configureRolls _ p
  | .configureLink _ p | .loadProfile _ p | .readProfile _ p | .openPattern _ p | .loadSteps _ p | .closePattern _ p
  | .deletePattern _ p | .readSteps _ p | .queueJob _ p | .cancelJob _ p | .readJobs _ p | .setPace _ p | .go _ p
  | .hold _ p | .resume _ p | .abortPanel _ p | .stopLine _ p | .reportDefect _ p | .readMarks _ p | .readSegments _ p
  | .zoneCommand _ p | .readZones _ p | .declareRoll _ p | .startUnwind _ p | .changeRoll _ p | .abortChange _ p
  | .readRolls _ p | .setScan _ p | .readStations _ p | .takeRequests _ p | .readReports _ p | .releaseReports _ p
  | .takeEvents _ p | .setNotices _ p => payloadFits p
  | .unknownKindRequest k _ p => payloadFits p && decide (k.toNat < 0x80) && !requestKinds.contains k.toNat
  | .settleExpiry z | .purgeDeadline z | .forceTime z | .purgeEndTime z | .calibrationDue z => zoneNumberFits z
  | .stationResponse bytes => responseFits bytes
  | .powerOnReset _ _ _ _ | .strayFrame | .linkOverrun | .frameCrcError | .frameLengthError | .interByteGap
  | .missingStopBit _ | .replyEnd | .noticeBegin | .silenceTimeout | .markEdge _ | .paceExpiry | .foldEdge _
  | .guardOpen _ _ | .guardClose | .feedDone | .strokeDone | .waitEnd | .wasteWaitEnd | .defectActiveEdge
  | .defectInactiveEdge | .beltDone | .cutDone | .compareDeadline | .phaseDeadline | .responseWindowExpiry
  | .noticeEnd => true

end Sys2Proof
end

