-- ==== Sys2Proof/Safety.lean ====
section
/-! DEFINITION. The terms that claims are stated in: when a request is taken, where SEQ stands through the end of an event, the
point a hold takes, a WAIT that has run, the walk over a pattern, marks reached, what a belt advance sets off, a zone's purge and
limit, a broken roll change, what a response books and whom it tells, a station under a new loss threshold, which requests an
unconfigured part refuses, and the invariants that every step keeps. -/

namespace Sys2Proof.Machine

/-! ## Requests -/

/-- A request finds a place in the receive buffer (R191). -/
def State.room (s : State) : Prop := s.hlp.buffer.length < 4

/-- A request is judged by its own rule: the part is CONFIGURED and the buffer has a place (R191, R193). -/
def State.taken (s : State) : Prop := s.configured = true ∧ s.room

/-- The kinds refused in UNCONFIGURED: every request kind that the table of R196 does not list. -/
def refusedKinds : List Nat :=
  [0x07, 0x20, 0x21, 0x23, 0x24, 0x25, 0x26, 0x27, 0x28, 0x30, 0x40, 0x50, 0x51, 0x52, 0x53, 0x60, 0x62, 0x69, 0x6B]

/-- The payload length that a request's rule fixes (R204, R205); LOAD STEPS has no single one. -/
def payloadLength (kind : Nat) : Option Nat :=
  [(0x01, 0), (0x02, 1), (0x03, 33), (0x04, 20), (0x05, 45), (0x06, 4), (0x07, 0), (0x10, 23), (0x11, 1), (0x12, 2),
   (0x14, 1), (0x15, 1), (0x16, 3), (0x20, 7), (0x21, 2), (0x22, 0), (0x23, 11), (0x24, 0), (0x25, 0), (0x26, 0),
   (0x27, 0), (0x28, 0), (0x30, 12), (0x31, 2), (0x38, 2), (0x40, 2), (0x41, 0), (0x50, 10), (0x51, 1), (0x52, 0),
   (0x53, 0), (0x54, 0), (0x60, 7), (0x61, 1), (0x62, 1), (0x68, 1), (0x69, 3), (0x6A, 2), (0x6B, 2)].lookup kind

/-- What a request leaves that changes nothing but the link's own state: the silence timer restarted, the reply owed. -/
def State.onlyReplies (s : State) (kind : Byte) (tag : BitVec 16) (reply : List Byte) : State :=
  s.restartSilence.pushReply kind tag reply

/-! ## The sequencer -/

/-- The states that the end of an event leaves as they are: no hold point, no WAIT, no standing trigger. -/
def SeqMode.stands : SeqMode → Bool
  | .idle | .wasteFeed | .runFeed | .runStroke | .fault _ => true
  | .armed | .wasteWait | .runWait | .holding _ => false

/-- The end of an event finds nothing for SEQ to do: no hold point to take (R44), no WAIT that has run (R55, R59), no standing
trigger with the arm conditions met (R47). -/
def State.atRest (s : State) : Bool :=
  match s.seq.mode with
  | .idle | .wasteFeed | .runFeed | .runStroke | .fault _ => true
  | .holding _ => s.held
  | .armed => !s.held && !(s.seq.triggers.source == .command && s.armMet)
  | .wasteWait | .runWait => !s.held && decide (s.clock < s.waitExpiry)

/-- Where a hold takes SEQ at once (R44). -/
def SeqMode.whenHeld : SeqMode → SeqMode
  | .armed => .holding .armed
  | .wasteWait => .holding .wasteWait
  | .runWait => .holding .runWait
  | m => m

/-- SEQ_HOLD is raised where the hold is an entry to HOLDING. -/
def Evu.whenHeld (m : SeqMode) (e : Evu) : Evu := if m.whenHeld = m then e else e.raise .seqHold

/-- The current motion has to complete before a command acts (R49). -/
def SeqMode.moving : SeqMode → Bool
  | .wasteFeed | .runFeed | .runStroke => true
  | _ => false

/-- The WAIT of a step or chunk with that interval has not run (R55, R59). -/
def State.waiting (s : State) (interval : Nat) : Prop :=
  match s.seq.lastStrokeStart with
  | some start => s.clock < start + max s.seq.triggers.strokePeriod interval
  | none => False

/-- The zones once `jobs` is the queue and `segments` the segments: the zone profile is tested for the head job (R105). -/
def State.zonesFor (s : State) (jobs : List Job) (segments : List Segment) : Zsv :=
  ({ s with seq := { s.seq with jobs := jobs }, str := { s.str with segments := segments } } : State).switchTest.zsv

/-- What the end of a panel leaves (R62, R90): the segment closed at the commanded coordinate, ABORTED unless the END was
reached; no open panel, last stroke start or Lp; panels done advanced; a job that is done, or cancel-pending, gone from the
queue with JOB_DONE pending and the zone profile tested for the next one. -/
def State.panelEnded (s t : State) (reachedEnd : Bool) : Prop :=
  t.seq.openPanel = none ∧ t.seq.lastStrokeStart = none ∧ t.fca.panelLp = none
    ∧ t.str.segments = modifyLast (fun g =>
        { g with b1 := some s.str.commanded
                 flags := if reachedEnd then g.flags else { g.flags with aborted := true } }) s.str.segments
    ∧ t.str.lastEnd = some s.str.commanded
    ∧ ∀ j rest, s.seq.jobs = j :: rest →
        if j.panelsDone + 1 = j.panelCount ∨ j.cancelPending = true
        then t.seq.jobs = rest ∧ t.evu.pendingSet.getLsbD 2 = true ∧ t.zsv = s.zonesFor rest t.str.segments
        else t.seq.jobs = { j with panelsDone := j.panelsDone + 1 } :: rest ∧ t.zsv = s.zsv

/-- The STROKE that the end of a WAIT begins (R60), now: the kind's blades, no FOLD edges; a first stroke asks for the step's belt
index and counts in strokes, a retry counts in retries alone (R61). -/
def State.strokeBegun (s : State) (r : StepRecord) (st : StepRun) : State :=
  { s with
    seq := { s.seq with
      mode := .runStroke, lastStrokeStart := some s.clock, foldEdges := 0
      bladePort := some (match r.kind with
        | .box => .pairedOut
        | .inverted => .pairedIn
        | _ => .single)
      step := some { st with stroked := true, retries := if st.stroked then st.retries + 1 else st.retries } }
    str :=
      if st.stroked then { s.str with segments := modifyLast (fun g => { g with retries := g.retries + 1 }) s.str.segments }
      else { s.str.request st.graded with
        segments := modifyLast (fun g => { g with strokes := g.strokes + 1 }) s.str.segments } }

/-- `t` is what the end of a WAIT makes of `s` (R55, R59), now: a pleat's stroke; a spacer's index and the walk on; a chunk's index,
and the next chunk, or with the head at the target the repeated panel start check. A standing trigger is taken after the last
two. -/
def State.waitRun (s t : State) : Prop :=
  (s.seq.mode = .runWait → ∀ r, s.currentRecord = some r → ∀ st, s.seq.step = some st →
    ((r.kind = .knife ∨ r.kind = .box ∨ r.kind = .inverted) → t = s.strokeBegun r st)
    ∧ (r.kind = .spacer → t = ({ s with
        seq := { s.seq with lastStrokeStart := some s.clock }, str := s.str.request st.graded } : State).walkOn.armedStart))
  ∧ (s.seq.mode = .wasteWait → ∀ c, s.seq.chunk = some c → ∀ target, s.seq.wasteTarget = some target →
    let u : State := { s with
      seq := { s.seq with lastStrokeStart := some s.clock, wasteTotal := s.seq.wasteTotal + c.index, chunk := none }
      str := s.str.request c.index }
    (s.headCoord < target →
      let a := wasteChunk (target - s.headCoord).toNat s.resolution s.fca.wasteResidue
      t = { u with
        seq := { u.seq with
          mode := .wasteFeed, feedPort := some a.1
          chunk := some { counts := a.1, index := a.2.1, interval := minInterval s.headMinDwell a.2.1 s.tunnel } }
        fca := { s.fca with wasteResidue := a.2.2 } })
    ∧ (target ≤ s.headCoord → t = u.repeatCheck.armedStart))

/-- The record is a forming step (R18). -/
def StepRecord.forming (r : StepRecord) : Prop := r.kind ≠ .loopBack ∧ r.kind ≠ .panelEnd

/-- A forming step's FEED has begun from `s` (R24 to R31, R58): RUNNING, FEED with the counts the computation answers, the
residue, last G and the clamped mark taken. -/
def State.stepFed (s t : State) (r : StepRecord) : Prop :=
  t.seq.mode = .runFeed ∧ t.seq.feedPort = some (s.stepAnswer r).counts
    ∧ t.seq.step = some { graded := (s.stepAnswer r).graded, interval := (s.stepAnswer r).interval, stroked := false
                          retries := 0 }
    ∧ t.fca = (s.takeStep r).fca

/-- Where the walk of R18 next takes a forming step or an END, from index `i` with the loop counters `cs`, after `n` REPEATs: an
unloaded counter is loaded and the walk goes to the loop target; a loaded one is decremented, and the walk goes to the target
while it is above 0, else unloads it and goes on. -/
inductive WalksTo (steps : List StepRecord) : Nat → Nat → List (Nat × Nat) → WalkStop → Prop
  | takes {i : Nat} {cs : List (Nat × Nat)} {r : StepRecord} :
      steps[i]? = some r → r.forming → WalksTo steps 0 i cs (.forming i r cs)
  | stops {i : Nat} {cs : List (Nat × Nat)} {r : StepRecord} :
      steps[i]? = some r → r.kind = .panelEnd → WalksTo steps 0 i cs (.ended i)
  | loads {n i : Nat} {cs : List (Nat × Nat)} {r : StepRecord} {w : WalkStop} :
      steps[i]? = some r → r.kind = .loopBack → cs.lookup i = none →
      WalksTo steps n (r.loopTarget.getD 0) (setCounter cs i (r.loopCount.getD 0)) w → WalksTo steps (n + 1) i cs w
  | repeats {n i k : Nat} {cs : List (Nat × Nat)} {r : StepRecord} {w : WalkStop} :
      steps[i]? = some r → r.kind = .loopBack → cs.lookup i = some k → 0 < k - 1 →
      WalksTo steps n (r.loopTarget.getD 0) (setCounter cs i (k - 1)) w → WalksTo steps (n + 1) i cs w
  | unloads {n i k : Nat} {cs : List (Nat × Nat)} {r : StepRecord} {w : WalkStop} :
      steps[i]? = some r → r.kind = .loopBack → cs.lookup i = some k → k - 1 = 0 →
      WalksTo steps n (i + 1) (clearCounter cs i) w → WalksTo steps (n + 1) i cs w

/-! ## Marks -/

/-- `t` holds the mark list `l`, its marks at or below the head reached (R76): the last SPLICE newly reached gives the head fabric
profile, and the open panel's segment takes SPLICE and DEFECT for the kinds newly reached. -/
def State.marksReached (s t : State) (l : List Mark) : Prop :=
  let now := l.filter fun m => !m.reached && decide (m.coord ≤ s.headCoord)
  t.wtr.marks = l.map (fun m => if m.coord ≤ s.headCoord then { m with reached := true } else m)
  ∧ ((∀ m ∈ now, m.isSplice = false) → t.wtr.headFabric = s.wtr.headFabric)
  ∧ (∀ before m p after, now = before ++ m :: after → m.kind = .splice p → (∀ x ∈ after, x.isSplice = false) →
      t.wtr.headFabric = some p)
  ∧ (s.seq.openPanel = none → t.str = s.str)
  ∧ (s.seq.openPanel ≠ none → t.str = { s.str with
      segments := modifyLast (fun g => { g with flags := { g.flags with
        splice := g.flags.splice || now.any Mark.isSplice
        defect := g.flags.defect || now.any fun m => !m.isSplice } }) s.str.segments })

/-! ## The belt -/

/-- The cut that a cut check with the cutter IDLE makes at B (R96): the lead cut of the oldest segment, or once that is made its tail
cut, where its point has come to D_cut. -/
def State.cutChecked (s : State) (belt : Nat) (l : List Segment) : Cutter :=
  match l with
  | [] => .idle
  | g :: _ =>
    if g.leadNeeded then
      if g.b0 + s.cutDistance ≤ belt then .cutting .lead (belt - g.b0 - s.cutDistance) else .idle
    else
      match g.b1 with
      | none => .idle
      | some b1 => if b1 + s.cutDistance ≤ belt then .cutting .tail (belt - b1 - s.cutDistance) else .idle

/-- `t` is what the consequences of a belt advance make of `u`, where B has its new value (R92): each segment takes PURGED and
ZONE_FAULT from the zones it overlaps (R93, R94); the occupancy is handed over with the calibration entries (R95), and the zone
profile tested (R105); an IDLE cutter makes its cut check (R96). -/
def State.advanceTaken (u t : State) : Prop :=
  let flagged : State := { u with str := { u.str with
    segments := u.str.segments.map fun g => { g with flags := { g.flags with
      purged := g.flags.purged || u.zoneNumbers.any fun i => u.overlapsZone g i && (u.zone i).state == .purging
      zoneFault := g.flags.zoneFault || u.zoneNumbers.any fun i => u.overlapsZone g i && (u.zone i).state == .fault } } } }
  t = { flagged with
    zsv := flagged.handOverAdvance.switchTest.zsv
    str := { flagged.str with
      cutter := if u.str.cutter = Cutter.idle then u.cutChecked u.str.belt u.str.segments else u.str.cutter } }

/-! ## Zones -/

/-- A purge that is pending can start at once (R124). -/
def Zone.startsPurge (z : Zone) : Prop :=
  z.purgePending = true ∧ z.occupied = false ∧ (z.state = .ready ∨ z.state = .standby)

/-- The zone once its purge has started at `now` for `duration` seconds, with return state `k` (R124). -/
def Zone.purgeStarted (z : Zone) (k : ZoneReturn) (now duration : Nat) : Zone :=
  { z with
    state := .purging, ret := some k, settle := .stopped, purgePending := false, forceTime := none
    purgeEnd := some (now + duration * 1000)
    purgeCount := if z.purgeCount < 65535 then z.purgeCount + 1 else z.purgeCount }

/-- A queued zone that may be handed the reference (R131). -/
def Zone.mayCompare (z : Zone) : Prop :=
  (z.state = .warming ∨ z.state = .ready ∨ z.state = .standby) ∧ z.occupied = false

/-- A zone `z` whose setpoint or profile changes becomes `t` (R107): the limit takes its target, setpoint + 4 × band half-width,
where that is not below the limit that stands (24,999 where there is none) or the zone shows a temperature at or below
setpoint + band; otherwise the limit stands with lowering pending. -/
def Zone.aimed (p : Profile) (sp : Int) (z t : Zone) : Prop :=
  let target := sp + 4 * (p.bandHalf : Int)
  let standing := z.limit.getD 24999
  let cool : Prop := ∃ c, z.corrected = some c ∧ c ≤ sp + p.bandHalf
  t.setpoint = some sp
  ∧ (standing ≤ target ∨ cool → t.limit = some target ∧ t.lowering = false)
  ∧ (target < standing → ¬cool → t.limit = some standing ∧ t.lowering = true)

/-- A zone `z` takes the setpoint `sp` as it becomes `t` (R107): a changed one with its limit, one that stands leaving the limit and
its lowering as they are (log 23). -/
def Zone.takes (p : Profile) (sp : Int) (z t : Zone) : Prop :=
  (z.setpoint ≠ some sp → Zone.aimed p sp z t)
  ∧ (z.setpoint = some sp → t.setpoint = z.setpoint ∧ t.limit = z.limit ∧ t.lowering = z.lowering)

/-! ## The roll change -/

/-- What JAM, a LOST station, a removed standby roll and a deadline leave of a change in progress (R153, R155): before its splice
REVERTED, with ROLL only where the old unwind cannot be given RUN again; after it FAILED, with ROLL. -/
def State.changeBroken (s : State) (cause : ChangeCause) : State :=
  match s.rcu.change with
  | none => s
  | some c =>
    let early : Bool := c.phase == .filling || c.phase == .stopping || c.phase == .splicing
    let runs : Bool := (s.rcu.unwind c.old).state == .active && (s.station c.old.station).state != .lost
    { s with
      seq := { s.seq with rollHold := s.seq.rollHold || !(early && runs) }
      rcu := { s.rcu with
        change := none, outcome := if early then .reverted else .failed, outcomePhase := some c.phase
        outcomeCause := some cause }
      evu := s.evu.raise .changeAbort }

/-! ## Station responses -/

/-- A good response is in the station's record, and its code, where it is new and not 0, with the requests (R168, R169, R173). -/
def State.booked (s : State) (n : Nat) (r : Response) : State :=
  let t := s.onStation n (Station.good r)
  if r.code ≠ 0 ∧ r.code ≠ (s.station n).lastCode then t.queueRequest n r.code else t

/-- A miss is in the station's record, and STATION_LOST raised where the station becomes LOST (R167). -/
def State.missBooked (s : State) (n : Nat) (crc : Bool) : State :=
  let t := s.onStation n (Station.miss s.slm.lossThreshold crc)
  if (s.station n).state ≠ .lost ∧ (t.station n).state = .lost then t.raise .stationLost else t

/-- The owner of station `n` is told of a condition that differs from the one before (R170). -/
def State.told (s : State) (n : Nat) (before : Condition) : State :=
  let c := (s.station n).condition
  if c = before then s
  else if n ≤ 8 then if n ≤ s.zoneCount then s.zoneNotice n c else s
  else if n = 9 then s.unwindNotice .a c
  else if n = 10 then s.unwindNotice .b c
  else if n = 11 then s.tableNotice c
  else if n = 12 then s.accumulatorNotice c
  else s

/-- Station `n` brought under a new loss threshold (R172): a MISSING one with that many misses or more becomes LOST, STATION_LOST is
raised and its owner told (R170); a LOST one takes that many misses, an ONLINE one none, and a MISSING one below it keeps its own. -/
def State.thresholdTold (s : State) (threshold n : Nat) : State :=
  let st := s.station n
  if st.state = .missing ∧ threshold ≤ st.misses then
    ((s.onStation n fun x => { x with state := .lost, misses := threshold, recovery := 0 }).raise .stationLost).told n st.condition
  else
    s.onStation n fun x =>
      { x with
        misses := match x.state with
          | .lost => threshold
          | .online => 0
          | .missing => x.misses }

/-! ## Invariants -/

/-- Panels begun equals reports produced plus the segments in the queue (R99). -/
def State.panelsBalance (s : State) : Prop := s.str.panelsBegun = s.str.reports + s.str.segments.length

/-- The feed residue lies in 0 ≤ r < 10¹² (R29). -/
def State.residueBounded (s : State) : Prop := s.fca.residue < 1000000000000

/-- At most one unwind record is ACTIVE (R138, R156); a change is between the two unwinds. -/
def State.oneActive (s : State) : Prop :=
  ¬(s.rcu.unwindA.state = .active ∧ s.rcu.unwindB.state = .active) ∧ ∀ c, s.rcu.change = some c → c.old ≠ c.new

/-- A station's misses never exceed the threshold, and it is LOST exactly at the threshold (R167). -/
def State.stationsSound (s : State) : Prop :=
  s.slm.stations.length = 16 ∧ 1 ≤ s.slm.lossThreshold
    ∧ ∀ st ∈ s.slm.stations, st.misses ≤ s.slm.lossThreshold ∧ (st.state = .lost ↔ st.misses = s.slm.lossThreshold)

/-- The filled slots of the ring are the `filled` ones before the write position (R177). -/
def State.ringSound (s : State) : Prop :=
  s.evu.slots.length = 8 ∧ s.evu.writePos < 8 ∧ s.evu.filled ≤ 8
    ∧ ∀ k, k < 8 → ((s.evu.slots.getD ((s.evu.oldest + k) % 8) none).isSome = true ↔ k < s.evu.filled)

/-- A zone is CALIBRATING exactly while it owns the reference, and then holds a return state (R103, R129). -/
def State.referenceSound (s : State) : Prop :=
  ∀ i, ((s.zone i).state = .calibrating ↔ s.zsv.reference.map RefOwner.zone = some i)
    ∧ ((s.zone i).state = .calibrating → (s.zone i).ret ≠ none)

/-- A VALID pattern names a LOADED profile, and every queued job names a VALID pattern (R11, R14, R38). -/
def State.jobsSound (s : State) : Prop :=
  (∀ id, (s.pst.pattern id).state = .valid → ((s.pst.pattern id).profileId.bind s.pst.profile).isSome = true)
    ∧ ∀ j ∈ s.seq.jobs, (s.pst.pattern j.patternId).state = .valid

/-- The tables have the numbers of entries that their rules give (R2, R8, R102, R166). -/
def State.sized (s : State) : Prop :=
  s.pst.profiles.length = 16 ∧ s.pst.patterns.length = 32 ∧ s.zsv.zones.length = 8 ∧ s.slm.stations.length = 16

end Sys2Proof.Machine
end

