-- ==== Sys2Proof/Certificates/Slice0/Obligations.lean ====
section
/-! DEFINITION. The statements for the provers, chapter by chapter of spec/. `onlyReplies`, `taken`, `room`, `atRest` and the
invariants are those of Safety.lean. -/

open Sys2Proof Sys2Proof.Machine

/-- A step of a state whose queue starts with a command c is exec of c on that state with the rest of the queue. (The queue
is the model's: log 3.) A step with no command waiting: with nothing due the line clock advances by 1 and nothing else
changes; with one event due it is that event; with several due it is one of them, which one being a free value. This is the
model's choice (log 2). (INDEX.md, 95_what_each_step_holds.md, R1, R194, R195) -/
def Obligations.StepRunsFrontOrTicks : Prop :=
  (∀ (c : Instr) (rest : List Instr) (s : State), s.pending = c :: rest → step s = exec c { s with pending := rest })
  ∧ (∀ s : State, s.pending = [] →
    (s.due = [] → step s = .next { s with clock := s.clock + 1 })
    ∧ (∀ c, s.due = [c] → step s = exec c s)
    ∧ (2 ≤ s.due.length → ∃ c ∈ s.due, step s = exec c s.useFree))

/-- For every command and every state exec answers a next state: no command faults and none is refused by the model. The
queue of waiting commands is as it was, free values are only ever used up, and the line clock does not fall unless the
command is POWER_ON_RESET. (That a timed event makes the clock reach its time is the model's choice, log 2.) (R1, R193, R201)
-/
def Obligations.EveryCommandCompletes : Prop :=
  ∀ (c : Instr) (s : State), ∃ t : State, exec c s = .next t ∧ t.pending = s.pending ∧ s.freeCtr ≤ t.freeCtr
    ∧ ((∀ a b g d, c ≠ .powerOnReset a b g d) → s.clock ≤ t.clock)

/-- While the part is UNCONFIGURED, a request of any of the nineteen kinds that the table of R196 does not list, with any
payload, gets the status UNCONFIGURED (0x0B) alone; nothing changes but the link's own state. For each of the 39 request
kinds whose payload has one length, a request with a payload of any other length gets the status LENGTH (0x08) alone, in
every state of a configured part with a place in the receive buffer; nothing changes but the link's own state. (LOAD STEPS,
whose length varies, is in StepsAppend.) That SET SCAN has 7 bytes, its loss threshold in one of them, and READ MARKS and
READ SEGMENTS 2 each, the first position in one of them, is the model's reading (log 5). (R193, R196, R204, R205, R164, R206)
-/
def Obligations.RefusedByLinkOrLength : Prop :=
  (∀ (c : Instr) (kind : Byte) (tag : BitVec 16) (payload : List Byte) (s : State),
    c.wellFormed = true → requestOf c = some (kind, tag, payload) → kind.toNat ∈ refusedKinds →
    s.line = none → s.room →
    exec c s = .next (s.onlyReplies kind tag [0x0B#8]))
  ∧ (∀ (c : Instr) (kind : Byte) (tag : BitVec 16) (payload : List Byte) (n : Nat) (s : State),
    c.wellFormed = true → requestOf c = some (kind, tag, payload) → payloadLength kind.toNat = some n →
    payload.length ≠ n → s.taken →
    exec c s = .next (s.onlyReplies kind tag [0x08#8]))

/-- A taken request joins the buffer at its tail with its reply; its frame (kind + 0x80, its tag) begins at once when the
transmitter is idle, nothing waits before it and no notice is wanted. REPLY_END frees the front place, then begins the notice
if one is wanted, else the next reply, else goes idle. NOTICE_BEGIN with no frame being sent, and NOTICE_END with no reply
waiting, begin a wanted notice; NOTICE_END with a reply waiting begins that reply (log 12). A notice carries the pending set
as it stands (kind 0xF0, tag 0) and clears notice wanted. Each of the three events, when no such frame is being sent, changes
nothing. (That they change nothing then is log 14.) (R187, R192, R194, R204) -/
def Obligations.RepliesInOrderNoticeFirst : Prop :=
  (∀ (s : State) (kind : Byte) (tag : BitVec 16) (reply : List Byte), ∃ x : Transmitter,
    s.pushReply kind tag reply = { s with hlp := { s.hlp with
      buffer := s.hlp.buffer ++ [{ kind := kind, tag := tag, reply := reply }], transmitter := x } }
    ∧ (s.hlp.transmitter ≠ .idle → x = s.hlp.transmitter)
    ∧ (s.hlp.transmitter = .idle → s.evu.noticeWanted = true → x = .idle)
    ∧ (s.hlp.transmitter = .idle → s.evu.noticeWanted = false → s.hlp.buffer = [] →
        x = .reply (hostFrame (kind + 0x80#8) tag reply)))
  ∧ ∀ s : State,
    let notice := { s with
      hlp := { s.hlp with transmitter := .notice (hostFrame 0xF0#8 0#16 (beBytes 2 s.evu.pendingSet.toNat)) }
      evu := { s.evu with noticeWanted := false } }
    (∀ f a rest, s.hlp.transmitter = .reply f → s.hlp.buffer = a :: rest →
      exec .replyEnd s = .next
        (if s.evu.noticeWanted then { notice with hlp := { notice.hlp with buffer := rest } }
          else { s with hlp := { s.hlp with
            buffer := rest
            transmitter := match rest with
              | [] => .idle
              | b :: _ => .reply (hostFrame (b.kind + 0x80#8) b.tag b.reply) } }))
    ∧ ((∀ f, s.hlp.transmitter ≠ .reply f) → exec .replyEnd s = .next s)
    ∧ (s.hlp.transmitter = .idle → s.evu.noticeWanted = true → exec .noticeBegin s = .next notice)
    ∧ (s.hlp.transmitter ≠ .idle ∨ s.evu.noticeWanted = false → exec .noticeBegin s = .next s)
    ∧ (∀ f, s.hlp.transmitter = .notice f →
      (∀ b rest, s.hlp.buffer = b :: rest →
        exec .noticeEnd s = .next { s with hlp := { s.hlp with
          transmitter := .reply (hostFrame (b.kind + 0x80#8) b.tag b.reply) } })
      ∧ (s.hlp.buffer = [] → s.evu.noticeWanted = true → exec .noticeEnd s = .next notice)
      ∧ (s.hlp.buffer = [] → s.evu.noticeWanted = false →
        exec .noticeEnd s = .next { s with hlp := { s.hlp with transmitter := .idle } }))
    ∧ ((∀ f, s.hlp.transmitter ≠ .notice f) → exec .noticeEnd s = .next s)

/-- UNKNOWN_KIND_REQUEST gets the status UNKNOWN alone. STRAY_FRAME restarts the silence timer and advances the stray-frame
counter. FRAME_CRC_ERROR, FRAME_LENGTH_ERROR, INTER_BYTE_GAP and MISSING_STOP_BIT in a frame advance the CRC-error counter
and touch nothing else. Each counter stops at 65,535. MISSING_STOP_BIT with no frame in progress changes nothing. Whatever
its kind and payload, a request that arrives while the receive buffer holds 4 requests leaves no reply and no effect: the
link-overrun counter advances by 1, stopping at 65,535, and the silence timer restarts as for every valid frame. LINK_OVERRUN
is the same event; with a place free it does not arise (log 25). (R190, R191, R193, R195, R207) -/
def Obligations.LinkEventsCounted : Prop :=
  ((∀ (kind : Byte) (tag : BitVec 16) (payload : List Byte) (s : State), s.room →
    exec (.unknownKindRequest kind tag payload) s = .next (s.onlyReplies kind tag [0x07#8]))
  ∧ ∀ s : State,
    let crc := { s with hlp := { s.hlp with
      crcErrors := if s.hlp.crcErrors < 65535 then s.hlp.crcErrors + 1 else s.hlp.crcErrors } }
    exec .strayFrame s = .next { s with hlp := { s.hlp with
        silenceTimer := if s.hlp.silenceTimeout = 0 then none else some (s.clock + s.hlp.silenceTimeout)
        strays := if s.hlp.strays < 65535 then s.hlp.strays + 1 else s.hlp.strays } }
    ∧ exec .frameCrcError s = .next crc ∧ exec .frameLengthError s = .next crc ∧ exec .interByteGap s = .next crc
    ∧ exec (.missingStopBit true) s = .next crc ∧ exec (.missingStopBit false) s = .next s)
  ∧ ((∀ (c : Instr) (kind : Byte) (tag : BitVec 16) (payload : List Byte) (s : State),
    requestOf c = some (kind, tag, payload) → 4 ≤ s.hlp.buffer.length →
    exec c s = .next { s with hlp := { s.hlp with
      silenceTimer := if s.hlp.silenceTimeout = 0 then none else some (s.clock + s.hlp.silenceTimeout)
      overruns := if s.hlp.overruns < 65535 then s.hlp.overruns + 1 else s.hlp.overruns } })
  ∧ ∀ s : State,
    (4 ≤ s.hlp.buffer.length →
      exec .linkOverrun s = .next { s with hlp := { s.hlp with
        silenceTimer := if s.hlp.silenceTimeout = 0 then none else some (s.clock + s.hlp.silenceTimeout)
        overruns := if s.hlp.overruns < 65535 then s.hlp.overruns + 1 else s.hlp.overruns } })
    ∧ (s.room → exec .linkOverrun s = .next s))

/-- At an expiry the timer restarts from that time. If SEQ is IDLE nothing else changes. Otherwise SILENT enters the hold
reason set, LINK_SILENT is raised, and SEQ takes its hold point: ARMED and a WAIT enter HOLDING at once with their return
point, raising SEQ_HOLD; a feed, a stroke, HOLDING and FAULT stand. With the timer STOPPED nothing happens. (That the clock
stands at the expiry is log 2.) (R43, R44, R195) -/
def Obligations.SilenceHoldsLine : Prop :=
  ∀ s : State,
    (s.hlp.silenceTimer = none → exec .silenceTimeout s = .next s)
    ∧ ∀ e, s.hlp.silenceTimer = some e →
      let now := max s.clock e
      let t := { s with
        clock := now
        hlp := { s.hlp with
          silenceTimer := if s.hlp.silenceTimeout = 0 then none else some (now + s.hlp.silenceTimeout) } }
      (s.seq.mode = .idle → exec .silenceTimeout s = .next t)
      ∧ (s.seq.mode ≠ .idle →
        exec .silenceTimeout s = .next { t with
          seq := { s.seq with silentHold := true, mode := s.seq.mode.whenHeld }
          evu := (s.evu.raise .linkSilent).whenHeld s.seq.mode })

/-- CONFIGURE LINK is refused LENGTH unless the payload is exactly the 4 bytes of the timeout, and RANGE for a value from 1
to 99 or above 10,000. Otherwise the timeout is stored and the reply is OK: 0 makes the timer STOPPED, another value makes it
RUNNING with expiry now + the timeout. Nothing else changes, the hold reason set included, and it is taken in every state,
UNCONFIGURED too. (R199) -/
def Obligations.ConfigureLinkSetsTimeout : Prop :=
  ∀ (tag : BitVec 16) (payload : List Byte) (s : State), s.room →
    (payload.length ≠ 4 → exec (.configureLink tag payload) s = .next (s.onlyReplies 0x06#8 tag [0x08#8]))
    ∧ (payload.length = 4 →
      let n := fieldAt payload 0 4
      (n ≠ 0 ∧ (n < 100 ∨ 10000 < n) →
        exec (.configureLink tag payload) s = .next (s.onlyReplies 0x06#8 tag [0x03#8]))
      ∧ (n = 0 →
        exec (.configureLink tag payload) s = .next
          (({ s with hlp := { s.hlp with silenceTimeout := 0, silenceTimer := none } } : State).pushReply 0x06#8 tag [0x00#8]))
      ∧ (100 ≤ n ∧ n ≤ 10000 →
        exec (.configureLink tag payload) s = .next
          (({ s with hlp := { s.hlp with silenceTimeout := n, silenceTimer := some (s.clock + n) } } : State).pushReply
            0x06#8 tag [0x00#8])))

/-- POWER_ON_RESET leaves the whole part at the power-on values of its rules, every field of every block as written out here:
the link rate is the strap table's, and the GUARD and DEFECT inputs are as they stand. The number of free values used and the
commands that wait are the model's own and stay (log 26). So panels balance, the feed residue is in range, jobs and patterns
agree, the reference is free with no zone CALIBRATING, no unwind is ACTIVE, the station records and the report ring are
sound, and the tables have their sizes. (Zone settings R102 and R121, roll settings and accumulator R144, trigger settings
R46, stations R166, events R184 to R187.) (R2, R8, R23, R42, R67, R83, R103, R138, R160, R177, R189, R201) -/
def Obligations.PowerOnState : Prop :=
  (∀ (a b g d : Bool) (s : State), exec (.powerOnReset a b g d) s = .next
    { clock := 0, line := none
      pst := { profiles := List.replicate 16 none
               patterns := List.replicate 32
                 { state := .empty, profileId := none, steps := [], stepCount := 0, failure := none } }
      seq := { jobs := [], mode := .idle, openPanel := none, lastStrokeStart := none, feedTotal := 0, wasteTotal := 0
               hostHold := false, silentHold := false, rollHold := false
               triggers := { source := .command, pacePeriod := 10000, markEdge := .rising, foldEdge := .rising
                             strokePeriod := 200 }
               paceTimer := none, ignoredTriggers := 0, markPending := false, guardIsOpen := g, feedPort := none
               bladePort := none, foldEdges := 0, step := none, chunk := none, wasteTarget := none
               ending := { abort := false, stop := false, webEnd := false } }
      fca := { residue := 500000000000, tension := 0, lastG := none, lastClamped := false, wasteResidue := 0
               panelLp := none }
      wtr := { marks := [], headFabric := none, defectActive := d, closePending := false, markLost := 0 }
      str := { belt := 0, pendingIdx := [], moving := false, segments := [], lastEnd := none, cutter := .idle
               panelsBegun := 0, reports := 0, lastAccrual := none }
      zsv := { zones := List.replicate 8
                 { state := .off, setpoint := none, limit := none, lowering := false, corrected := none, lastRaw := none
                   offset := 0, calibrated := false, calLimit := false, ret := none, settle := .stopped
                   purgeDeadline := none, purgePending := false, purgeCount := 0, faultCause := none, forceTime := none
                   purgeEnd := none, calibrationDue := none, occupied := false }
               profile := none, settleTime := 10000, purgeInterval := 300, purgeDuration := 10, purgeGrace := 120
               recalInterval := 0, calQueue := [], reference := none }
      slm := { mode := .stopped, toPoll := [], enabled := [], pollFrame := [], lastStation := 12, lossThreshold := 3
               window := 200, scanNumber := 0, requests := [], overflow := false
               stations := List.replicate 16
                 { state := .lost, misses := 3, recovery := 0, missCounter := 0, crcErrors := 0, lastRenewal := none
                   unchanged := 0, stale := false, lastCode := 0, lastReading := none } }
      rcu :=
        let unwind : Unwind :=
          { state := .empty, profileId := none, rollTag := none, declared := none, remaining := none, runState := none
            lowRaised := false, autoStarted := false }
        { unwindA := unwind, unwindB := unwind
          acc := { stock := 0, tension := none, station := .lost, starved := true }
          settings :=
            { capacity := 12000, lowLimit := 1500, resumeLevel := 3000, spliceLevel := 9000, threshold := 100
              auto := false, fillingS := 30, stoppingS := 8, splicingS := 6, cuttingS := 2, restartingS := 10
              spliceLength := 100 }
          change := none, outcome := .none, outcomePhase := none, outcomeCause := none
          brakeSpent := false }
      evu := { slots := List.replicate 8 none, writePos := 0, filled := 0, nextSeq := 0, overrun := 0
               pendingSet := 0#16, enables := 0#16, noticeWanted := false }
      hlp := { linkRate := if a then (if b then 1843200 else 921600) else (if b then 460800 else 230400)
               buffer := [], crcErrors := 0, overruns := 0, strays := 0, silenceTimeout := 0, silenceTimer := none
               transmitter := .idle }
      freeCtr := s.freeCtr, pending := s.pending })
  ∧ ∀ (a b g d : Bool),
    let s := State.powerOn a b g d
    s.panelsBalance ∧ s.residueBounded ∧ s.jobsSound ∧ s.referenceSound ∧ s.oneActive ∧ s.stationsSound ∧ s.ringSound ∧ s.sized

/-- LINE RESET answers OK. SEQ is IDLE with no jobs, panel, holds, motion or totals, its trigger settings and the GUARD input
kept; FCA stands at its reset values (that the waste residue is among them is log 28); the mark list, the segment queue, B
and both panel counters are cleared, the DEFECT input kept (log 24); the calibration queue and the reference are free. An OFF
or FAULT zone keeps all but its occupancy. A heating zone stands by at the standby setpoint, its limit as R107 gives (that
the limit and its lowering stand where the setpoint was that already is log 23), its calibration kept, or is PURGING with
return state STANDBY where a purge was pending or in progress and the zone is configured. A change in FILLING or STOPPING is
REVERTED with cause RESET and CHANGE_ABORT raised, another change runs on; an ACTIVE unwind is SPENT, and a scan cycle in
progress is marked to brake it (log 29). The configuration, profiles, patterns, zone and roll settings, zone profile,
accumulator, last accrual, station link, reports and link state are as they were. (R23, R42, R67, R83, R85, R107, R120, R136,
R158, R176, R202) -/
def Obligations.LineResetClears : Prop :=
  ∀ (tag : BitVec 16) (s : State), s.taken → ∃ t : State,
    exec (.lineReset tag []) s = .next (t.pushReply 0x07#8 tag [0x00#8])
    ∧ t = { s with
        seq := { Seq.powerOn s.seq.guardIsOpen with triggers := s.seq.triggers }
        fca := { residue := 500000000000, tension := 0, lastG := none, lastClamped := false, wasteResidue := 0
                 panelLp := none }
        wtr := { marks := [], headFabric := none, defectActive := s.wtr.defectActive, closePending := false, markLost := 0 }
        str := { belt := 0, pendingIdx := [], moving := false, segments := [], lastEnd := none, cutter := .idle
                 panelsBegun := 0, reports := 0, lastAccrual := s.str.lastAccrual }
        zsv := { s.zsv with zones := t.zsv.zones, calQueue := [], reference := none }
        rcu := { s.rcu with
          unwindA := t.rcu.unwindA, unwindB := t.rcu.unwindB, change := t.rcu.change, outcome := t.rcu.outcome
          outcomePhase := t.rcu.outcomePhase, outcomeCause := t.rcu.outcomeCause
          brakeSpent := s.rcu.brakeSpent
            || ((s.rcu.unwindA.state == .active || s.rcu.unwindB.state == .active) && !s.slm.toPoll.isEmpty) }
        evu := t.evu, hlp := s.restartSilence.hlp }
    ∧ (∀ i,
        let z := s.zone i
        let new := t.zone i
        let pends : Prop := z.purgePending = true ∨ z.state = .purging
        let stood : Zone := { z with
          state := .standby, setpoint := new.setpoint, limit := new.limit, lowering := new.lowering, ret := none
          settle := .stopped, purgeEnd := none, occupied := false }
        (z.state = .off ∨ z.state = .fault → new = { z with occupied := false })
        ∧ (z.state ≠ .off → z.state ≠ .fault →
          (¬pends → new = stood)
          ∧ (pends → 1 ≤ i → i ≤ s.zoneCount → new = { stood with
              state := .purging, ret := some .standby, purgePending := false, forceTime := none
              purgeEnd := some (s.clock + s.zsv.purgeDuration * 1000)
              purgeCount := if z.purgeCount < 65535 then z.purgeCount + 1 else z.purgeCount })
          ∧ (pends → ¬(1 ≤ i ∧ i ≤ s.zoneCount) → new = { stood with
              purgePending := true
              forceTime := if z.state = .purging then some (s.clock + s.zsv.purgeGrace * 1000) else z.forceTime })
          ∧ (s.zoneProfile = none → new.setpoint = z.setpoint ∧ new.limit = z.limit ∧ new.lowering = z.lowering)
          ∧ (∀ p, s.zoneProfile = some p →
              Zone.takes p ((p.setTemp : Int) - p.standbyDrop) z new)))
    ∧ (∀ c, s.rcu.change = some c →
        (c.phase = .filling ∨ c.phase = .stopping →
          t.rcu.change = none ∧ t.rcu.outcome = .reverted ∧ t.rcu.outcomePhase = some c.phase
            ∧ t.rcu.outcomeCause = some .reset ∧ t.evu = s.evu.raise .changeAbort)
        ∧ (c.phase ≠ .filling → c.phase ≠ .stopping → t.rcu.change = some c ∧ t.rcu.outcome = s.rcu.outcome
            ∧ t.rcu.outcomePhase = s.rcu.outcomePhase ∧ t.rcu.outcomeCause = s.rcu.outcomeCause ∧ t.evu = s.evu))
    ∧ (s.rcu.change = none → t.rcu.change = none ∧ t.rcu.outcome = s.rcu.outcome
        ∧ t.rcu.outcomePhase = s.rcu.outcomePhase ∧ t.rcu.outcomeCause = s.rcu.outcomeCause ∧ t.evu = s.evu)
    ∧ (∀ u, t.rcu.unwind u =
        if (s.rcu.unwind u).state = .active then { s.rcu.unwind u with state := .spent, remaining := none }
        else s.rcu.unwind u)

/-- CONFIGURE LINE with 33 bytes is refused RANGE when a parameter is out of range; STATE when the part is CONFIGURED and SEQ
is not IDLE, an unwind is ACTIVE, a configured zone is not OFF or the scan is not STOPPED; RANGE with the job id of the first
queued job that fails a length check under the new L_t and D_cut. Otherwise the nine values are stored, the part is
CONFIGURED, the reply is OK, each of the zones 1..Z has the occupancy the new geometry gives, and SEQ, FCA, STR, SLM, RCU,
EVU and the stored patterns are as they were, and so are the marks where none is open (log 16). (R66, R95, R159, R197) -/
def Obligations.LineConfigured : Prop :=
  ∀ (tag : BitVec 16) (payload : List Byte) (s : State), s.room → payload.length = 33 →
    let c := LineConfig.ofBytes payload
    let ok : Prop := 100000 ≤ c.resolution ∧ c.resolution ≤ 500000 ∧ 1000000 ≤ c.tunnel ∧ c.tunnel ≤ 12000000
      ∧ 2 ≤ c.zones ∧ c.zones ≤ 8 ∧ c.entry ≤ 10000000 ∧ c.entry + c.tunnel ≤ c.cut ∧ c.cut ≤ 40000000
      ∧ c.clearance ≤ 500 ∧ c.headOffset ≤ 3000 ∧ c.inspectOffset ≤ 10000 ∧ c.tableOffset ≤ 20000
    let busy : Prop := s.line ≠ none ∧ (s.seq.mode ≠ .idle ∨ s.rcu.unwindA.state = .active ∨ s.rcu.unwindB.state = .active
      ∨ (∃ i ∈ s.zoneNumbers, (s.zone i).state ≠ .off) ∨ s.slm.mode ≠ .stopped)
    let fails (j : Job) : Prop :=
      let lp := finishedLength (s.pst.pattern j.patternId).steps j.grade
      c.tunnel < 2 * lp ∨ 60 * lp < c.cut
    (¬ok → exec (.configureLine tag payload) s = .next (s.onlyReplies 0x03#8 tag [0x03#8]))
    ∧ (ok → busy → exec (.configureLine tag payload) s = .next (s.onlyReplies 0x03#8 tag [0x02#8]))
    ∧ (∀ before j after, ok → ¬busy → s.seq.jobs = before ++ j :: after → (∀ k ∈ before, ¬fails k) → fails j →
        exec (.configureLine tag payload) s = .next (s.onlyReplies 0x03#8 tag (0x03#8 :: beBytes 2 j.jobId)))
    ∧ (ok → ¬busy → (∀ j ∈ s.seq.jobs, ¬fails j) → s.sized → ∃ t : State,
        exec (.configureLine tag payload) s = .next (t.pushReply 0x03#8 tag [0x00#8])
        ∧ t.line = some c ∧ t.clock = s.clock ∧ t.seq = s.seq ∧ t.fca = s.fca ∧ t.str = s.str ∧ t.slm = s.slm
        ∧ t.rcu = s.rcu ∧ t.evu = s.evu ∧ t.pst = s.pst ∧ t.hlp = s.restartSilence.hlp
        ∧ ((∀ m ∈ s.wtr.marks, m.isOpen = false) → t.wtr = s.wtr)
        ∧ ∀ i, 1 ≤ i → i ≤ c.zones → (t.zone i).occupied = t.zoneOccupied i)

/-- CONFIGURE ZONES is refused LENGTH unless it holds exactly its five parameters (20 bytes) and RANGE if any lies outside
its range; otherwise all five are stored and the reply is OK. CONFIGURE ROLLS is refused LENGTH unless it holds exactly its
twelve parameters (45 bytes), RANGE if an item is out of the range R144 gives, or if low limit < resume level ≤ splice level
≤ capacity does not hold; otherwise every item is stored and the reply is OK. Both are taken in every state, and nothing else
changes: timers, deadlines and force times already set keep their values. (That the automatic change, on or off, is the
yes/no byte 1 or 0 is log 5; that a calibration due time stands when the recalibration interval becomes 0 is log 34.) (R121,
R144, R198, R203) -/
def Obligations.SettingsStored : Prop :=
  (∀ (tag : BitVec 16) (payload : List Byte) (s : State), s.room →
    (payload.length ≠ 20 → exec (.configureZones tag payload) s = .next (s.onlyReplies 0x04#8 tag [0x08#8]))
    ∧ (payload.length = 20 →
      let settle := fieldAt payload 0 4
      let interval := fieldAt payload 4 4
      let duration := fieldAt payload 8 4
      let grace := fieldAt payload 12 4
      let recal := fieldAt payload 16 4
      let ok : Prop := 1000 ≤ settle ∧ settle ≤ 60000 ∧ 60 ≤ interval ∧ interval ≤ 900 ∧ 2 ≤ duration ∧ duration ≤ 30
        ∧ 10 ≤ grace ∧ grace ≤ 600 ∧ (recal = 0 ∨ 600 ≤ recal ∧ recal ≤ 86400)
      (¬ok → exec (.configureZones tag payload) s = .next (s.onlyReplies 0x04#8 tag [0x03#8]))
      ∧ (ok → exec (.configureZones tag payload) s = .next
          (({ s.restartSilence with zsv := { s.zsv with
              settleTime := settle, purgeInterval := interval, purgeDuration := duration, purgeGrace := grace
              recalInterval := recal } } : State).pushReply 0x04#8 tag [0x00#8]))))
  ∧ ∀ (tag : BitVec 16) (payload : List Byte) (s : State), s.room →
    (payload.length ≠ 45 → exec (.configureRolls tag payload) s = .next (s.onlyReplies 0x05#8 tag [0x08#8]))
    ∧ (payload.length = 45 →
      let auto := fieldAt payload 20 1
      let r : RollSettings :=
        { capacity := fieldAt payload 0 4, lowLimit := fieldAt payload 4 4, resumeLevel := fieldAt payload 8 4
          spliceLevel := fieldAt payload 12 4, threshold := fieldAt payload 16 4, auto := decide (auto = 1)
          fillingS := fieldAt payload 21 4, stoppingS := fieldAt payload 25 4, splicingS := fieldAt payload 29 4
          cuttingS := fieldAt payload 33 4, restartingS := fieldAt payload 37 4, spliceLength := fieldAt payload 41 4 }
      let ok : Prop := auto ≤ 1 ∧ 1000 ≤ r.capacity ∧ r.capacity ≤ 30000 ∧ r.lowLimit ≤ 30000 ∧ 1 ≤ r.resumeLevel
        ∧ r.resumeLevel ≤ 30000 ∧ 1 ≤ r.spliceLevel ∧ r.spliceLevel ≤ 30000 ∧ 1 ≤ r.threshold ∧ r.threshold ≤ 2000
        ∧ 1 ≤ r.fillingS ∧ r.fillingS ≤ 60 ∧ 1 ≤ r.stoppingS ∧ r.stoppingS ≤ 60 ∧ 1 ≤ r.splicingS ∧ r.splicingS ≤ 60
        ∧ 1 ≤ r.cuttingS ∧ r.cuttingS ≤ 60 ∧ 1 ≤ r.restartingS ∧ r.restartingS ≤ 60 ∧ 20 ≤ r.spliceLength
        ∧ r.spliceLength ≤ 200 ∧ r.lowLimit < r.resumeLevel ∧ r.resumeLevel ≤ r.spliceLevel ∧ r.spliceLevel ≤ r.capacity
      (¬ok → exec (.configureRolls tag payload) s = .next (s.onlyReplies 0x05#8 tag [0x03#8]))
      ∧ (ok → exec (.configureRolls tag payload) s = .next
          (({ s.restartSilence with rcu := { s.rcu with settings := r } } : State).pushReply 0x05#8 tag [0x00#8])))

/-- The frame of a well-formed request of a known or unknown kind, with any tag and up to 1,024 bytes of payload, is received
as that request. Byte by byte, whatever follows: a frame whose kind is 0x80 or above is a stray; bytes other than 0x5A are
passed over while hunting, and so is a byte without its stop bit; a frame with a wrong CRC or a length above 1,024 is
discarded and counted; a frame cut by a gap or a missing stop bit ends as incomplete; after each the receiver hunts on with
the byte that follows, the byte that ended a gap included. (The receiver stands in Decode.lean and is no part of State: log
18.) (R190, R191, R203, R204, R207) -/
def Obligations.FramesRoundTrip : Prop :=
  (∀ (c : Instr) (f : List Byte), c.wellFormed = true → frameOf c = some f → commandsOf f = [c])
  ∧ ∀ rest : List Arrival,
    let plain (bs : List Byte) : List Arrival := bs.map Arrival.plain
    let on := Receiver.hunting.receive rest
    let adds (i : Instr) (bytes : List Arrival) : Prop := Receiver.hunting.receive (bytes ++ rest) = (on.1, i :: on.2)
    (∀ (kind : Byte) (tag : BitVec 16) (payload : List Byte), payload.length ≤ 1024 →
      adds (commandOf kind tag payload) (plain (hostFrame kind tag payload)))
    ∧ (∀ (kind : Byte) (tag : BitVec 16) (payload : List Byte), 0x80 ≤ kind.toNat →
      commandOf kind tag payload = .strayFrame)
    ∧ (∀ noise : List Arrival, (∀ a ∈ noise, a.byte ≠ 0x5A#8 ∧ a.noStop = false) →
      Receiver.hunting.receive (noise ++ rest) = on)
    ∧ (∀ a : Arrival, a.noStop = true → adds (.missingStopBit false) [a])
    ∧ (∀ (body : List Byte) (x y : Byte), fieldAt body 0 2 ≤ 1024 → body.length = fieldAt body 0 2 + 5 →
      [x, y] ≠ crcBytes body → adds .frameCrcError (plain ([0x5A#8] ++ body ++ [x, y])))
    ∧ (∀ x y : Byte, 1024 < x.toNat * 256 + y.toNat → adds .frameLengthError (plain [0x5A#8, x, y]))
    ∧ ∀ (kind : Byte) (tag : BitVec 16) (payload : List Byte) (n : Nat) (a : Arrival), payload.length ≤ 1024 → 1 ≤ n →
      n < (hostFrame kind tag payload).length →
      let part := plain ((hostFrame kind tag payload).take n)
      (a.late = true → Receiver.hunting.receive (part ++ a :: rest)
        = ((Receiver.hunting.receive (a :: rest)).1, .interByteGap :: (Receiver.hunting.receive (a :: rest)).2))
      ∧ (a.late = false → a.noStop = true → adds (.missingStopBit true) (part ++ [a]))

/-- LOAD PROFILE is refused LENGTH unless it holds a profile id and a 22-byte record, RANGE for an id outside 1..16, RANGE
for a field out of its range or maximum dwell below minimum dwell, IN_USE while some reference cause of R4 holds; otherwise
the entry is LOADED with the eight fields, no other entry changes, no pattern changes, and the reply is OK. READ PROFILE is
refused LENGTH unless its payload is exactly a profile id and RANGE for an id outside 1..16. Otherwise the reply is OK with
LOADED and the record's bytes, or EMPTY with every field absent, followed by the reference set of R4, which is empty for an
EMPTY entry. Reading changes nothing. (R2, R3, R4, R5, R7, R203, R206) -/
def Obligations.ProfileLoadsAndReads : Prop :=
  (∀ (tag : BitVec 16) (payload : List Byte) (s : State), s.room → s.pst.profiles.length = 16 →
    let id := fieldAt payload 0 1
    let q : Profile :=
      { setTemp := fieldAt payload 1 2, bandHalf := fieldAt payload 3 2, standbyDrop := fieldAt payload 5 2
        shrink := fieldAt payload 7 4, refTension := fieldAt payload 11 2, elasticity := fieldAt payload 13 1
        minDwell := fieldAt payload 15 4, maxDwell := fieldAt payload 19 4 }
    let ok : Prop := 9000 ≤ q.setTemp ∧ q.setTemp ≤ 18000 ∧ 50 ≤ q.bandHalf ∧ q.bandHalf ≤ 1000 ∧ 500 ≤ q.standbyDrop
      ∧ q.standbyDrop ≤ 5000 ∧ q.shrink ≤ 150000 ∧ q.refTension ≤ 10000 ∧ q.elasticity ≤ 200 ∧ 1000 ≤ q.minDwell
      ∧ q.minDwell ≤ 600000 ∧ q.minDwell ≤ q.maxDwell ∧ q.maxDwell ≤ 1800000
    let used : Prop := (s.pst.profile id).isSome ∧
      ((∃ j ∈ s.seq.jobs, (s.pst.pattern j.patternId).profileId = some id)
        ∨ (s.zsv.profile = some id ∧ ∃ i ∈ s.zoneNumbers, (s.zone i).state ≠ .off)
        ∨ (∃ u, ((s.rcu.unwind u).state = .ready ∨ (s.rcu.unwind u).state = .active)
            ∧ (s.rcu.unwind u).profileId = some id)
        ∨ (∃ m ∈ s.wtr.marks, m.kind = .splice id) ∨ s.wtr.headFabric = some id
        ∨ ∃ g ∈ s.str.segments, g.profileId = id)
    (payload.length ≠ 23 → exec (.loadProfile tag payload) s = .next (s.onlyReplies 0x10#8 tag [0x08#8]))
    ∧ (payload.length = 23 →
      (¬(1 ≤ id ∧ id ≤ 16) ∨ ¬ok → exec (.loadProfile tag payload) s = .next (s.onlyReplies 0x10#8 tag [0x03#8]))
      ∧ (1 ≤ id → id ≤ 16 → ok → used →
          exec (.loadProfile tag payload) s = .next (s.onlyReplies 0x10#8 tag [0x04#8]))
      ∧ (1 ≤ id → id ≤ 16 → ok → ¬used → ∃ p : Pst,
          exec (.loadProfile tag payload) s
            = .next (({ s.restartSilence with pst := p } : State).pushReply 0x10#8 tag [0x00#8])
          ∧ p.patterns = s.pst.patterns ∧ p.profile id = some q ∧ ∀ n, n ≠ id → p.profile n = s.pst.profile n)))
  ∧ (∀ (tag : BitVec 16) (payload : List Byte) (s : State), s.room →
    let id := fieldAt payload 0 1
    (payload.length ≠ 1 → exec (.readProfile tag payload) s = .next (s.onlyReplies 0x11#8 tag [0x08#8]))
    ∧ (payload.length = 1 →
      (¬(1 ≤ id ∧ id ≤ 16) → exec (.readProfile tag payload) s = .next (s.onlyReplies 0x11#8 tag [0x03#8]))
      ∧ (1 ≤ id → id ≤ 16 →
        (∀ q, s.pst.profile id = some q →
          exec (.readProfile tag payload) s = .next (s.onlyReplies 0x11#8 tag
            ([0x00#8, 2#8] ++ beBytes 2 q.setTemp ++ beBytes 2 q.bandHalf ++ beBytes 2 q.standbyDrop ++ beBytes 4 q.shrink
              ++ beBytes 2 q.refTension ++ beBytes 1 q.elasticity ++ [0#8] ++ beBytes 4 q.minDwell
              ++ beBytes 4 q.maxDwell ++ [(s.references id).toByte])))
        ∧ (s.pst.profile id = none →
          exec (.readProfile tag payload) s = .next (s.onlyReplies 0x11#8 tag
            ([0x00#8, 1#8] ++ List.replicate 13 0xFF#8 ++ [0#8] ++ List.replicate 8 0xFF#8 ++ [0#8]))))))

/-- OPEN PATTERN is refused LENGTH unless it holds exactly a pattern id and a profile id, RANGE for a pattern id outside
1..32 or a profile id outside 1..16, IN_USE while the pattern is locked; a refused one changes nothing. Otherwise the pattern
is LOADING whatever its state before, with the given profile id, load index and step count 0, no records and no failure, no
other pattern changes, and the reply is OK. The profile need not be LOADED. DELETE PATTERN is refused LENGTH unless its
payload is exactly a pattern id, RANGE for an id outside 1..32, IN_USE while the pattern is locked. Otherwise the pattern is
EMPTY: profile id, failure index and reason absent, load index and step count 0, no records; no other pattern changes, and
the reply is OK, for an EMPTY pattern too. (R12, R21) -/
def Obligations.PatternOpensOrEmpties : Prop :=
  (∀ (tag : BitVec 16) (payload : List Byte) (s : State), s.room → s.pst.patterns.length = 32 →
    let id := fieldAt payload 0 1
    let prof := fieldAt payload 1 1
    (payload.length ≠ 2 → exec (.openPattern tag payload) s = .next (s.onlyReplies 0x12#8 tag [0x08#8]))
    ∧ (payload.length = 2 →
      (¬(1 ≤ id ∧ id ≤ 32) ∨ ¬(1 ≤ prof ∧ prof ≤ 16) →
        exec (.openPattern tag payload) s = .next (s.onlyReplies 0x12#8 tag [0x03#8]))
      ∧ (1 ≤ id → id ≤ 32 → 1 ≤ prof → prof ≤ 16 →
        ((∃ j ∈ s.seq.jobs, j.patternId = id) →
          exec (.openPattern tag payload) s = .next (s.onlyReplies 0x12#8 tag [0x04#8]))
        ∧ ((∀ j ∈ s.seq.jobs, j.patternId ≠ id) → ∃ p : Pst,
          exec (.openPattern tag payload) s
            = .next (({ s.restartSilence with pst := p } : State).pushReply 0x12#8 tag [0x00#8])
          ∧ p.profiles = s.pst.profiles
          ∧ p.pattern id = { state := .loading, profileId := some prof, steps := [], stepCount := 0, failure := none }
          ∧ ∀ n, n ≠ id → p.pattern n = s.pst.pattern n))))
  ∧ ∀ (tag : BitVec 16) (payload : List Byte) (s : State), s.room → s.pst.patterns.length = 32 →
    let id := fieldAt payload 0 1
    (payload.length ≠ 1 → exec (.deletePattern tag payload) s = .next (s.onlyReplies 0x15#8 tag [0x08#8]))
    ∧ (payload.length = 1 →
      (¬(1 ≤ id ∧ id ≤ 32) → exec (.deletePattern tag payload) s = .next (s.onlyReplies 0x15#8 tag [0x03#8]))
      ∧ (1 ≤ id → id ≤ 32 →
        ((∃ j ∈ s.seq.jobs, j.patternId = id) →
          exec (.deletePattern tag payload) s = .next (s.onlyReplies 0x15#8 tag [0x04#8]))
        ∧ ((∀ j ∈ s.seq.jobs, j.patternId ≠ id) → ∃ p : Pst,
          exec (.deletePattern tag payload) s
            = .next (({ s.restartSilence with pst := p } : State).pushReply 0x15#8 tag [0x00#8])
          ∧ p.profiles = s.pst.profiles
          ∧ p.pattern id = { state := .empty, profileId := none, steps := [], stepCount := 0, failure := none }
          ∧ ∀ n, n ≠ id → p.pattern n = s.pst.pattern n)))

/-- LOAD STEPS is refused LENGTH unless a pattern id is followed by 1 to 16 whole records, RANGE for an id outside 1..32,
STATE outside LOADING, RANGE where a record's kind or confirm mode is none of its list, FULL where the load index would pass
128; a refused one stores none of its records. Otherwise the records stand in the slots from the load index upward in payload
order, the rest of the entry and every other pattern are unchanged, and the reply is OK with the new load index. Faces,
depths, targets and counts are not checked. (R13) -/
def Obligations.StepsAppend : Prop :=
  ∀ (tag : BitVec 16) (payload : List Byte) (s : State), s.room → s.pst.patterns.length = 32 →
    let id := fieldAt payload 0 1
    let e := s.pst.pattern id
    ((∀ n, 1 ≤ n → n ≤ 16 → payload.length ≠ 1 + 16 * n) →
      exec (.loadSteps tag payload) s = .next (s.onlyReplies 0x13#8 tag [0x08#8]))
    ∧ ∀ n, 1 ≤ n → n ≤ 16 → payload.length = 1 + 16 * n →
      let record (k : Nat) : List Byte := (payload.drop (1 + 16 * k)).take 16
      let known : Prop := ∀ k < n, 1 ≤ ((record k).getD 0 0#8).toNat ∧ ((record k).getD 0 0#8).toNat ≤ 6
        ∧ 1 ≤ ((record k).getD 2 0#8).toNat ∧ ((record k).getD 2 0#8).toNat ≤ 4
      (¬(1 ≤ id ∧ id ≤ 32) → exec (.loadSteps tag payload) s = .next (s.onlyReplies 0x13#8 tag [0x03#8]))
      ∧ (1 ≤ id → id ≤ 32 →
        (e.state ≠ .loading → exec (.loadSteps tag payload) s = .next (s.onlyReplies 0x13#8 tag [0x02#8]))
        ∧ (e.state = .loading → ¬known → exec (.loadSteps tag payload) s = .next (s.onlyReplies 0x13#8 tag [0x03#8]))
        ∧ (e.state = .loading → known → 128 < e.steps.length + n →
            exec (.loadSteps tag payload) s = .next (s.onlyReplies 0x13#8 tag [0x05#8]))
        ∧ (e.state = .loading → known → e.steps.length + n ≤ 128 → ∃ (p : Pst) (rs : List StepRecord),
            exec (.loadSteps tag payload) s
              = .next (({ s.restartSilence with pst := p } : State).pushReply 0x13#8 tag
                  (0x00#8 :: beBytes 1 (e.steps.length + n)))
            ∧ rs.length = n ∧ (∀ k < n, rs[k]? = StepRecord.ofBytes (record k))
            ∧ p.profiles = s.pst.profiles ∧ p.pattern id = { e with steps := e.steps ++ rs }
            ∧ ∀ m, m ≠ id → p.pattern m = s.pst.pattern m))

/-- A record's kind is byte 0, graded is bit 0 of byte 1, the confirm mode is byte 2; face (bytes 4 to 7) and depth (8 to 11)
are stored for KNIFE, BOX, INVERTED and SPACER, loop target (12) and loop count (13) for REPEAT only. A stored record whose
fields fit their widths and are absent where R10 says so is read back from the bytes READ STEPS sends for it. (R10, R203,
R206) -/
def Obligations.StepRecordStored : Prop :=
  (∀ bs : List Byte, bs.length = 16 → ∀ r, StepRecord.ofBytes bs = some r →
      r.kind.code = bs.getD 0 0#8 ∧ r.confirm.code = bs.getD 2 0#8 ∧ r.graded = (bs.getD 1 0#8).getLsbD 0
      ∧ (r.kind ≠ .loopBack → r.loopTarget = none ∧ r.loopCount = none)
      ∧ (r.kind = .loopBack → r.loopTarget = some (bs.getD 12 0#8).toNat ∧ r.loopCount = some (bs.getD 13 0#8).toNat)
      ∧ (r.kind = .loopBack ∨ r.kind = .panelEnd → r.face = none ∧ r.depth = none)
      ∧ (r.kind ≠ .loopBack → r.kind ≠ .panelEnd → r.face = some (fieldAt bs 4 4) ∧ r.depth = some (fieldAt bs 8 4)))
  ∧ ∀ r : StepRecord,
      ((r.kind = .loopBack ∨ r.kind = .panelEnd) → r.face = none ∧ r.depth = none) →
      (r.kind ≠ .loopBack → r.loopTarget = none ∧ r.loopCount = none) →
      (r.kind = .loopBack → ∃ t n, r.loopTarget = some t ∧ r.loopCount = some n ∧ t < 256 ∧ n < 256) →
      (r.kind ≠ .loopBack → r.kind ≠ .panelEnd → ∃ f d, r.face = some f ∧ r.depth = some d ∧ f < 4294967296
        ∧ d < 4294967296) →
      StepRecord.ofBytes r.toBytes = some r

/-- CLOSE PATTERN is refused RANGE for an id outside 1..32 and STATE outside LOADING. Otherwise the step count takes the load
index and the records stay. With no failure the pattern is VALID and the reply OK. With failures it is INVALID with one of
them: none has a lower index, and none at that index comes before it in the order END, RANGE, LOOP, PROFILE, LENGTH; the
reply is INVALID with that reason and index. PROFILE fails, at index 0, exactly when the named profile is EMPTY. No other
pattern changes. (R8, R14, R19, R20) -/
def Obligations.CloseJudges : Prop :=
  (∀ (tag : BitVec 16) (b : Byte) (s : State), s.room → s.pst.patterns.length = 32 →
    let id := b.toNat
    let e := s.pst.pattern id
    let fails := patternFailures s.pst e
    (¬(1 ≤ id ∧ id ≤ 32) → exec (.closePattern tag [b]) s = .next (s.onlyReplies 0x14#8 tag [0x03#8]))
    ∧ (1 ≤ id → id ≤ 32 → e.state ≠ .loading →
        exec (.closePattern tag [b]) s = .next (s.onlyReplies 0x14#8 tag [0x02#8]))
    ∧ (1 ≤ id → id ≤ 32 → e.state = .loading → ∃ (p : Pst) (reply : List Byte),
        exec (.closePattern tag [b]) s = .next (({ s.restartSilence with pst := p } : State).pushReply 0x14#8 tag reply)
        ∧ p.profiles = s.pst.profiles ∧ (∀ n, n ≠ id → p.pattern n = s.pst.pattern n)
        ∧ (fails = [] → reply = [0x00#8]
            ∧ p.pattern id = { e with state := .valid, stepCount := e.steps.length, failure := none })
        ∧ (fails ≠ [] → ∃ f ∈ fails, reply = [0x09#8, f.2.code] ++ beBytes 1 f.1
            ∧ p.pattern id = { e with state := .invalid, stepCount := e.steps.length, failure := some f }
            ∧ ∀ g ∈ fails, f.1 < g.1 ∨ (f.1 = g.1 ∧ f.2.code.toNat ≤ g.2.code.toNat))))
  ∧ ∀ (p : Pst) (e : PatternEntry) (i : Nat),
      (i, FailReason.profile) ∈ patternFailures p e ↔ i = 0 ∧ ∀ id, e.profileId = some id → p.profile id = none

/-- Over any stored records: with none, the only END failure is at index 0. Otherwise END fails at index i exactly when
record i is an END below the last record, or is the last record and no END. CLOSE PATTERN's failures with reason END are
exactly these. Over any stored records, RANGE fails at index i exactly when record i is a KNIFE without 2,000 ≤ F ≤ 80,000
and 1,000 ≤ D ≤ F, a BOX or INVERTED without 2,000 ≤ F ≤ 80,000, 1,000 ≤ D and 2 × D ≤ F, a SPACER without 2,000 ≤ F ≤ 80,000
and D = 0, or a REPEAT whose loop count is not 1..255. (An absent field counts as 0; R10 makes none of those tested absent.)
LOOP fails at index j exactly when record j is a REPEAT and its target t is not lower than j, or it lies in the body of
another REPEAT whose target is higher than t, or it lies in the bodies of two different REPEATs. A REPEAT at index k with
target u has the body u..k - 1. (An absent target counts as 0; a REPEAT's target is never absent.) LENGTH, made only where
neither END nor LOOP fails, fails at the index of the first step of the expanded sequence (R18) whose addition brings the
strokes above 2,000 or the sum of N = F + k × D above 6,000,000 µm. (R10, R15, R16, R17, R18, R19) -/
def Obligations.PatternChecksExact : Prop :=
  (∀ (p : Pst) (e : PatternEntry) (i : Nat),
    (i, FailReason.noEnd) ∈ patternFailures p e ↔
      (e.steps = [] ∧ i = 0)
      ∨ ∃ r, e.steps[i]? = some r
          ∧ ((r.kind = .panelEnd ∧ i + 1 < e.steps.length) ∨ (r.kind ≠ .panelEnd ∧ i + 1 = e.steps.length)))
  ∧ ((∀ (p : Pst) (e : PatternEntry) (i : Nat),
    (i, FailReason.range) ∈ patternFailures p e ↔
      ∃ r, e.steps[i]? = some r ∧
        let f := r.face.getD 0
        let d := r.depth.getD 0
        let n := r.loopCount.getD 0
        (r.kind = .knife ∧ ¬(2000 ≤ f ∧ f ≤ 80000 ∧ 1000 ≤ d ∧ d ≤ f))
        ∨ ((r.kind = .box ∨ r.kind = .inverted) ∧ ¬(2000 ≤ f ∧ f ≤ 80000 ∧ 1000 ≤ d ∧ 2 * d ≤ f))
        ∨ (r.kind = .spacer ∧ ¬(2000 ≤ f ∧ f ≤ 80000 ∧ d = 0))
        ∨ (r.kind = .loopBack ∧ ¬(1 ≤ n ∧ n ≤ 255)))
  ∧ ∀ (p : Pst) (e : PatternEntry) (j : Nat),
    let loops (k u : Nat) : Prop := ∃ r, e.steps[k]? = some r ∧ r.kind = .loopBack ∧ r.loopTarget.getD 0 = u
    let inside (k u : Nat) : Prop := loops k u ∧ u ≤ j ∧ j < k
    (j, FailReason.loop) ∈ patternFailures p e ↔
      ∃ target, loops j target ∧
        (j ≤ target ∨ (∃ k u, inside k u ∧ target < u) ∨ ∃ k u k' u', k ≠ k' ∧ inside k u ∧ inside k' u'))
  ∧ ∀ (p : Pst) (e : PatternEntry) (i : Nat),
    let pleats (l : List (Nat × StepRecord)) : Nat :=
      l.countP fun x => x.2.kind == .knife || x.2.kind == .box || x.2.kind == .inverted
    let takes (l : List (Nat × StepRecord)) : Nat :=
      (l.map fun x => x.2.face.getD 0 + (match x.2.kind with
        | .knife => 2
        | .box => 4
        | .inverted => 4
        | _ => 0) * x.2.depth.getD 0).sum
    let passes (l : List (Nat × StepRecord)) : Prop := 2000 < pleats l ∨ 6000000 < takes l
    (i, FailReason.length) ∈ patternFailures p e ↔
      (∀ k, (k, FailReason.noEnd) ∉ patternFailures p e ∧ (k, FailReason.loop) ∉ patternFailures p e)
      ∧ ∃ before r after, expanded e.steps = before ++ (i, r) :: after ∧ ¬passes before ∧ passes (before ++ [(i, r)])

/-- For a pattern of at most 126 forming records, a REPEAT to index 0 with loop count n (1..255) and an END, the expanded
sequence is the records taken n + 1 times over, in order, each with its own step index. (R18) -/
def Obligations.LoopRunsItsBody : Prop :=
  ∀ (body : List StepRecord) (n : Nat) (rep fin : StepRecord), body.length ≤ 126 → 1 ≤ n → n ≤ 255 →
    (∀ r ∈ body, r.kind ≠ .loopBack ∧ r.kind ≠ .panelEnd) →
    rep.kind = .loopBack → rep.loopTarget = some 0 → rep.loopCount = some n → fin.kind = .panelEnd →
    expanded (body ++ [rep, fin])
      = (List.replicate (n + 1) ((List.range body.length).zip body)).flatten

/-- With graded no, F′ = F at every grade. With graded yes, F′ = floor((F × grade + 5,000) / 10,000), which is F × grade /
10,000 rounded half up. For a face of 2,000..80,000 and a grade of 9,000..11,000, F′ lies in 1,800..88,000 and F × grade is
at most 880,000,000. The grade of a step computation is the head job's, and the depth does not enter. (R24) -/
def Obligations.FaceGradedHalfUp : Prop :=
  (∀ (r : StepRecord) (f grade : Nat), r.face = some f →
    (r.graded = false → r.gradedFace grade = f)
    ∧ (r.graded = true → r.gradedFace grade = (f * grade + 5000) / 10000
        ∧ 10000 * r.gradedFace grade ≤ f * grade + 5000 ∧ f * grade + 5000 < 10000 * (r.gradedFace grade + 1))
    ∧ (2000 ≤ f → f ≤ 80000 → 9000 ≤ grade → grade ≤ 11000 →
        1800 ≤ r.gradedFace grade ∧ r.gradedFace grade ≤ 88000 ∧ f * grade ≤ 880000000)
    ∧ ∀ d, ({ r with depth := d } : StepRecord).gradedFace grade = r.gradedFace grade)
  ∧ ∀ (s : State) (j : Job) (r : StepRecord), s.headJob = some j → (s.stepAnswer r).graded = r.gradedFace j.grade

/-- A fresh tension delivery with a head job sets T to (tension - reference tension) × elasticity clamped to -20,000..20,000
and changes nothing else; without a head job it changes nothing. A step computation with a head job takes G = 1,000,000 + S +
T, or 1,150,000 and the clamped mark where the sum exceeds it; for S up to 150,000 and T within its clamp, G lies in
980,000..1,150,000. It records G and the mark as last G and last G clamped. (R23, R26, R27) -/
def Obligations.FactorClampedAndTensionHeld : Prop :=
  ∀ (s : State) (tension : Nat),
    (s.headJobProfile = none → s.deliverTension tension = s)
    ∧ ∀ p, s.headJobProfile = some p →
      let product : Int := ((tension : Int) - p.refTension) * p.elasticity
      let t : Int := if product < -20000 then -20000 else if 20000 < product then 20000 else product
      s.deliverTension tension = { s with fca := { s.fca with tension := t } }
      ∧ ∀ r : StepRecord,
          let u := s.takeStep r
          let sum : Int := 1000000 + p.shrink + s.fca.tension
          (1150000 < sum → u.fca.lastG = some 1150000 ∧ u.fca.lastClamped = true)
          ∧ (0 ≤ sum → sum ≤ 1150000 → u.fca.lastG = some sum.toNat ∧ u.fca.lastClamped = false)
          ∧ (s.stepAnswer r).clamped = u.fca.lastClamped
          ∧ (p.shrink ≤ 150000 → -20000 ≤ s.fca.tension → s.fca.tension ≤ 20000 →
              ∃ g, u.fca.lastG = some g ∧ 980000 ≤ g ∧ g ≤ 1150000)
          ∧ u = { s with fca := { s.fca with
                    residue := u.fca.residue, lastG := u.fca.lastG, lastClamped := u.fca.lastClamped } }

/-- Run the Stage 4 computation over any list of steps, each with its N and its sampled G, from the residue 500,000,000,000
that a panel opens with: 10¹² times the counts so far plus the residue equals 5×10¹¹ plus the sum of the products, so the
counts sum to floor((Σ N·G·R + 5×10¹¹) / 10¹²), and the residue is less than 10¹². Each step computation of the part is one
such step. For any records, G, R and grade, the running sum of R32 over the expanded sequence equals floor((G × R × Σ N +
5×10¹¹) / 10¹²). The look-ahead span of the head job is P + floor(P / 50) + floor(clearance × R / 1,000), with G sampled from
T as it stands; Lp is the sum of the graded faces over the same sequence. For R in 100,000..500,000 and a residue w below R,
a chunk is the lesser of the remaining counts and floor(R / 20); its belt index b and the new residue w′ satisfy c × 10⁶ + w
= b × R + w′ with w′ < R; b is at most 50,000, and at least 2 when a count remains. The waste interval is the least whole
number of ms that is not below minimum dwell × b / L_t. (R28, R29, R30, R32, R33, R34, R35) -/
def Obligations.FeedCountsExact : Prop :=
  ((∀ (r : Nat) (steps : List (Nat × Nat)),
    let out := steps.foldl (fun acc x => (acc.1 + (feedCounts x.1 x.2 r acc.2).1, (feedCounts x.1 x.2 r acc.2).2))
      (0, 500000000000)
    let total := (steps.map fun x => x.1 * x.2 * r).sum
    1000000000000 * out.1 + out.2 = total + 500000000000 ∧ out.2 < 1000000000000
      ∧ out.1 = (total + 500000000000) / 1000000000000)
  ∧ ∀ (s : State) (j : Job) (p : Profile) (rec : StepRecord), s.headJob = some j → s.headJobProfile = some p →
      let g := (compFactor p.shrink s.fca.tension).1
      let n := rec.gradedFace j.grade + (match rec.kind with
        | .knife => 2
        | .box => 4
        | .inverted => 4
        | _ => 0) * rec.depth.getD 0
      ((s.stepAnswer rec).counts, (s.takeStep rec).fca.residue) = feedCounts n g s.resolution s.fca.residue)
  ∧ ((∀ (steps : List StepRecord) (g r grade : Nat),
    prediction steps g r grade
      = (g * r * ((expanded steps).map fun x => x.2.nominal grade).sum + 500000000000) / 1000000000000)
  ∧ ∀ (s : State) (j : Job) (p : Profile) (c : LineConfig),
      s.headJob = some j → s.headJobProfile = some p → s.line = some c →
      let steps := (s.pst.pattern j.patternId).steps
      let pred := prediction steps (compFactor p.shrink s.fca.tension).1 c.resolution j.grade
      s.headSpan = pred + pred / 50 + c.clearance * c.resolution / 1000
      ∧ s.headLp = ((expanded steps).map fun x => x.2.gradedFace j.grade).sum)
  ∧ ((∀ remaining r w : Nat, 100000 ≤ r → r ≤ 500000 → w < r →
    let c := (wasteChunk remaining r w).1
    let b := (wasteChunk remaining r w).2.1
    let w' := (wasteChunk remaining r w).2.2
    c = min remaining (r / 20) ∧ c * 1000000 + w = b * r + w' ∧ w' < r ∧ b ≤ 50000 ∧ (1 ≤ remaining → 2 ≤ b))
  ∧ ∀ dwell length e : Nat, 0 < e →
      dwell * length ≤ minInterval dwell length e * e ∧ ∀ i, dwell * length ≤ i * e → minInterval dwell length e ≤ i)

/-- QUEUE JOB with 7 bytes is refused RANGE for a parameter out of range, IN_USE for a job id in the queue, STATE for a
pattern that is not VALID, RANGE with the lowest step index whose depth condition fails at the grade, RANGE when 2 × Lp > L_t
or 60 × Lp < D_cut, FULL when the queue holds 16 jobs, in that order. Otherwise the job joins the tail, the reply is OK with
the number of jobs now queued, SEQ keeps its state, and only the zones may change besides, and only where the queue was empty
(R105). (R37, R38, R39) -/
def Obligations.JobQueued : Prop :=
  ∀ (tag : BitVec 16) (payload : List Byte) (s : State), s.taken → payload.length = 7 →
    let id := fieldAt payload 0 2
    let pattern := fieldAt payload 2 1
    let count := fieldAt payload 3 2
    let grade := fieldAt payload 5 2
    let steps := (s.pst.pattern pattern).steps
    let lp := finishedLength steps grade
    let ok : Prop := 1 ≤ id ∧ 1 ≤ pattern ∧ pattern ≤ 32 ∧ 1 ≤ count ∧ count ≤ 9999 ∧ 9000 ≤ grade ∧ grade ≤ 11000
    let fresh : Prop := ∀ j ∈ s.seq.jobs, j.jobId ≠ id
    let valid : Prop := (s.pst.pattern pattern).state = .valid
    let shallow (i : Nat) : Prop := ∃ r, steps[i]? = some r ∧
      ((r.kind = .knife ∧ r.gradedFace grade < r.depth.getD 0)
        ∨ ((r.kind = .box ∨ r.kind = .inverted) ∧ r.gradedFace grade < 2 * r.depth.getD 0))
    let answers (reply : List Byte) : Prop := exec (.queueJob tag payload) s = .next (s.onlyReplies 0x20#8 tag reply)
    (¬ok → answers [0x03#8])
    ∧ (ok → ¬fresh → answers [0x04#8])
    ∧ (ok → fresh → ¬valid → answers [0x02#8])
    ∧ (ok → fresh → valid →
      (∀ i, shallow i → (∀ k < i, ¬shallow k) → answers (0x03#8 :: beBytes 1 i))
      ∧ ((∀ i, ¬shallow i) →
        (s.tunnel < 2 * lp ∨ 60 * lp < s.cutDistance → answers [0x03#8])
        ∧ (2 * lp ≤ s.tunnel → s.cutDistance ≤ 60 * lp → 16 ≤ s.seq.jobs.length → answers [0x05#8])
        ∧ (2 * lp ≤ s.tunnel → s.cutDistance ≤ 60 * lp → s.seq.jobs.length < 16 → ∃ z : Zsv,
            exec (.queueJob tag payload) s = .next (({ s.restartSilence with
              seq := { s.seq with jobs := s.seq.jobs ++
                [{ jobId := id, patternId := pattern, panelCount := count, grade := grade, panelsDone := 0
                   cancelPending := false }] }
              zsv := z } : State).pushReply 0x20#8 tag (0x00#8 :: beBytes 1 (s.seq.jobs.length + 1)))
            ∧ (s.seq.jobs ≠ [] → z = s.zsv)
            ∧ (s.seq.jobs = [] → z = (({ s with seq := { s.seq with jobs :=
                [{ jobId := id, patternId := pattern, panelCount := count, grade := grade, panelsDone := 0
                   cancelPending := false }] } } : State).switchTest).zsv))))

/-- CANCEL JOB for an id not in the queue is refused NO_SUCH. A job that is not the head leaves at once. The head job with a
panel open (SEQ at rest), or in the FEED of WASTE, is marked cancel-pending and nothing else happens. With no panel open and
SEQ not in WASTE, the head leaves at once: with a job behind it SEQ keeps its state (IDLE, FAULT, held HOLDING, or ARMED,
where a standing trigger starts the new head job's panel), with none behind it SEQ is IDLE. In HOLDING with return point
WASTE, WAIT the stay ends, the head leaves with JOB_DONE, and SEQ holds with return point ARMED. In the WAIT of WASTE the
stay ends at once without the chunk's belt index, the head leaves with JOB_DONE, and SEQ is IDLE with none behind it, else
HOLDING with return point ARMED and SEQ_HOLD raised when held, else ARMED, where a standing trigger starts a panel (that the
stay does not wait for the WAIT's end is log 22). Each is answered OK. Where the head has left, the zone profile is tested
for the next job; nothing else changes. (R40, R44, R47, R105) -/
def Obligations.JobCancelled : Prop :=
  ∀ (tag : BitVec 16) (payload : List Byte) (s : State), s.taken → payload.length = 2 →
    let id := fieldAt payload 0 2
    let does (t : State) : Prop := exec (.cancelJob tag payload) s = .next (t.pushReply 0x21#8 tag [0x00#8])
    ((∀ j ∈ s.seq.jobs, j.jobId ≠ id) →
      exec (.cancelJob tag payload) s = .next (s.onlyReplies 0x21#8 tag [0x06#8]))
    ∧ ∀ j rest, s.seq.jobs = j :: rest →
      (j.jobId ≠ id → (∃ k ∈ rest, k.jobId = id) →
        does { s.restartSilence with seq := { s.seq with jobs := j :: rest.filter fun k => k.jobId != id } })
      ∧ (j.jobId = id →
        let marked := { s.restartSilence with seq := { s.seq with jobs := { j with cancelPending := true } :: rest } }
        ((s.seq.openPanel ≠ none ∧ marked.atRest = true) ∨ s.seq.mode = .wasteFeed → does marked)
        ∧ (s.seq.openPanel = none → s.seq.mode.inWaste = false →
          (rest ≠ [] →
            let left : State :=
              { s.restartSilence with seq := { s.seq with jobs := rest }, zsv := s.zonesFor rest s.str.segments }
            ((s.seq.mode = .idle ∨ (∃ r, s.seq.mode = .fault r) ∨ ((∃ p, s.seq.mode = .holding p) ∧ s.held = true)) →
              does left)
            ∧ (s.seq.mode = .armed → s.held = false → does left.armedStart))
          ∧ (rest = [] → does { s.restartSilence with
              seq := { s.seq with
                jobs := [], mode := .idle, paceTimer := none, step := none, chunk := none, wasteTarget := none
                ending := { abort := false, stop := false, webEnd := false } } }))
        ∧ (s.seq.openPanel = none → s.seq.mode = .holding .wasteWait → s.held = true →
            does { s.restartSilence with
              seq := { s.seq with
                jobs := rest, mode := .holding .armed, chunk := none, wasteTarget := none, lastStrokeStart := none }
              zsv := s.zonesFor rest s.str.segments
              evu := s.evu.raise .jobDone })
        ∧ (s.seq.openPanel = none → s.seq.mode = .wasteWait →
            let left (m : SeqMode) : State := { s.restartSilence with
              seq := { s.seq with jobs := rest, mode := m, chunk := none, wasteTarget := none, lastStrokeStart := none }
              zsv := s.zonesFor rest s.str.segments
              evu := s.evu.raise .jobDone }
            (rest = [] → does { left .idle with seq := { (left .idle).seq with
              paceTimer := none, step := none, ending := { abort := false, stop := false, webEnd := false } } })
            ∧ (rest ≠ [] → s.held = true →
                does { left (.holding .armed) with evu := (s.evu.raise .jobDone).raise .seqHold })
            ∧ (rest ≠ [] → s.held = false → does (left .armed).armedStart)))

/-- SET PACE with 11 bytes is refused STATE outside IDLE, RANGE when the source or an edge select is none of its values or
the pace period is outside 1,000..600,000. Otherwise all five settings are stored, a stroke period below 60 as 60 and above
2,000 as 2,000; the reply is CLAMPED when it was clamped and OK when not, with the five settings as stored. Nothing else
changes. (R46, R193, R205) -/
def Obligations.PaceSet : Prop :=
  ∀ (tag : BitVec 16) (payload : List Byte) (s : State), s.taken → payload.length = 11 →
    let source := payload.getD 0 0#8
    let pace := fieldAt payload 1 4
    let mark := payload.getD 5 0#8
    let fold := payload.getD 6 0#8
    let stroke := fieldAt payload 7 4
    let stored := if stroke < 60 then 60 else if 2000 < stroke then 2000 else stroke
    let ok : Prop := 1 ≤ source.toNat ∧ source.toNat ≤ 3 ∧ (mark = 1#8 ∨ mark = 2#8) ∧ (fold = 1#8 ∨ fold = 2#8)
      ∧ 1000 ≤ pace ∧ pace ≤ 600000
    (s.seq.mode ≠ .idle → exec (.setPace tag payload) s = .next (s.onlyReplies 0x23#8 tag [0x02#8]))
    ∧ (s.seq.mode = .idle → ¬ok → exec (.setPace tag payload) s = .next (s.onlyReplies 0x23#8 tag [0x03#8]))
    ∧ (s.seq.mode = .idle → ok → ∃ tr : Triggers,
        exec (.setPace tag payload) s = .next
          (({ s.restartSilence with seq := { s.seq with triggers := tr } } : State).pushReply 0x23#8 tag
            ((if stored = stroke then 0x00#8 else 0x01#8) :: source :: (beBytes 4 pace ++ [mark, fold] ++ beBytes 4 stored)))
        ∧ tr.pacePeriod = pace ∧ tr.strokePeriod = stored
        ∧ (source = 1#8 → tr.source = .command) ∧ (source = 2#8 → tr.source = .pace) ∧ (source = 3#8 → tr.source = .mark)
        ∧ (mark = 1#8 → tr.markEdge = .rising) ∧ (mark = 2#8 → tr.markEdge = .falling)
        ∧ (fold = 1#8 → tr.foldEdge = .rising) ∧ (fold = 2#8 → tr.foldEdge = .falling))

/-- GO is refused STATE when SEQ is not IDLE, the queue is empty, no unwind is ACTIVE or GUARD is open. Otherwise the reply
is OK and, under PACE, the pace timer runs one period from now: with the hold reason set non-empty SEQ is HOLDING with return
point ARMED and SEQ_HOLD is raised; with it empty SEQ is ARMED, and under COMMAND with the arm conditions met the panel start
follows at once. (R44, R47, R50) -/
def Obligations.GoStarts : Prop :=
  ∀ (tag : BitVec 16) (s : State), s.taken →
    let refused : Prop := s.seq.mode ≠ .idle ∨ s.seq.jobs = []
      ∨ (s.rcu.unwindA.state ≠ .active ∧ s.rcu.unwindB.state ≠ .active) ∨ s.seq.guardIsOpen = true
    let timed := { s.seq with
      paceTimer := if s.seq.triggers.source = TriggerSource.pace then some (s.clock + s.seq.triggers.pacePeriod) else none }
    let armed := { s.restartSilence with seq := { timed with mode := .armed } }
    (refused → exec (.go tag []) s = .next (s.onlyReplies 0x24#8 tag [0x02#8]))
    ∧ (¬refused → s.held = true → exec (.go tag []) s = .next (({ s.restartSilence with
        seq := { timed with mode := .holding .armed }
        evu := s.evu.raise .seqHold } : State).pushReply 0x24#8 tag [0x00#8]))
    ∧ (¬refused → s.held = false → (s.seq.triggers.source ≠ .command ∨ s.armMet = false) →
        exec (.go tag []) s = .next (armed.pushReply 0x24#8 tag [0x00#8]))
    ∧ (¬refused → s.held = false → s.seq.triggers.source = .command → s.armMet = true →
        exec (.go tag []) s = .next (armed.startPanel.pushReply 0x24#8 tag [0x00#8]))

/-- HOLD answers OK in every state and adds HOST to the hold reason set. ARMED, WASTE WAIT and RUNNING WAIT enter HOLDING at
once with their own return point and raise SEQ_HOLD; IDLE, a feed, a stroke, HOLDING and FAULT keep their state. Nothing else
changes. (R43, R44, R49, R50) -/
def Obligations.HoldTaken : Prop :=
  ∀ (tag : BitVec 16) (s : State), s.taken →
    exec (.hold tag []) s = .next (({ s.restartSilence with
      seq := { s.seq with hostHold := true, mode := s.seq.mode.whenHeld }
      evu := s.evu.whenHeld s.seq.mode } : State).pushReply 0x25#8 tag [0x00#8])

/-- With GUARD open RESUME is refused STATE and changes nothing. Otherwise it is OK and the three reasons go (ROLL only with
no change in progress). IDLE and motion keep their state, and so does HOLDING while a reason remains. HOLDING leaves for its
return point: a WAIT that has not run; where the WAIT has run, straight for the stroke, the spacer's index or the chunk's
index that its end brings (log 11); ARMED (IDLE with an empty queue), from which a standing trigger starts a panel; or the
next step's FEED. FAULT leaves for IDLE with an empty queue and no panel; for HOLDING with return point ARMED when held,
raising SEQ_HOLD; else for ARMED, where a standing trigger starts a panel; with a panel open it walks on, with a forming
record next to that step's FEED, or HOLDING before it when held. (R44, R47, R49, R51, R55, R59) -/
def Obligations.ResumeReleases : Prop :=
  ∀ (tag : BitVec 16) (s : State), s.taken →
    let t := { s.restartSilence with seq := { s.seq with
      hostHold := false, silentHold := false
      rollHold := if s.rcu.change = none then false else s.seq.rollHold } }
    let does (u : State) : Prop := exec (.resume tag []) s = .next (u.pushReply 0x26#8 tag [0x00#8])
    let mode (m : SeqMode) : State := { t with seq := { t.seq with mode := m } }
    let idle : State := { t with seq := { t.seq with
      mode := .idle, paceTimer := none, step := none, chunk := none, wasteTarget := none
      ending := { abort := false, stop := false, webEnd := false } } }
    let calm : Prop := s.seq.triggers.source ≠ .command ∨ s.armMet = false
    (s.seq.guardIsOpen = true → exec (.resume tag []) s = .next (s.onlyReplies 0x26#8 tag [0x02#8]))
    ∧ (s.seq.guardIsOpen = false →
      (s.seq.mode = .idle ∨ s.seq.mode.moving = true → does t)
      ∧ (∀ p, s.seq.mode = .holding p →
        (t.held = true → does t)
        ∧ (t.held = false →
          (p = .runWait → ∀ st, s.seq.step = some st →
            (s.waiting st.interval → does (mode .runWait))
            ∧ (¬s.waiting st.interval → ∃ u : State, does u ∧ (mode .runWait).waitRun u))
          ∧ (p = .wasteWait → ∀ c, s.seq.chunk = some c →
            (s.waiting c.interval → does (mode .wasteWait))
            ∧ (¬s.waiting c.interval → ∃ u : State, does u ∧ (mode .wasteWait).waitRun u))
          ∧ (p = .armed → s.seq.jobs = [] → does idle)
          ∧ (p = .armed → s.seq.jobs ≠ [] → (calm → does (mode .armed)) ∧ (¬calm → does (mode .armed).startPanel))
          ∧ (p = .runFeed → ∀ r, s.currentRecord = some r → ∃ u : State, does u ∧ t.stepFed u r
              ∧ u.seq.openPanel = s.seq.openPanel)))
      ∧ (∀ r, s.seq.mode = .fault r →
        (s.seq.openPanel = none →
          (s.seq.jobs = [] → does idle)
          ∧ (s.seq.jobs ≠ [] → t.held = true →
              does { mode (.holding .armed) with evu := s.evu.raise .seqHold })
          ∧ (s.seq.jobs ≠ [] → t.held = false →
              (calm → does (mode .armed)) ∧ (¬calm → does (mode .armed).startPanel)))
        ∧ (s.seq.openPanel ≠ none → does t.walkOn.armedStart)
        ∧ (∀ p, s.seq.openPanel = some p → ∀ next, s.headJobSteps[p.pointer + 1]? = some next → next.forming →
          ∃ u : State, does u ∧ u.seq.openPanel = some { p with pointer := p.pointer + 1 }
            ∧ (t.held = false → t.stepFed u next)
            ∧ (t.held = true → u.seq.mode = .holding .runFeed ∧ u.evu = s.evu.raise .seqHold ∧ u.fca = s.fca))))

/-- ABORT PANEL is refused STATE in IDLE, in ARMED, and in HOLDING and FAULT with no panel open. During a feed or a stroke it
is answered OK and only marks the ending. In HOLDING (held) with a panel open the panel ends as ABORTED and SEQ holds with
return point ARMED; in FAULT with a panel open it ends and SEQ keeps its fault reason; in the WAIT of RUNNING (not held) it
ends and SEQ is IDLE with no job left, else ARMED, where under COMMAND with the arm conditions then met the panel start
follows; in the WAIT of WASTE the stay ends with the same result. In IDLE STOP LINE changes nothing. During a feed or a
stroke it only marks the ending. Otherwise SEQ is IDLE at once, with the pace timer stopped and the holds, the totals and the
trigger settings as they were: an open panel ends as ABORTED; with no panel and no stay in WASTE the queue is as it was; a
stay in WASTE ends, and its head job leaves if it was cancel-pending, the zone profile tested for the next. (That ABORT PANEL
or STOP LINE in a WAIT of WASTE ends the stay at once, with the waste total and the strokes as they were, is the model's
choice: log 22.) (R40, R47, R49, R52, R53, R62, R90, R105) -/
def Obligations.PanelAbortedLineStopped : Prop :=
  (∀ (tag : BitVec 16) (s : State), s.taken →
    let does (u : State) : Prop := exec (.abortPanel tag []) s = .next (u.pushReply 0x27#8 tag [0x00#8])
    let stands (u : State) : Prop := u.wtr = s.wtr ∧ u.pst = s.pst ∧ u.rcu = s.rcu ∧ u.slm = s.slm ∧ u.clock = s.clock
      ∧ u.seq.triggers = s.seq.triggers ∧ u.seq.feedTotal = s.seq.feedTotal
    (s.seq.mode = .idle ∨ s.seq.mode = .armed
        ∨ (s.seq.openPanel = none ∧ ((∃ p, s.seq.mode = .holding p) ∨ ∃ r, s.seq.mode = .fault r)) →
      exec (.abortPanel tag []) s = .next (s.onlyReplies 0x27#8 tag [0x02#8]))
    ∧ (s.seq.mode.moving = true →
        does { s.restartSilence with seq := { s.seq with ending := { s.seq.ending with abort := true } } })
    ∧ (∀ p, s.seq.mode = .holding p → s.seq.openPanel ≠ none → s.held = true →
        ∃ u : State, does u ∧ s.panelEnded u false ∧ u.seq.mode = .holding .armed)
    ∧ (∀ r, s.seq.mode = .fault r → s.seq.openPanel ≠ none →
        ∃ u : State, does u ∧ s.panelEnded u false ∧ u.seq.mode = .fault r)
    ∧ (s.seq.openPanel ≠ none → s.seq.mode = .runWait → s.held = false →
        ∃ u : State, does u.armedStart ∧ s.panelEnded u false ∧ stands u
          ∧ u.seq.mode = if u.seq.jobs = [] then .idle else .armed)
    ∧ (s.seq.openPanel = none → s.seq.mode = .wasteWait → s.held = false →
        ∃ u : State, does u.armedStart ∧ stands u ∧ u.str = s.str ∧ u.fca = s.fca ∧ u.seq.wasteTotal = s.seq.wasteTotal
          ∧ u.seq.chunk = none ∧ u.seq.wasteTarget = none ∧ u.seq.mode = (if u.seq.jobs = [] then .idle else .armed)
          ∧ ∀ j rest, s.seq.jobs = j :: rest →
            (j.cancelPending = false → u.seq.jobs = s.seq.jobs ∧ u.zsv = s.zsv)
            ∧ (j.cancelPending = true → u.seq.jobs = rest ∧ u.zsv = s.zonesFor rest s.str.segments
              ∧ u.evu.pendingSet.getLsbD 2 = true)))
  ∧ (∀ (tag : BitVec 16) (s : State), s.taken →
    let does (u : State) : Prop := exec (.stopLine tag []) s = .next (u.pushReply 0x28#8 tag [0x00#8])
    (s.seq.mode = .idle → exec (.stopLine tag []) s = .next (s.onlyReplies 0x28#8 tag [0x00#8]))
    ∧ (s.seq.mode.moving = true →
        does { s.restartSilence with seq := { s.seq with ending := { s.seq.ending with stop := true } } })
    ∧ (s.seq.mode ≠ .idle → s.seq.mode.moving = false → ∃ u : State, does u
        ∧ u.seq.mode = .idle ∧ u.seq.paceTimer = none ∧ u.holdReasons = s.holdReasons
        ∧ u.seq.feedTotal = s.seq.feedTotal ∧ u.seq.wasteTotal = s.seq.wasteTotal ∧ u.seq.triggers = s.seq.triggers
        ∧ (s.seq.openPanel ≠ none → s.panelEnded u false)
        ∧ (s.seq.openPanel = none → u.str = s.str
          ∧ (s.seq.mode.inWaste = false → u.seq.jobs = s.seq.jobs ∧ u.zsv = s.zsv)
          ∧ (s.seq.mode.inWaste = true → ∀ j rest, s.seq.jobs = j :: rest →
              (j.cancelPending = false → u.seq.jobs = s.seq.jobs ∧ u.zsv = s.zsv)
              ∧ (j.cancelPending = true → u.seq.jobs = rest ∧ u.zsv = s.zonesFor rest s.str.segments
                ∧ u.evu.pendingSet.getLsbD 2 = true)))))

/-- Under source MARK, an edge of the selected direction is taken when SEQ is ARMED with the arm conditions met: the panel
start follows. Otherwise it is ignored: the ignored-trigger counter advances, stopping at 255, and MARK pending is set. Edges
of the other direction, or under another source, do nothing. At a pace expiry the timer restarts one period later, and the
expiry is taken or ignored the same way, without MARK pending; with the timer stopped nothing happens. (The clock standing at
the expiry is log 2.) (R46, R47, R48) -/
def Obligations.TriggersTakenOrIgnored : Prop :=
  (∀ (e : Edge) (s : State),
    (s.seq.triggers.source ≠ .mark ∨ s.seq.triggers.markEdge ≠ e → exec (.markEdge e) s = .next s)
    ∧ (s.seq.triggers.source = .mark → s.seq.triggers.markEdge = e →
      (s.seq.mode = .armed → s.armMet = true → exec (.markEdge e) s = .next s.startPanel)
      ∧ (s.seq.mode ≠ .armed ∨ s.armMet = false → exec (.markEdge e) s = .next { s with seq := { s.seq with
          ignoredTriggers := if s.seq.ignoredTriggers < 255 then s.seq.ignoredTriggers + 1 else s.seq.ignoredTriggers
          markPending := true } })))
  ∧ ∀ s : State,
    (s.seq.paceTimer = none → exec .paceExpiry s = .next s)
    ∧ ∀ e, s.seq.paceTimer = some e →
      let t := { s with
        clock := max s.clock e, seq := { s.seq with paceTimer := some (e + s.seq.triggers.pacePeriod) } }
      (s.seq.mode = .armed → s.armMet = true → exec .paceExpiry s = .next t.startPanel)
      ∧ (s.seq.mode ≠ .armed ∨ s.armMet = false → exec .paceExpiry s = .next { t with seq := { t.seq with
          ignoredTriggers :=
            if s.seq.ignoredTriggers < 255 then s.seq.ignoredTriggers + 1 else s.seq.ignoredTriggers } })

/-- The arm conditions are met exactly when every configured zone is READY, the zone profile is the head job's profile, the
head fabric is it too or a SPLICE of it lies ahead of the head, and fewer than 64 segments are queued. The ends that apply to
the waste target are those of the marks that overlap the window from the head to the head plus the span and, where the head
fabric differs, that of the nearest SPLICE of the job's profile ahead, which is the first one in the list and, in a list in
order, the one with the lowest coordinate. With no end that applies there is no waste target; otherwise it is the greatest of
them, plus the clearance counts. (R45, R54, R79) -/
def Obligations.ArmConditions : Prop :=
  ∀ (s : State) (job : Job) (id : Nat), s.headJob = some job → (s.pst.pattern job.patternId).profileId = some id →
    let splice (m : Mark) : Prop := m.kind = .splice id ∧ s.headCoord < m.coord
    let nearest (m : Mark) : Prop :=
      ∃ before after, s.wtr.marks = before ++ m :: after ∧ splice m ∧ ∀ k ∈ before, ¬splice k
    let inWindow (m : Mark) : Prop :=
      m ∈ s.wtr.marks ∧ m.coord ≤ s.headCoord + s.headSpan ∧ s.headCoord < m.endAt s.inspectCoord
    let applies (e : Int) : Prop :=
      (∃ m, inWindow m ∧ e = m.endAt s.inspectCoord)
      ∨ (s.wtr.headFabric ≠ some id ∧ ∃ m, nearest m ∧ e = m.stop)
    (s.armMet = true ↔
      (∀ i ∈ s.zoneNumbers, (s.zone i).state = .ready) ∧ s.zsv.profile = some id
      ∧ (s.wtr.headFabric = some id ∨ ∃ m ∈ s.wtr.marks, splice m) ∧ s.str.segments.length < 64)
    ∧ (s.newTarget = none ↔ ∀ e, ¬applies e)
    ∧ (∀ x, s.newTarget = some x ↔ ∃ e, applies e ∧ (∀ e', applies e' → e' ≤ e) ∧ x = e + s.clearanceCounts)
    ∧ ((∃ m, nearest m) ↔ ∃ m ∈ s.wtr.marks, splice m)
    ∧ (s.wtr.marks.Pairwise (fun a b => a.coord ≤ b.coord) →
        ∀ m, nearest m → ∀ k ∈ s.wtr.marks, splice k → m.coord ≤ k.coord)

/-- With a waste target, SEQ is in WASTE, FEED with the first chunk of R34 from a waste residue of 0 and no last stroke
start, and nothing else changes. With none (SEQ not held, a forming step first), the panel opens: its number is panels done +
1, pointer 0, no counters; Lp is held; the first step's counts, residue and interval come from the residue 500,000,000,000;
and a segment of the job opens at the commanded coordinate with lead-cut-needed as R88 gives, COMP_LIMIT where G is clamped,
all else 0 or absent. (R29, R34, R54, R55, R56, R58, R88) -/
def Obligations.PanelStartActs : Prop :=
  (∀ (s : State) (target : Int), s.newTarget = some target →
    let a := wasteChunk (target - s.headCoord).toNat s.resolution 0
    s.startPanel = { s with
      seq := { s.seq with
        mode := .wasteFeed, lastStrokeStart := none, feedPort := some a.1, wasteTarget := some target
        chunk := some { counts := a.1, index := a.2.1, interval := minInterval s.headMinDwell a.2.1 s.tunnel } }
      fca := { s.fca with wasteResidue := a.2.2 } })
  ∧ ∀ s : State, s.newTarget = none → s.held = false → ∀ j, s.headJob = some j → ∀ id, s.headJobProfileId = some id →
    ∀ r, s.headJobSteps[0]? = some r → r.forming →
    let g := s.headFactor
    let fed := feedCounts (r.nominal j.grade) g.1 s.resolution 500000000000
    s.startPanel = { s with
      seq := { s.seq with
        mode := .runFeed, openPanel := some { number := j.panelsDone + 1, pointer := 0, counters := [] }
        lastStrokeStart := none, chunk := none, wasteTarget := none, feedPort := some fed.1
        step := some { graded := r.gradedFace j.grade, stroked := false, retries := 0
                       interval := minInterval s.headMinDwell (r.gradedFace j.grade) (s.tunnel - s.headLp) } }
      fca := { s.fca with residue := fed.2, lastG := some g.1, lastClamped := g.2, panelLp := some s.headLp }
      str := { s.str with
        panelsBegun := s.str.panelsBegun + 1
        segments := s.str.segments ++
          [{ jobId := j.jobId, panelNumber := j.panelsDone + 1, patternId := j.patternId, profileId := id
             finished := s.headLp, b0 := s.str.commanded, b1 := none, strokes := 0, retries := 0, foldsMissed := 0
             rawCounts := 0, flags := { PanelFlags.none with compLimit := g.2 }
             leadNeeded := decide (s.str.lastEnd ≠ some s.str.commanded), credit := 0, exposure := 0, minTemp := none
             maxTemp := none }] } }

/-- With no feed in progress FEED_DONE changes nothing. In RUNNING with nothing ending, the feed total and the open segment's
raw counts advance by the counts; SEQ is in WAIT when the WAIT has not run, or HOLDING with return point RUNNING, WAIT and
SEQ_HOLD raised when held; the residue, zones and queue are untouched. In WASTE the same with the WAIT of WASTE and no
segment counted. Where SEQ is not held and the WAIT has run already, as with no last stroke start (a panel's first step, a
stay's first chunk), the stroke, the spacer's index or the chunk's index follows the advance in the same event. With an
ending waiting in RUNNING, the panel ends as ABORTED after the advance: STOP LINE leaves IDLE, a web end FAULT WEB_END, and
an abort IDLE, HOLDING, or ARMED, where under COMMAND with the arm conditions then met the panel start follows. With an
ending waiting in WASTE, or a cancel-pending head job, the stay ends after the advance without the chunk's belt index: the
belt, the segments, the waste total and FCA stand, a cancel-pending job leaves with JOB_DONE and the zone profile is tested
for the next, no other job does, and SEQ goes where it goes after a panel. (The first clause is log 14's, that a WAIT already
run ends in the event that enters it is log 11's, and that an abort or a stop that waits with a web end acts in this order is
log 9's: the model's choices.) (R40, R44, R47, R52, R53, R55, R58, R59, R62, R64, R105) -/
def Obligations.FeedCompletes : Prop :=
  ∀ s : State,
    (s.seq.feedPort = none → exec .feedDone s = .next s)
    ∧ ∀ c, s.seq.feedPort = some c →
      let total := s.seq.feedTotal + c
      let stands (t : State) : Prop := t.wtr = (s.feedAdvance c).wtr ∧ t.pst = s.pst ∧ t.rcu = s.rcu ∧ t.slm = s.slm
        ∧ t.clock = s.clock ∧ t.seq.triggers = s.seq.triggers
      (s.seq.ending.any = false →
        (∀ st, s.seq.step = some st → s.seq.mode = .runFeed → (s.waiting st.interval ∨ s.held = true) →
          ∃ t : State, exec .feedDone s = .next t
            ∧ t.seq = { s.seq with
                feedTotal := total, feedPort := none, mode := if s.held then .holding .runWait else .runWait }
            ∧ t.evu = (if s.held then s.evu.raise .seqHold else s.evu)
            ∧ t.str.segments.map Segment.rawCounts = modifyLast (· + c) (s.str.segments.map Segment.rawCounts)
            ∧ t.fca = s.fca ∧ t.zsv = s.zsv ∧ t.slm = s.slm ∧ t.rcu = s.rcu ∧ t.pst = s.pst ∧ t.hlp = s.hlp
            ∧ t.clock = s.clock)
        ∧ (∀ k, s.seq.chunk = some k → s.seq.mode = .wasteFeed → s.headCancelPending = false →
          (s.waiting k.interval ∨ s.held = true) →
          ∃ t : State, exec .feedDone s = .next t
            ∧ t.seq = { s.seq with
                feedTotal := total, feedPort := none, mode := if s.held then .holding .wasteWait else .wasteWait }
            ∧ t.evu = (if s.held then s.evu.raise .seqHold else s.evu)
            ∧ (s.seq.openPanel = none → t.str = s.str) ∧ t.fca = s.fca ∧ t.zsv = s.zsv ∧ t.clock = s.clock)
        ∧ (let entered (m : SeqMode) : State :=
             { s.feedAdvance c with seq := { s.seq with feedTotal := total, feedPort := none, mode := m } }
           (s.seq.mode = .runFeed → s.held = false → ∀ st, s.seq.step = some st → ¬s.waiting st.interval →
             ∃ t : State, exec .feedDone s = .next t.useFree ∧ (entered .runWait).waitRun t)
           ∧ (s.seq.mode = .wasteFeed → s.headCancelPending = false → s.held = false → ∀ k, s.seq.chunk = some k →
             ¬s.waiting k.interval → ∃ t : State, exec .feedDone s = .next t.useFree ∧ (entered .wasteWait).waitRun t)))
      ∧ (s.seq.ending.any = true → s.seq.mode = .runFeed → s.seq.openPanel ≠ none →
          ∃ t : State, exec .feedDone s = .next t.armedStart.useFree ∧ (s.feedAdvance c).panelEnded t false
            ∧ t.seq.feedTotal = total ∧ t.seq.feedPort = none ∧ stands t
            ∧ t.seq.mode =
                if s.seq.ending.stop then .idle else if s.seq.ending.webEnd then .fault .webEnd
                else if t.seq.jobs = [] then .idle else if s.held then .holding .armed else .armed)
      ∧ ((s.seq.ending.any = true ∨ s.headCancelPending = true) → s.seq.mode = .wasteFeed → s.seq.openPanel = none →
          ∃ t : State, exec .feedDone s = .next t.armedStart.useFree ∧ stands t ∧ t.str = s.str ∧ t.fca = s.fca
            ∧ t.seq.feedTotal = total ∧ t.seq.wasteTotal = s.seq.wasteTotal ∧ t.seq.feedPort = none
            ∧ t.seq.chunk = none ∧ t.seq.wasteTarget = none ∧ t.seq.openPanel = none ∧ t.seq.ending.any = false
            ∧ (s.headCancelPending = false → t.seq.jobs = s.seq.jobs ∧ t.zsv = s.zsv)
            ∧ (s.headCancelPending = true → t.seq.jobs = s.seq.jobs.tail ∧ t.evu.pendingSet.getLsbD 2 = true
                ∧ t.zsv = s.zonesFor s.seq.jobs.tail s.str.segments)
            ∧ (s.seq.ending.webEnd = true → t.evu.pendingSet.getLsbD 4 = true)
            ∧ t.seq.mode =
                if s.seq.ending.stop then .idle else if s.seq.ending.webEnd then .fault .webEnd
                else if t.seq.jobs = [] then .idle else if s.held then .holding .armed else .armed)

/-- The advance of c counts that FEED_DONE, or GUARD_OPEN with a feed in progress, makes moves the head and the inspection
coordinate by c; both leave WTR as that advance does, and GUARD_OPEN with no feed leaves it. In this order: the end of the
open mark becomes the greater of its end and the new inspection coordinate, and it merges with the DEFECT marks it then
touches (as RegionsKeptApart says of a region); a pending close fixes the open mark's end and clears its open flag, and close
pending becomes no; every mark at or below the head is reached; marks whose end the head has reached leave, an open mark
excepted; the others stay as they are, in order. The last SPLICE newly reached gives the head fabric profile. The open
panel's segment takes SPLICE and DEFECT for the kinds newly reached, and in a feed of a step the counts; no other segment
changes. (That a mark already reached is to be reached again when an unreached one merges with it is log 35.) (R63, R66, R70,
R73, R76, R77, R78) -/
def Obligations.AdvanceReachesMarks : Prop :=
  ∀ (s : State) (c : Nat),
    let head : Int := ((s.seq.feedTotal + c : Nat) : Int) - s.headOffsetCounts
    let inspect : Int := ((s.seq.feedTotal + c : Nat) : Int) + s.inspectOffsetCounts
    let t := s.feedAdvance c
    let closed (m : Mark) : Mark :=
      match m.kind with
      | .defect tag true => { m with kind := .defect tag false, stop := m.endAt inspect }
      | _ => m
    t.headCoord = head ∧ t.inspectCoord = inspect
    ∧ (s.seq.feedPort = some c → ∃ u : State, exec .feedDone s = .next u ∧ u.wtr = t.wtr)
    ∧ (s.seq.mode ≠ .idle → ∀ moved, ∃ u : State, exec (.guardOpen c moved) s = .next u
        ∧ (s.seq.feedPort ≠ none → u.wtr = t.wtr) ∧ (s.seq.feedPort = none → u.wtr = s.wtr))
    ∧ (∀ m : Mark, m.isOpen = true → m.coord < m.stop → m.endAt inspect = max m.stop inspect)
    ∧ t.wtr.closePending = false ∧ t.wtr.defectActive = s.wtr.defectActive ∧ t.wtr.markLost = s.wtr.markLost
    ∧ ∀ grown : List Mark,
      ((∀ m ∈ s.wtr.marks, m.isOpen = false) ∧ grown = s.wtr.marks)
        ∨ (∃ before m after, s.wtr.marks = before ++ m :: after ∧ m.isOpen = true
            ∧ (∀ k ∈ before ++ after, k.isOpen = false)
            ∧ grown = (placeRegion s.freeCtr inspect { m with stop := m.endAt inspect } (before ++ after)).2) →
      let list := if s.wtr.closePending then grown.map closed else grown
      let now := list.filter fun m => !m.reached && decide (m.coord ≤ head)
      t.wtr.marks = (list.map fun m => if m.coord ≤ head then { m with reached := true } else m).filter
          (fun m => m.isOpen || decide (head < m.stop))
      ∧ ((∀ m ∈ now, m.isSplice = false) → t.wtr.headFabric = s.wtr.headFabric)
      ∧ (∀ before m p after, now = before ++ m :: after → m.kind = .splice p → (∀ x ∈ after, x.isSplice = false) →
          t.wtr.headFabric = some p)
      ∧ (s.seq.mode = .runFeed → s.seq.openPanel ≠ none →
          t.str = { s.str with segments := modifyLast (fun g => { g with
            rawCounts := g.rawCounts + c
            flags := { g.flags with
              splice := g.flags.splice || now.any Mark.isSplice
              defect := g.flags.defect || now.any fun m => !m.isSplice } }) s.str.segments })
      ∧ (s.seq.mode ≠ .runFeed → s.seq.openPanel = none → t.str = s.str)

/-- WAIT_END in RUNNING, WAIT (not held) with the WAIT's time come: the last stroke start is that time. A pleat's STROKE
begins with the kind's blades and no FOLD edges; a first stroke asks for the step's belt index and advances the segment's
strokes, a retry advances its retries alone. A spacer is indexed, and the next step's FEED begins where a forming record
follows. WASTE_WAIT_END in WASTE, WAIT indexes the chunk, advances the waste total, and begins the next chunk while the
target is ahead. Outside those phases both events change nothing. What SEQ does at the end of an event: held in ARMED or a
WAIT, it enters HOLDING with that return point, raising SEQ_HOLD; not held, a WAIT that has not run stands and one that has
run ends, ARMED takes a standing trigger when the arm conditions are met, and HOLDING leaves for its return point. (The clock
standing at the end is log 2, and that a WAIT which has run ends in whatever event finds it so is log 11.) (R44, R47, R55,
R59, R60, R61) -/
def Obligations.WaitsEnd : Prop :=
  ∀ s : State,
    (s.seq.mode ≠ .runWait → exec .waitEnd s = .next s) ∧ (s.seq.mode ≠ .wasteWait → exec .wasteWaitEnd s = .next s)
    ∧ (s.seq.mode = .runWait → s.held = false → ∀ r, s.currentRecord = some r → ∀ st, s.seq.step = some st →
        ∀ p, s.seq.openPanel = some p →
      let now := max s.clock (match s.seq.lastStrokeStart with
        | none => 0
        | some a => a + max s.seq.triggers.strokePeriod st.interval)
      ((r.kind = .knife ∨ r.kind = .box ∨ r.kind = .inverted) →
        exec .waitEnd s = .next { s with
          clock := now
          seq := { s.seq with
            mode := .runStroke, lastStrokeStart := some now, foldEdges := 0
            bladePort := some (match r.kind with
              | .box => .pairedOut
              | .inverted => .pairedIn
              | _ => .single)
            step := some { st with stroked := true, retries := if st.stroked then st.retries + 1 else st.retries } }
          str :=
            if st.stroked then { s.str with
              segments := modifyLast (fun g => { g with retries := g.retries + 1 }) s.str.segments }
            else { s.str.request st.graded with
              segments := modifyLast (fun g => { g with strokes := g.strokes + 1 }) s.str.segments } })
      ∧ (r.kind = .spacer → ∀ next, s.headJobSteps[p.pointer + 1]? = some next → next.forming →
        ∃ t : State, exec .waitEnd s = .next t ∧ t.clock = now ∧ t.seq.lastStrokeStart = some now
          ∧ t.seq.openPanel = some { p with pointer := p.pointer + 1 } ∧ s.stepFed t next
          ∧ t.str.pendingIdx = (s.str.request st.graded).pendingIdx ∧ t.str.moving = true))
    ∧ (s.seq.mode = .wasteWait → s.held = false → ∀ c, s.seq.chunk = some c → ∀ target, s.seq.wasteTarget = some target →
        s.headCoord < target →
      let now := max s.clock (match s.seq.lastStrokeStart with
        | none => 0
        | some a => a + max s.seq.triggers.strokePeriod c.interval)
      let a := wasteChunk (target - s.headCoord).toNat s.resolution s.fca.wasteResidue
      exec .wasteWaitEnd s = .next { s with
        clock := now
        seq := { s.seq with
          mode := .wasteFeed, lastStrokeStart := some now, wasteTotal := s.seq.wasteTotal + c.index, feedPort := some a.1
          chunk := some { counts := a.1, index := a.2.1, interval := minInterval s.headMinDwell a.2.1 s.tunnel } }
        fca := { s.fca with wasteResidue := a.2.2 }
        str := s.str.request c.index })
    ∧ (let q (m : SeqMode) : State := { s with seq := { s.seq with mode := m } }
       (s.held = true →
         (s.seq.mode = .armed ∨ s.seq.mode = .wasteWait ∨ s.seq.mode = .runWait →
           s.settle = { q s.seq.mode.whenHeld with evu := s.evu.raise .seqHold })
         ∧ (∀ p, s.seq.mode = .holding p → s.settle = s))
       ∧ (s.held = false →
         (s.seq.mode = .runWait → ∀ st, s.seq.step = some st →
           (s.waiting st.interval → s.settle = s) ∧ (¬s.waiting st.interval → s.waitRun s.settle))
         ∧ (s.seq.mode = .wasteWait → ∀ c, s.seq.chunk = some c →
           (s.waiting c.interval → s.settle = s) ∧ (¬s.waiting c.interval → s.waitRun s.settle))
         ∧ (s.seq.mode = .armed → s.settle = if s.seq.triggers.source = .command ∧ s.armMet = true then s.startPanel else s)
         ∧ (s.seq.mode = .holding .runWait → s.settle = (q .runWait).settle)
         ∧ (s.seq.mode = .holding .wasteWait → s.settle = (q .wasteWait).settle)
         ∧ (s.seq.mode = .holding .armed → s.seq.jobs ≠ [] → s.settle = (q .armed).settle)
         ∧ (s.seq.mode = .holding .runFeed → ∀ r, s.currentRecord = some r → s.stepFed s.settle r)))

/-- WASTE_WAIT_END (not held) with the head at or past the waste target indexes the chunk, advances the waste total, and
checks the panel start again. Where ZONES, FABRIC or SEGMENTS is unmet or the head job is cancel-pending, the stay ends: the
job leaves with JOB_DONE if it is cancel-pending, the zone profile tested for the next, and SEQ is ARMED, HOLDING with return
point ARMED, or IDLE with no job left. Otherwise a new waste target has its next chunk begun in the same stay, the waste
residue and the last stroke start carried on; with none the panel starts as from ARMED. SEQ then takes a standing trigger.
(That WASTE_WAIT_END brings the clock to the end of the WAIT is log 2.) (R34, R35, R40, R44, R45, R54, R55, R105) -/
def Obligations.WasteRechecked : Prop :=
  (∀ (s : State) (c : ChunkRun) (target : Int), s.seq.mode = .wasteWait → s.held = false → s.seq.chunk = some c →
    s.seq.wasteTarget = some target → target ≤ s.headCoord →
    let now := max s.clock (match s.seq.lastStrokeStart with
      | none => 0
      | some a => a + max s.seq.triggers.strokePeriod c.interval)
    exec .wasteWaitEnd s = .next ({ s with
      clock := now
      seq := { s.seq with lastStrokeStart := some now, wasteTotal := s.seq.wasteTotal + c.index, chunk := none }
      str := s.str.request c.index } : State).repeatCheck.armedStart)
  ∧ ∀ (s : State) (job : Job) (id : Nat), s.headJob = some job → (s.pst.pattern job.patternId).profileId = some id →
    let givenUp : Prop :=
      ¬((∀ i ∈ s.zoneNumbers, (s.zone i).state = .ready) ∧ s.zsv.profile = some id)
      ∨ 64 ≤ s.str.segments.length ∨ job.cancelPending = true
      ∨ (s.wtr.headFabric ≠ some id ∧ ∀ m ∈ s.wtr.marks, m.kind = .splice id → m.coord ≤ s.headCoord)
    (givenUp →
      let t := s.repeatCheck
      t.seq.chunk = none ∧ t.seq.wasteTarget = none ∧ t.seq.openPanel = s.seq.openPanel ∧ t.str = s.str ∧ t.fca = s.fca
      ∧ t.wtr = s.wtr ∧ t.seq.wasteTotal = s.seq.wasteTotal ∧ t.seq.feedTotal = s.seq.feedTotal
      ∧ t.seq.mode = (if t.seq.jobs = [] then .idle else if s.held then .holding .armed else .armed)
      ∧ (job.cancelPending = false → t.seq.jobs = s.seq.jobs ∧ t.zsv = s.zsv)
      ∧ (job.cancelPending = true → t.seq.jobs = s.seq.jobs.tail ∧ t.evu.pendingSet.getLsbD 2 = true
          ∧ t.zsv = s.zonesFor s.seq.jobs.tail s.str.segments))
    ∧ (¬givenUp → ∀ x, s.newTarget = some x →
        let a := wasteChunk (x - s.headCoord).toNat s.resolution s.fca.wasteResidue
        s.repeatCheck = { s with
          seq := { s.seq with
            mode := .wasteFeed, feedPort := some a.1, wasteTarget := some x
            chunk := some { counts := a.1, index := a.2.1, interval := minInterval s.headMinDwell a.2.1 s.tunnel } }
          fca := { s.fca with wasteResidue := a.2.2 } })
    ∧ (¬givenUp → s.newTarget = none → s.repeatCheck = s.startPanel)

/-- FOLD_EDGE of the selected direction during a stroke advances the count; any other edge changes nothing. With no stroke in
progress STROKE_DONE changes nothing. Otherwise, with nothing ending: a fold not seen under STOP is recorded missed and SEQ
enters FAULT FOLD with the panel open at that step, SEQ_FAULT raised; under RETRY with fewer than 2 retries made nothing is
recorded and SEQ is in WAIT where it is not held and the WAIT has not run, begins the retry's stroke where the WAIT has run
(log 11), and held is in HOLDING with return point RUNNING, WAIT and SEQ_HOLD raised; seen, under IGNORE, under SKIP or after
2 retries, the walk moves on to the next record, here a forming step, whose FEED begins or is held before, a miss being
recorded only in the last two. With an ABORT PANEL, a STOP LINE or a web end waiting, a fold not seen is recorded missed
unless the mode is IGNORE, no retry and no FAULT FOLD follows, and the panel ends as ABORTED: STOP LINE leaves IDLE, a web
end FAULT WEB_END, an abort IDLE, HOLDING, or ARMED, where under COMMAND with the arm conditions then met the panel start
follows. (The clause for STROKE_DONE with no stroke in progress is log 14, and the order of endings that wait together is log
9.) (R44, R47, R52, R53, R57, R59, R60, R61, R62, R64) -/
def Obligations.FoldsChecked : Prop :=
  ∀ s : State,
    (∀ e : Edge,
      (s.seq.bladePort = none ∨ s.seq.triggers.foldEdge ≠ e → exec (.foldEdge e) s = .next s)
      ∧ (s.seq.bladePort ≠ none → s.seq.triggers.foldEdge = e →
          exec (.foldEdge e) s = .next { s with seq := { s.seq with foldEdges := s.seq.foldEdges + 1 } }))
    ∧ (s.seq.bladePort = none → exec .strokeDone s = .next s)
    ∧ (s.seq.bladePort ≠ none → s.seq.mode = .runStroke → s.seq.ending.any = false →
        ∀ r, s.currentRecord = some r → ∀ st, s.seq.step = some st → ∀ p, s.seq.openPanel = some p →
      let needed : Nat := match r.kind with
        | .knife => 1
        | .box => 2
        | .inverted => 2
        | _ => 0
      let seen : Prop := needed ≤ s.seq.foldEdges
      let missed := modifyLast (fun g =>
        { g with foldsMissed := g.foldsMissed + 1, flags := { g.flags with foldMiss := true } }) s.str.segments
      (r.confirm = .stop → ¬seen →
        exec .strokeDone s = .next { s with
          seq := { s.seq with
            bladePort := none, mode := .fault .fold, step := none, chunk := none, wasteTarget := none }
          str := { s.str with segments := missed }
          evu := s.evu.raise .seqFault })
      ∧ (r.confirm = .retry → ¬seen → st.retries < 2 → s.held = false → s.waiting st.interval →
          exec .strokeDone s = .next { s with seq := { s.seq with bladePort := none, mode := .runWait } })
      ∧ (r.confirm = .retry → ¬seen → st.retries < 2 → s.held = false → ¬s.waiting st.interval →
          exec .strokeDone s = .next (s.strokeBegun r st))
      ∧ (r.confirm = .retry → ¬seen → st.retries < 2 → s.held = true →
          exec .strokeDone s = .next { s with
            seq := { s.seq with bladePort := none, mode := .holding .runWait }, evu := s.evu.raise .seqHold })
      ∧ ∀ next, s.headJobSteps[p.pointer + 1]? = some next → next.forming →
        let recorded : Prop := ¬seen ∧ (r.confirm = .skip ∨ r.confirm = .retry ∧ 2 ≤ st.retries)
        (seen ∨ r.confirm = .ignore ∨ recorded) →
        ∃ t : State, exec .strokeDone s = .next t ∧ t.seq.bladePort = none
          ∧ t.seq.openPanel = some { p with pointer := p.pointer + 1 }
          ∧ t.seq.lastStrokeStart = s.seq.lastStrokeStart
          ∧ (s.held = false → s.stepFed t next)
          ∧ (s.held = true → t.seq.mode = .holding .runFeed ∧ t.evu = s.evu.raise .seqHold ∧ t.fca = s.fca)
          ∧ (recorded →
              t.str.segments.map Segment.foldsMissed = modifyLast (· + 1) (s.str.segments.map Segment.foldsMissed))
          ∧ (¬recorded → t.str.segments.map Segment.foldsMissed = s.str.segments.map Segment.foldsMissed))
    ∧ (s.seq.bladePort ≠ none → s.seq.mode = .runStroke → s.seq.ending.any = true → ∀ r, s.currentRecord = some r →
      let needed : Nat := match r.kind with
        | .knife => 1
        | .box => 2
        | .inverted => 2
        | _ => 0
      let u : State :=
        if r.confirm ≠ .ignore ∧ s.seq.foldEdges < needed then { s with str := { s.str with
          segments := modifyLast (fun g =>
            { g with foldsMissed := g.foldsMissed + 1, flags := { g.flags with foldMiss := true } }) s.str.segments } }
        else s
      ∃ t : State, exec .strokeDone s = .next t.armedStart ∧ u.panelEnded t false
        ∧ t.pst = s.pst ∧ t.rcu = s.rcu ∧ t.slm = s.slm ∧ t.clock = s.clock ∧ t.seq.triggers = s.seq.triggers
        ∧ t.seq.bladePort = none ∧ t.seq.ending.any = false ∧ t.seq.feedTotal = s.seq.feedTotal
        ∧ t.str.pendingIdx = s.str.pendingIdx ∧ t.str.belt = s.str.belt ∧ t.wtr = s.wtr
        ∧ (s.seq.ending.webEnd = true → t.evu.pendingSet.getLsbD 4 = true)
        ∧ t.seq.mode =
            if s.seq.ending.stop then .idle else if s.seq.ending.webEnd then .fault .webEnd
            else if t.seq.jobs = [] then .idle else if s.held then .holding .armed else .armed)

/-- The walk of a running panel takes REPEATs as R18 does, at most 255 of them in a row: an unloaded counter is loaded, a
loaded one decremented, and the walk jumps back or falls through; one counter's change leaves the others. At a forming step
the pointer and the counters stand there and its FEED begins, or SEQ holds before it with SEQ_HOLD. At the END the panel
ends, ABORTED not set, a job that is done leaving with the zone profile tested for the next, and SEQ is ARMED, HOLDING with
return point ARMED, or IDLE with no job left. The walk moves on at a STROKE_DONE whose fold is seen or not to be confirmed,
with nothing ending, and at the WAIT_END of a spacer; SEQ then does what is due. (That WAIT_END brings the clock to the end
of the WAIT is log 2.) (R18, R44, R57, R61, R62, R90, R105) -/
def Obligations.PanelRunsToEnd : Prop :=
  (∀ (cs : List (Nat × Nat)) (i n k : Nat),
    (setCounter cs i n).lookup k = (if k = i then some n else cs.lookup k)
    ∧ (clearCounter cs i).lookup k = if k = i then none else cs.lookup k)
  ∧ (∀ (steps : List StepRecord) (n i : Nat) (cs : List (Nat × Nat)) (w : WalkStop),
      WalksTo steps n i cs w → n < 256 → walkTo steps walkFuel i cs = w)
  ∧ (∀ (s : State) (p : OpenPanel) (n : Nat) (w : WalkStop), s.seq.openPanel = some p →
      WalksTo s.headJobSteps n (p.pointer + 1) p.counters w → n < 256 →
      let t := s.walkOn
      (∀ i r cs, w = .forming i r cs →
        t.seq.openPanel = some { p with pointer := i, counters := cs } ∧ t.seq.jobs = s.seq.jobs ∧ t.zsv = s.zsv
        ∧ t.seq.lastStrokeStart = s.seq.lastStrokeStart
        ∧ (s.held = false → s.stepFed t r ∧ t.evu = s.evu)
        ∧ (s.held = true → t.seq.mode = .holding .runFeed ∧ t.evu = s.evu.raise .seqHold ∧ t.fca = s.fca ∧ t.str = s.str))
      ∧ (∀ i, w = .ended i →
        s.panelEnded t true
        ∧ t.seq.mode = (if t.seq.jobs = [] then .idle else if s.held then .holding .armed else .armed)
        ∧ t.seq.feedTotal = s.seq.feedTotal ∧ t.seq.wasteTotal = s.seq.wasteTotal ∧ t.str.belt = s.str.belt
        ∧ t.str.pendingIdx = s.str.pendingIdx))
  ∧ (∀ (s : State) (r : StepRecord), s.seq.bladePort ≠ none → s.seq.ending.any = false → s.currentRecord = some r →
      let needed : Nat := match r.kind with
        | .knife => 1
        | .box => 2
        | .inverted => 2
        | _ => 0
      r.confirm = .ignore ∨ needed ≤ s.seq.foldEdges →
      exec .strokeDone s = .next ({ s with seq := { s.seq with bladePort := none } } : State).walkOn.settle)
  ∧ ∀ (s : State) (r : StepRecord) (st : StepRun), s.seq.mode = .runWait → s.held = false → s.currentRecord = some r →
      s.seq.step = some st → r.kind = .spacer →
      let now := max s.clock (match s.seq.lastStrokeStart with
        | none => 0
        | some a => a + max s.seq.triggers.strokePeriod st.interval)
      exec .waitEnd s = .next ({ s with
        clock := now, seq := { s.seq with lastStrokeStart := some now }
        str := s.str.request st.graded } : State).walkOn.armedStart

/-- In IDLE GUARD_OPEN changes only the input. Otherwise no feed, stroke or belt index is in progress or pending afterwards;
the feed total has advanced by what the encoder reported when a feed was in progress, and not else; B has advanced by what
the drive reported, at most the index in motion; the residue, last G and T stand; no panel is open, no ending waits, and SEQ
is in FAULT GUARD, with SEQ_FAULT pending unless that was its fault already. In a step's feed the open segment's raw counts
advance with the feed total. Coordinates above B are lowered to it; where an index was in motion or pending the consequences
of the advance follow: zone flags, the occupancy with its calibration entries, the zone profile test, the cut check. Then an
open panel ends as ABORTED, its segment closed at B, its job counting and leaving with JOB_DONE where it is done or
cancel-pending; a stay in WASTE ends, a cancel-pending job leaving so. GUARD_CLOSE changes only the input. (That the counts
and the distance are taken as reported, the distance bounded, is log 13; that no ending waits afterwards, and FAULT GUARD
stands with a STOP LINE waiting, is log 21; that the profile test comes before the cut check is log 10: the model's choices.)
(R40, R62, R63, R85, R90, R92, R93, R94, R95, R96, R105) -/
def Obligations.GuardStopsAll : Prop :=
  (∀ s : State, exec .guardClose s = .next { s with seq := { s.seq with guardIsOpen := false } })
  ∧ ∀ (fed moved : Nat) (s : State),
    (s.seq.mode = .idle → exec (.guardOpen fed moved) s = .next { s with seq := { s.seq with guardIsOpen := true } })
    ∧ (s.seq.mode ≠ .idle →
      let fedOn : State := if s.seq.feedPort = none then s else s.feedAdvance fed
      let belt := s.str.belt + (if s.str.moving then min moved (s.str.pendingIdx.headD 0) else 0)
      let halted : State := { fedOn with
        seq := { fedOn.seq with
          guardIsOpen := true, bladePort := none, ending := { abort := false, stop := false, webEnd := false } }
        str := { fedOn.str with
          belt := belt, pendingIdx := [], moving := false, lastEnd := fedOn.str.lastEnd.map (min · belt)
          segments := fedOn.str.segments.map fun g => { g with b0 := min g.b0 belt, b1 := g.b1.map (min · belt) } } }
      ∃ b t : State, exec (.guardOpen fed moved) s = .next t
      ∧ (s.str.pendingIdx = [] → b = halted) ∧ (s.str.pendingIdx ≠ [] → halted.advanceTaken b)
      ∧ t.str.segments.map Segment.rawCounts = (if s.seq.mode = .runFeed ∧ s.seq.feedPort ≠ none
          then modifyLast (· + fed) (s.str.segments.map Segment.rawCounts) else s.str.segments.map Segment.rawCounts)
      ∧ (s.seq.openPanel ≠ none → b.panelEnded t false)
      ∧ (s.seq.openPanel = none → t.str = b.str
        ∧ (s.seq.mode.inWaste = false → t.seq.jobs = s.seq.jobs ∧ t.zsv = b.zsv)
        ∧ (s.seq.mode.inWaste = true → t.seq.chunk = none ∧ t.seq.wasteTarget = none ∧ ∀ j rest, s.seq.jobs = j :: rest →
          (j.cancelPending = false → t.seq.jobs = s.seq.jobs ∧ t.zsv = b.zsv)
          ∧ (j.cancelPending = true → t.seq.jobs = rest ∧ t.evu.pendingSet.getLsbD 2 = true
            ∧ t.zsv = b.zonesFor rest b.str.segments)))
      ∧ t.seq.guardIsOpen = true ∧ t.seq.mode = .fault .guard ∧ t.seq.openPanel = none ∧ t.seq.feedPort = none
      ∧ t.seq.bladePort = none ∧ t.seq.ending.any = false ∧ t.str.pendingIdx = [] ∧ t.str.moving = false
      ∧ t.seq.feedTotal = s.seq.feedTotal + (if s.seq.feedPort = none then 0 else fed)
      ∧ t.str.belt = belt
      ∧ t.seq.wasteTotal = s.seq.wasteTotal ∧ t.clock = s.clock
      ∧ t.fca.residue = s.fca.residue ∧ t.fca.tension = s.fca.tension ∧ t.fca.lastG = s.fca.lastG
      ∧ (s.seq.mode ≠ .fault .guard → t.evu.pendingSet.getLsbD 4 = true)
      ∧ (s.seq.openPanel ≠ none → ∀ j rest, s.seq.jobs = j :: rest →
          t.seq.jobs = if j.panelsDone + 1 = j.panelCount ∨ j.cancelPending = true then rest
            else { j with panelsDone := j.panelsDone + 1 } :: rest)
      ∧ (∀ g ∈ t.str.segments, g.b0 ≤ t.str.belt ∧ ∀ b, g.b1 = some b → b ≤ t.str.belt))

/-- IDENTIFY answers the part's name, link rate, configuration state and clock. Every READ request answers its items, each in
its bytes as written out here; READ STEPS, READ MARKS and READ SEGMENTS the records from the first asked for, at most the
count asked for, or RANGE for parameters out of range; READ REPORTS (R181) the four oldest reports. None of them changes
anything, but that READ STATUS clears MARK pending, and READ STATUS, READ STATIONS and READ REPORTS given yes set to 0 the
link counters, the station counters or the overrun counter, after the reply has taken their values; a parameter that is
neither yes nor no is refused RANGE. Enumerations are coded by their place in their lists. (That the first position of READ
MARKS and READ SEGMENTS is one byte is log 5; that READ ZONES shows Z as 0 before the first CONFIGURE LINE is log 38. That
codes, yes/no bytes, sets and absent fields are laid out so, and which list a code counts in, is read from R203 to R206 by
inference where log 5 says.) (R22, R41, R48, R65, R80, R100, R119, R137, R157, R175, R200, R206) -/
def Obligations.ReadsAnswer : Prop :=
  let yes (b : Bool) : Byte := if b then 1#8 else 0#8
  let bits (l : List Bool) : Nat := l.foldr (fun b n => (if b then 1 else 0) + 2 * n) 0
  let flags (f : PanelFlags) : List Byte := beBytes 2 (bits
    [f.aborted, f.foldMiss, f.splice, f.defect, f.setShort, f.setOver, f.purged, f.zoneFault, f.compLimit])
  let triggers (r : Triggers) : List Byte :=
    [match r.source with
      | .command => 1#8
      | .pace => 2#8
      | .mark => 3#8] ++ beBytes 4 r.pacePeriod ++ [if r.markEdge = .rising then 1#8 else 2#8]
    ++ [if r.foldEdge = .rising then 1#8 else 2#8] ++ beBytes 4 r.strokePeriod
  let mode (m : SeqMode) : List Byte :=
    match m with
    | .idle => [1#8, 0xFF#8, 0xFF#8, 0xFF#8, 0xFF#8]
    | .armed => [2#8, 0xFF#8, 0xFF#8, 0xFF#8, 0xFF#8]
    | .wasteFeed => [3#8, 1#8, 0xFF#8, 0xFF#8, 0xFF#8]
    | .wasteWait => [3#8, 2#8, 0xFF#8, 0xFF#8, 0xFF#8]
    | .runFeed => [4#8, 1#8, 0xFF#8, 0xFF#8, 0xFF#8]
    | .runWait => [4#8, 2#8, 0xFF#8, 0xFF#8, 0xFF#8]
    | .runStroke => [4#8, 3#8, 0xFF#8, 0xFF#8, 0xFF#8]
    | .holding .armed => [5#8, 0xFF#8, 2#8, 0xFF#8, 0xFF#8]
    | .holding .wasteWait => [5#8, 0xFF#8, 3#8, 2#8, 0xFF#8]
    | .holding .runFeed => [5#8, 0xFF#8, 4#8, 1#8, 0xFF#8]
    | .holding .runWait => [5#8, 0xFF#8, 4#8, 2#8, 0xFF#8]
    | .fault .fold => [6#8, 0xFF#8, 0xFF#8, 0xFF#8, 1#8]
    | .fault .guard => [6#8, 0xFF#8, 0xFF#8, 0xFF#8, 2#8]
    | .fault .webEnd => [6#8, 0xFF#8, 0xFF#8, 0xFF#8, 3#8]
  let armWaits (s : State) : Byte :=
    let id := s.headJobProfileId
    let fabric : Bool := decide (id ≠ none ∧ s.wtr.headFabric = id)
      || s.wtr.marks.any fun m => decide (s.headCoord < m.coord) && (id.map fun p => m.kind == .splice p).getD false
    if s.seq.mode = .armed then BitVec.ofNat 8 (bits
      [decide (s.seq.triggers.source ≠ .command),
       !decide ((∀ i ∈ s.zoneNumbers, (s.zone i).state = .ready) ∧ id ≠ none ∧ s.zsv.profile = id), !fabric,
       decide (64 ≤ s.str.segments.length)])
    else 0#8
  let changeState (c : Option Change) : Byte :=
    match c with
    | none => 1#8
    | some x => x.phase.code
  let status (s : State) : List Byte :=
    beBytes 6 s.clock ++ [if s.line.isSome then 2#8 else 1#8] ++ beBytes 4 s.hlp.linkRate ++ beBytes 4 s.hlp.silenceTimeout
    ++ [if s.hlp.silenceTimer.isSome then 2#8 else 1#8] ++ presentBytes 6 s.hlp.silenceTimer ++ beBytes 2 s.hlp.crcErrors
    ++ beBytes 2 s.hlp.overruns ++ beBytes 2 s.hlp.strays
    ++ mode s.seq.mode
    ++ [BitVec.ofNat 8 (bits [s.seq.hostHold, s.rcu.acc.starved, s.seq.silentHold, s.anyZoneFault, s.seq.rollHold])]
    ++ [armWaits s] ++ presentBytes 2 (s.seq.jobs.head?.map Job.jobId) ++ beOpt 2 (s.seq.openPanel.map OpenPanel.number)
    ++ beOpt 1 (s.seq.openPanel.map OpenPanel.pointer) ++ beBytes 6 s.seq.feedTotal ++ beBytes 6 s.seq.wasteTotal
    ++ [yes s.seq.guardIsOpen] ++ beBytes 1 s.seq.ignoredTriggers ++ [yes s.seq.markPending] ++ triggers s.seq.triggers
    ++ beInt 4 s.fca.tension ++ beOpt 4 s.fca.lastG ++ [yes s.fca.lastClamped] ++ beBytes 8 s.fca.residue
    ++ beOpt 4 s.fca.panelLp
    ++ beBytes 6 s.str.belt ++ beBytes 1 s.str.segments.length ++ beBytes 4 s.str.panelsBegun ++ beBytes 4 s.str.reports
    ++ beBytes 2 s.evu.pendingSet.toNat ++ beBytes 1 s.evu.filled ++ [s.slm.mode.code, changeState s.rcu.change]
  let zone (s : State) (i : Nat) : List Byte :=
    let z := s.zone i
    let inside : Bool :=
      match z.state, z.corrected, z.setpoint with
      | .off, _, _ => false
      | .fault, _, _ => false
      | _, some c, some sp => (s.station i).condition == .fresh && decide (c - sp ≤ s.band ∧ sp - c ≤ s.band)
      | _, _, _ => false
    [z.state.code] ++ beIntOpt 2 z.setpoint ++ beIntOpt 2 z.limit ++ [yes z.lowering] ++ beIntOpt 2 z.corrected
    ++ beIntOpt 2 z.lastRaw ++ beInt 2 z.offset ++ [yes z.calibrated, yes z.calLimit, codeOpt ZoneReturn.code z.ret]
    ++ (match z.settle with
        | .stopped => 1#8 :: presentBytes 6 none
        | .running e => 2#8 :: presentBytes 6 (some e)
        | .settled => 3#8 :: presentBytes 6 none)
    ++ presentBytes 6 z.purgeDeadline ++ [yes z.purgePending] ++ beBytes 2 z.purgeCount
    ++ [codeOpt ZoneCause.code z.faultCause] ++ presentBytes 6 z.forceTime ++ presentBytes 6 z.purgeEnd
    ++ presentBytes 6 z.calibrationDue ++ [yes inside, yes (decide (z.state = .ready) && inside)]
  let zones (s : State) : List Byte :=
    let ref := s.zsv.reference
    beBytes 1 s.zoneCount ++ beBytes 4 s.zsv.settleTime ++ beBytes 4 s.zsv.purgeInterval ++ beBytes 4 s.zsv.purgeDuration
    ++ beBytes 4 s.zsv.purgeGrace ++ beBytes 4 s.zsv.recalInterval ++ beOpt 1 s.zsv.profile
    ++ countedList (beBytes 1) s.zsv.calQueue ++ beOpt 1 (ref.map RefOwner.zone)
    ++ [codeOpt CalKind.code (ref.map RefOwner.kind)] ++ presentBytes 6 (ref.map RefOwner.deadline)
    ++ countedList (zone s) (List.range' 1 s.zoneCount)
  let unwind (s : State) (u : UnwindId) (n : Nat) : List Byte :=
    let x := s.rcu.unwind u
    [x.state.code] ++ beOpt 1 x.profileId ++ presentBytes 4 x.rollTag ++ beOpt 4 x.declared ++ beOpt 4 x.remaining
    ++ [codeOpt RunState.code x.runState, yes x.lowRaised, yes x.autoStarted, (s.station n).state.code]
  let rolls (s : State) : List Byte :=
    let r := s.rcu.settings
    let c := s.rcu.change
    unwind s .a 9 ++ unwind s .b 10
    ++ beBytes 4 s.rcu.acc.stock ++ beOpt 2 s.rcu.acc.tension ++ [s.rcu.acc.station.code, yes s.rcu.acc.starved]
    ++ beBytes 4 r.capacity ++ beBytes 4 r.lowLimit ++ beBytes 4 r.resumeLevel ++ beBytes 4 r.spliceLevel
    ++ beBytes 4 r.threshold ++ [yes r.auto] ++ beBytes 4 r.fillingS ++ beBytes 4 r.stoppingS ++ beBytes 4 r.splicingS
    ++ beBytes 4 r.cuttingS ++ beBytes 4 r.restartingS ++ beBytes 4 r.spliceLength
    ++ [changeState c, codeOpt UnwindId.code (c.map Change.old), codeOpt UnwindId.code (c.map Change.new)]
    ++ presentBytes 6 (c.map Change.deadline) ++ [codeOpt yes (c.map Change.automatic)]
    ++ [s.rcu.outcome.code, codeOpt ChangePhase.code s.rcu.outcomePhase, codeOpt ChangeCause.code s.rcu.outcomeCause]
  let mark (s : State) (m : Mark) : List Byte :=
    (match m.kind with
      | .splice p => [1#8, 1#8, BitVec.ofNat 8 p, 0xFF#8]
      | .defect none o => [2#8, 2#8, 0xFF#8, yes o]
      | .defect (some _) o => [2#8, 3#8, 0xFF#8, yes o])
    ++ beInt 8 m.coord ++ beBytes 6 (m.endAt s.inspectCoord - m.coord).toNat
    ++ (match m.kind with
        | .defect (some t) _ => 1#8 :: beBytes 2 t
        | _ => [0#8, 0#8, 0#8]) ++ [0#8, 0#8, 0#8]
  let marks (s : State) (first count : Nat) : List Byte :=
    beInt 8 s.headCoord ++ beInt 8 s.inspectCoord ++ beInt 8 s.tableCoord ++ beOpt 1 s.wtr.headFabric
    ++ [if s.wtr.defectActive then 1#8 else 2#8, yes s.wtr.closePending] ++ beBytes 1 s.wtr.markLost
    ++ beBytes 1 s.wtr.marks.length ++ beBytes 1 (s.wtr.marks.countP Mark.isSplice)
    ++ countedList (mark s) ((s.wtr.marks.drop first).take count)
  let segment (g : Segment) : List Byte :=
    beBytes 2 g.jobId ++ beBytes 2 g.panelNumber ++ beBytes 1 g.patternId ++ beBytes 1 g.profileId ++ beBytes 4 g.finished
    ++ beBytes 6 g.b0 ++ presentBytes 6 g.b1 ++ beBytes 2 g.strokes ++ beBytes 2 g.retries ++ beBytes 2 g.foldsMissed
    ++ beBytes 4 g.rawCounts ++ flags g.flags ++ [yes g.leadNeeded] ++ beBytes 4 g.credit ++ beBytes 4 g.exposure
    ++ beIntOpt 2 g.minTemp ++ beIntOpt 2 g.maxTemp
  let segments (s : State) (first count : Nat) : List Byte :=
    beBytes 6 s.str.belt ++ beBytes 6 (s.str.belt + s.str.pendingIdx.sum) ++ beBytes 1 s.str.pendingIdx.length
    ++ (match s.str.cutter with
        | .idle => [1#8, 0xFF#8]
        | .cutting .lead _ => [2#8, 1#8]
        | .cutting .tail _ => [2#8, 2#8])
    ++ beBytes 4 s.str.panelsBegun ++ beBytes 4 s.str.reports ++ beBytes 1 s.str.segments.length
    ++ countedList segment ((s.str.segments.drop first).take count)
  let readings (l : LastReading) : List Byte :=
    l.status :: match l.readings with
      | .zone raw reference => beInt 2 raw ++ beInt 2 reference
      | .unwind remaining => beBytes 4 remaining
      | .table => []
      | .accumulator stock tension => beBytes 4 stock ++ beBytes 2 tension
      | .auxiliary bytes => bytes
  let station (s : State) (n : Nat) : List Byte :=
    let st := s.station n
    let of (zone unwind table acc aux : Nat) : Nat :=
      if n ≤ 8 then zone else if n ≤ 10 then unwind else if n = 11 then table else if n = 12 then acc else aux
    let enabled : List Nat := if s.slm.toPoll = [] then s.enabledSet else s.slm.enabled
    [yes (decide (n ∈ enabled)), BitVec.ofNat 8 (of 1 2 3 4 5), st.state.code] ++ beBytes 1 st.misses ++ beBytes 1 st.recovery
    ++ beBytes 1 st.missCounter ++ beBytes 1 st.crcErrors ++ beOpt 1 st.lastRenewal ++ beBytes 1 st.unchanged
    ++ [yes st.stale] ++ beBytes 1 st.lastCode
    ++ ((st.lastReading.map readings).getD (List.replicate (of 5 5 1 7 9) 0xFF#8)) ++ [st.condition.code]
  let stations (s : State) : List Byte :=
    [s.slm.mode.code, yes (decide (s.slm.toPoll ≠ []))] ++ beBytes 1 s.slm.lastStation ++ beBytes 1 s.slm.lossThreshold
    ++ beBytes 4 s.slm.window ++ beBytes 2 s.slm.scanNumber ++ beBytes 1 s.slm.requests.length ++ [yes s.slm.overflow]
    ++ (List.range' 1 16).flatMap (station s)
  let report (r : Report) : List Byte :=
    beBytes 2 r.sequence ++ beBytes 2 r.jobId ++ beBytes 2 r.panelNumber ++ beBytes 1 r.patternId ++ beBytes 1 r.profileId
    ++ beBytes 4 r.rawCounts ++ beBytes 4 r.finished ++ beBytes 2 r.strokes ++ beBytes 2 r.foldsMissed
    ++ beBytes 2 r.retries ++ flags r.flags ++ beBytes 4 r.credit ++ beBytes 4 r.exposure ++ beIntOpt 2 r.minTemp
    ++ beIntOpt 2 r.maxTemp ++ [if r.verdict = .good then 1#8 else 2#8, 0#8]
  let reports (s : State) : List Byte :=
    beBytes 1 s.evu.filled ++ beBytes 1 s.evu.overrun ++ beBytes 2 s.evu.nextSeq
    ++ countedList report (s.evu.reportsInOrder.take 4)
  ([ZoneState.off, .warming, .ready, .standby, .purging, .calibrating, .fault].map ZoneState.code
      = [1#8, 2#8, 3#8, 4#8, 5#8, 6#8, 7#8]
    ∧ [ZoneReturn.warming, .ready, .standby].map ZoneReturn.code = [1#8, 2#8, 3#8]
    ∧ [ZoneCause.overtemp, .station, .valveFault, .probeFault].map ZoneCause.code = [1#8, 2#8, 3#8, 4#8]
    ∧ [CalKind.long, .short].map CalKind.code = [1#8, 2#8]
    ∧ [UnwindState.empty, .loaded, .ready, .active, .spent].map UnwindState.code = [1#8, 2#8, 3#8, 4#8, 5#8]
    ∧ [RunState.stopped, .running, .atSpeed].map RunState.code = [1#8, 2#8, 3#8]
    ∧ [UnwindId.a, .b].map UnwindId.code = [1#8, 2#8]
    ∧ [ChangePhase.filling, .stopping, .splicing, .cutting, .restarting].map ChangePhase.code
      = [2#8, 3#8, 4#8, 5#8, 6#8]
    ∧ [ChangeOutcome.none, .done, .reverted, .failed].map ChangeOutcome.code = [1#8, 2#8, 3#8, 4#8]
    ∧ [ChangeCause.command, .timeout, .jam, .station, .removed, .rollEnd, .reset].map ChangeCause.code
      = [1#8, 2#8, 3#8, 4#8, 5#8, 6#8, 7#8]
    ∧ [ScanMode.stopped, .continuous, .single].map ScanMode.code = [1#8, 2#8, 3#8]
    ∧ [LinkState.online, .missing, .lost].map LinkState.code = [1#8, 2#8, 3#8]
    ∧ [Condition.fresh, .stale, .missing, .lost].map Condition.code = [1#8, 2#8, 3#8, 4#8]
    ∧ [PatternState.empty, .loading, .valid, .invalid].map PatternState.code = [1#8, 2#8, 3#8, 4#8]
    ∧ [FailReason.noEnd, .range, .loop, .profile, .length].map FailReason.code = [1#8, 2#8, 3#8, 4#8, 5#8]
    ∧ [StepKind.knife, .box, .inverted, .spacer, .loopBack, .panelEnd].map StepKind.code
      = [1#8, 2#8, 3#8, 4#8, 5#8, 6#8]
    ∧ [Confirm.stop, .ignore, .retry, .skip].map Confirm.code = [1#8, 2#8, 3#8, 4#8])
  ∧ (∀ (tag : BitVec 16) (s : State), s.room →
    let t := s.restartSilence
    exec (.identify tag []) s = .next (s.onlyReplies 0x01#8 tag
      ([0x00#8, 0x50#8, 0x46#8, 0x01#8, 0x96#8, 0x01#8] ++ beBytes 4 s.hlp.linkRate
        ++ [if s.line.isSome then 2#8 else 1#8] ++ beBytes 6 s.clock))
    ∧ exec (.readJobs tag []) s = .next (s.onlyReplies 0x22#8 tag
        (0x00#8 :: BitVec.ofNat 8 s.seq.jobs.length :: s.seq.jobs.flatMap fun j =>
          beBytes 2 j.jobId ++ beBytes 1 j.patternId ++ beBytes 2 j.panelCount ++ beBytes 2 j.grade
            ++ beBytes 2 j.panelsDone ++ [yes j.cancelPending]))
    ∧ exec (.readZones tag []) s = .next (s.onlyReplies 0x41#8 tag (0x00#8 :: zones t))
    ∧ exec (.readRolls tag []) s = .next (s.onlyReplies 0x54#8 tag (0x00#8 :: rolls t)))
  ∧ (∀ (tag : BitVec 16) (id first count : Byte) (s : State), s.room →
    let t := s.restartSilence
    let e := s.pst.pattern id.toNat
    let rows := (e.steps.drop first.toNat).take count.toNat
    let inSteps : Prop := 1 ≤ id.toNat ∧ id.toNat ≤ 32 ∧ first.toNat ≤ 127 ∧ 1 ≤ count.toNat ∧ count.toNat ≤ 16
    let inMarks : Prop := first.toNat ≤ 63 ∧ 1 ≤ count.toNat ∧ count.toNat ≤ 32
    let inSegments : Prop := first.toNat ≤ 63 ∧ 1 ≤ count.toNat ∧ count.toNat ≤ 16
    (inSteps → exec (.readSteps tag [id, first, count]) s = .next (s.onlyReplies 0x16#8 tag
        ([0x00#8, e.state.code] ++ beOpt 1 e.profileId ++ beBytes 1 e.steps.length ++ beBytes 1 e.stepCount
          ++ (match e.failure with
              | some (i, reason) => beBytes 1 i ++ [reason.code]
              | none => [0xFF#8, 0xFF#8])
          ++ BitVec.ofNat 8 rows.length :: rows.flatMap fun r =>
            [r.kind.code, yes r.graded, r.confirm.code, 0#8] ++ beOpt 4 r.face ++ beOpt 4 r.depth ++ beOpt 1 r.loopTarget
              ++ beOpt 1 r.loopCount ++ [0#8, 0#8])))
    ∧ (¬inSteps → exec (.readSteps tag [id, first, count]) s = .next (s.onlyReplies 0x16#8 tag [0x03#8]))
    ∧ (inMarks → exec (.readMarks tag [first, count]) s = .next (s.onlyReplies 0x31#8 tag
        (0x00#8 :: marks t first.toNat count.toNat)))
    ∧ (¬inMarks → exec (.readMarks tag [first, count]) s = .next (s.onlyReplies 0x31#8 tag [0x03#8]))
    ∧ (inSegments → exec (.readSegments tag [first, count]) s = .next (s.onlyReplies 0x38#8 tag
        (0x00#8 :: segments t first.toNat count.toNat)))
    ∧ (¬inSegments → exec (.readSegments tag [first, count]) s = .next (s.onlyReplies 0x38#8 tag [0x03#8])))
  ∧ ∀ (tag : BitVec 16) (b : Byte) (s : State), s.room →
    let t := s.restartSilence
    let quiet : State := { t with seq := { t.seq with markPending := false } }
    (b = 0#8 →
      exec (.readStatus tag [b]) s = .next (quiet.pushReply 0x02#8 tag (0x00#8 :: status t))
      ∧ exec (.readStations tag [b]) s = .next (s.onlyReplies 0x61#8 tag (0x00#8 :: stations t))
      ∧ exec (.readReports tag [b]) s = .next (s.onlyReplies 0x68#8 tag (0x00#8 :: reports t)))
    ∧ (b = 1#8 →
      exec (.readStatus tag [b]) s = .next (({ quiet with
          hlp := { t.hlp with crcErrors := 0, overruns := 0, strays := 0 } } : State).pushReply
        0x02#8 tag (0x00#8 :: status t))
      ∧ exec (.readStations tag [b]) s = .next (({ t with
          slm := { t.slm with stations := t.slm.stations.map fun st => { st with missCounter := 0, crcErrors := 0 } } }
            : State).pushReply 0x61#8 tag (0x00#8 :: stations t))
      ∧ exec (.readReports tag [b]) s = .next (({ t with evu := { t.evu with overrun := 0 } } : State).pushReply 0x68#8 tag
          (0x00#8 :: reports t)))
    ∧ (b ≠ 0#8 → b ≠ 1#8 →
      exec (.readStatus tag [b]) s = .next (s.onlyReplies 0x02#8 tag [0x03#8])
      ∧ exec (.readStations tag [b]) s = .next (s.onlyReplies 0x61#8 tag [0x03#8])
      ∧ exec (.readReports tag [b]) s = .next (s.onlyReplies 0x68#8 tag [0x03#8]))

/-- A region that merges with no DEFECT mark, when 60 DEFECTs or 64 marks are listed, is discarded: the MARK_LOST counter
advances, stopping at 255, MARK_LOST is raised, and REPORT DEFECT is refused FULL. Any other region enters or merges, and a
mark at or below the head is reached. DEFECT_ACTIVE_EDGE makes an open region at the inspection coordinate and cancels a
pending close. DEFECT_INACTIVE_EDGE during a feed sets close pending; otherwise an open mark closes at once, and marks the
head has passed leave. REPORT DEFECT checks extent and offset (RANGE) and answers the coordinate and extent of the mark its
region now forms part of, which is its own where it merges with none. Where two HOST regions tie, the tag is a free value
(log 8). A mark reached at its entry gives the head fabric and flags the open panel's segment as R76 says. (That a mark
already reached is to be reached again when an unreached region merges into it is log 35. The pending close at an inactive
edge during a feed, open mark or not, is log 24.) (R70, R71, R72, R73, R74, R76, R77, R184) -/
def Obligations.DefectsEnter : Prop :=
  ∀ s : State,
    let touches (r m : Mark) : Prop :=
      m.isSplice = false ∧ ((r.coord ≤ m.endAt s.inspectCoord ∧ m.coord ≤ r.stop) ∨ (r.isOpen = true ∧ m.isOpen = true))
    let full (r : Mark) : Prop :=
      (60 ≤ (s.wtr.marks.countP fun m => !m.isSplice) ∨ 64 ≤ s.wtr.marks.length) ∧ ∀ m ∈ s.wtr.marks, ¬touches r m
    let lost := if s.wtr.markLost < 255 then s.wtr.markLost + 1 else s.wtr.markLost
    let placed (r : Mark) : Mark × List Mark := placeRegion s.freeCtr s.inspectCoord r s.wtr.marks
    let entered (t : State) (r : Mark) : Prop :=
      s.marksReached t (placed r).2 ∧ t.wtr.markLost = s.wtr.markLost
        ∧ ((∀ m ∈ s.wtr.marks, ¬touches r m) → (placed r).1 = r)
        ∧ t = { s with hlp := t.hlp, str := t.str, wtr := t.wtr, freeCtr := t.freeCtr }
    let open_ : Mark :=
      { kind := .defect none true, coord := s.inspectCoord, stop := s.inspectCoord + 1, reached := false }
    (full open_ → exec .defectActiveEdge s = .next { s with
        wtr := { s.wtr with defectActive := true, closePending := false, markLost := lost }
        evu := s.evu.raise .markLost })
    ∧ (¬full open_ → ∃ t : State, exec .defectActiveEdge s = .next t ∧ entered t open_ ∧ t.wtr.defectActive = true
        ∧ t.wtr.closePending = false ∧ t.hlp = s.hlp ∧ t.freeCtr = s.freeCtr)
    ∧ (s.seq.feedPort ≠ none → exec .defectInactiveEdge s = .next { s with
        wtr := { s.wtr with defectActive := false, closePending := true } })
    ∧ (s.seq.feedPort = none → (∀ m ∈ s.wtr.marks, m.isOpen = false) →
        exec .defectInactiveEdge s = .next { s with wtr := { s.wtr with defectActive := false } })
    ∧ (s.seq.feedPort = none → (∃ m ∈ s.wtr.marks, m.isOpen = true) →
        exec .defectInactiveEdge s = .next { s with wtr := { s.wtr with
          defectActive := false, closePending := false
          marks := (s.wtr.marks.map fun m =>
              match m.kind with
              | .defect tag true => { m with kind := .defect tag false, stop := m.endAt s.inspectCoord }
              | _ => m).filter fun m => decide (s.headCoord < m.stop) } })
    ∧ ∀ (tag : BitVec 16) (payload : List Byte), s.taken → payload.length = 12 →
      let offset := fieldAtSigned payload 0 4
      let extent := fieldAt payload 4 6
      let r : Mark := { kind := .defect (some (fieldAt payload 10 2)) false, coord := s.headCoord + offset
                        stop := s.headCoord + offset + extent, reached := false }
      let refused : Prop := extent < 1 ∨ 1000000 < extent ∨ offset < 0 ∨ s.tableCoord < s.headCoord + offset
      (refused → exec (.reportDefect tag payload) s = .next (s.onlyReplies 0x30#8 tag [0x03#8]))
      ∧ (¬refused → full r → exec (.reportDefect tag payload) s = .next (({ s.restartSilence with
          wtr := { s.wtr with markLost := lost }
          evu := s.evu.raise .markLost } : State).pushReply 0x30#8 tag [0x05#8]))
      ∧ (¬refused → ¬full r → ∃ t : State,
          exec (.reportDefect tag payload) s = .next (t.pushReply 0x30#8 tag
            (0x00#8 :: (beInt 8 (placed r).1.coord
              ++ beBytes 6 ((placed r).1.endAt s.inspectCoord - (placed r).1.coord).toNat)))
          ∧ entered t r ∧ t.wtr.defectActive = s.wtr.defectActive ∧ t.wtr.closePending = s.wtr.closePending
          ∧ t.hlp = s.restartSilence.hlp ∧ t.freeCtr = s.freeCtr + 1)

/-- Let the DEFECT marks of a list be apart (no two overlap or touch), the list in the order of R69, every extent at least 1
and at most one mark open. Entering a non-empty DEFECT region, itself open only where an open mark of the list overlaps or
touches it, leaves a list in that order with its DEFECT marks apart and the same SPLICEs; the fabric its DEFECT marks cover
is that of the old ones and the region together, and the mark it answers for the region is in the list and covers the region.
That mark is made of the region and the DEFECT marks it covers, which leave the list while every other mark stays: its
coordinate is the lowest of theirs and its end the highest, it is open when one of them is, its source is HOST when one of
them is HOST, with the host tag of a HOST one of the lowest coordinate (which of several is a free value: log 8), and it is
reached when all of them were (log 35). (R69, R70) -/
def Obligations.RegionsKeptApart : Prop :=
  ∀ (free : Nat) (inspect : Int) (region : Mark) (l : List Mark),
    let apart (a b : Mark) : Prop := a.isSplice = false → b.isSplice = false →
      a.endAt inspect < b.coord ∨ b.endAt inspect < a.coord
    let inOrder (a b : Mark) : Prop :=
      a.coord < b.coord ∨ (a.coord = b.coord ∧ ¬(a.isSplice = false ∧ b.isSplice = true))
    let covers (m : Mark) (x : Int) : Prop := m.isSplice = false ∧ m.coord ≤ x ∧ x < m.endAt inspect
    l.Pairwise apart → l.Pairwise inOrder → (∀ m ∈ l, m.coord < m.endAt inspect) →
    l.countP Mark.isOpen ≤ 1 → region.isSplice = false → region.coord < region.stop →
    (region.isOpen = true → ∀ m ∈ l, m.isOpen = true → m.coord ≤ region.endAt inspect ∧ region.coord ≤ m.endAt inspect) →
    let out := placeRegion free inspect region l
    out.2.Pairwise apart ∧ out.2.Pairwise inOrder ∧ out.2.filter Mark.isSplice = l.filter Mark.isSplice
      ∧ (∀ x, (∃ m ∈ out.2, covers m x) ↔ covers region x ∨ ∃ m ∈ l, covers m x)
      ∧ out.1 ∈ out.2 ∧ (∀ x, covers region x → covers out.1 x)
      ∧ (let absorbed := l.filter fun m =>
           !m.isSplice && decide (out.1.coord ≤ m.coord ∧ m.endAt inspect ≤ out.1.endAt inspect)
         let all := region :: absorbed
         out.1.isSplice = false ∧ (∀ m, m ∈ out.2 ↔ m = out.1 ∨ (m ∈ l ∧ m ∉ absorbed))
         ∧ (∀ m ∈ all, out.1.coord ≤ m.coord ∧ m.endAt inspect ≤ out.1.endAt inspect)
         ∧ (∃ m ∈ all, out.1.coord = m.coord) ∧ (∃ m ∈ all, out.1.endAt inspect = m.endAt inspect)
         ∧ out.1.isOpen = all.any Mark.isOpen ∧ out.1.reached = all.all Mark.reached
         ∧ ((∀ m ∈ all, m.hostTag = none) → out.1.hostTag = none)
         ∧ ((∃ m ∈ all, m.hostTag ≠ none) → ∃ m ∈ all, m.hostTag ≠ none ∧ out.1.hostTag = m.hostTag
             ∧ ∀ k ∈ all, k.hostTag ≠ none → m.coord ≤ k.coord))

/-- BELT_DONE with no index in motion changes nothing; else B advances by the oldest index, the next one moves, each segment
takes PURGED and ZONE_FAULT from the zones it now overlaps, the occupancy is handed over, the zone profile is tested, and an
IDLE cutter makes its cut check. The hand-over of an advance abandons the calibration of an owner that is now occupied: the
reference is free, the zone returns, its settle timer anew in WARMING, and is requeued at the tail; then, as at every
hand-over, the start tests of all zones are made and the reference handed out (ZoneCommandTable says what they do). CUT_DONE
with the cutter IDLE changes nothing. A lead cut clears lead-cut-needed, a tail cut takes the segment from the queue, hands
the occupancy over and tests the zone profile, each followed by the cut check; the finished panel record, with SET_SHORT,
SET_OVER and the verdict (REJECT for any flag but COMP_LIMIT), is written at the write position, PANEL_REPORT raised,
REPORT_OVERRUN too when no slot was free. SEQ then does what is due (nothing in a state that stands). (The clauses for
BELT_DONE and CUT_DONE with nothing in motion are log 14; that the profile test comes before the cut check is log 10.) (R84,
R92, R93, R94, R95, R96, R97, R98, R105, R134, R177, R180) -/
def Obligations.BeltAndCutter : Prop :=
  ∀ s : State,
    (s.str.moving = false ∨ s.str.pendingIdx = [] → exec .beltDone s = .next s)
    ∧ (∀ d rest, s.str.moving = true → s.str.pendingIdx = d :: rest →
        let u : State := { s with str := { s.str with belt := s.str.belt + d, pendingIdx := rest, moving := !rest.isEmpty } }
        ∃ t : State, exec .beltDone s = .next t.settle ∧ (s.seq.mode.stands = true → exec .beltDone s = .next t)
          ∧ u.advanceTaken t
          ∧ (s.sized → s.zoneCount ≤ 8 → ∀ i ∈ s.zoneNumbers, (t.zone i).occupied = t.zoneOccupied i))
    ∧ (s.str.cutter = Cutter.idle ∨ s.str.segments = [] → exec .cutDone s = .next s)
    ∧ ∀ o g rest, s.str.segments = g :: rest →
      (s.str.cutter = .cutting .lead o → ∃ t : State,
        exec .cutDone s = .next t.settle ∧ (s.seq.mode.stands = true → exec .cutDone s = .next t)
        ∧ t = { s with str := { s.str with
            segments := { g with leadNeeded := false } :: rest
            cutter := s.cutChecked s.str.belt ({ g with leadNeeded := false } :: rest) } })
      ∧ (s.str.cutter = .cutting .tail o → ∀ q, s.pst.profile g.profileId = some q →
        let f := { g.flags with
          setShort := g.flags.setShort || decide (g.credit < q.minDwell)
          setOver := g.flags.setOver || decide (q.maxDwell < g.exposure) }
        let report : Report :=
          { sequence := s.evu.nextSeq, jobId := g.jobId, panelNumber := g.panelNumber, patternId := g.patternId
            profileId := g.profileId, rawCounts := g.rawCounts, finished := g.finished, strokes := g.strokes
            foldsMissed := g.foldsMissed, retries := g.retries, flags := f, credit := g.credit, exposure := g.exposure
            minTemp := g.minTemp, maxTemp := g.maxTemp
            verdict := if f.aborted ∨ f.foldMiss ∨ f.splice ∨ f.defect ∨ f.setShort ∨ f.setOver ∨ f.purged ∨ f.zoneFault
                       then .reject else .good }
        ∃ t : State, exec .cutDone s = .next t.settle ∧ (s.seq.mode.stands = true → exec .cutDone s = .next t)
          ∧ t = { s with
              zsv := ({ s with str := { s.str with segments := rest } } : State).handOverOccupancy.switchTest.zsv
              evu := t.evu
              str := { s.str with segments := rest, reports := s.str.reports + 1, cutter := s.cutChecked s.str.belt rest } }
          ∧ t.evu.slots = s.evu.slots.set s.evu.writePos (some report) ∧ t.evu.writePos = (s.evu.writePos + 1) % 8
          ∧ t.evu.nextSeq = (s.evu.nextSeq + 1) % 65536
          ∧ (s.evu.filled < 8 → t.evu.filled = s.evu.filled + 1 ∧ t.evu.overrun = s.evu.overrun
              ∧ t.evu.pendingSet = s.evu.pendingSet ||| 1#16)
          ∧ (8 ≤ s.evu.filled → t.evu.filled = s.evu.filled
              ∧ t.evu.overrun = (if s.evu.overrun < 255 then s.evu.overrun + 1 else s.evu.overrun)
              ∧ t.evu.pendingSet = s.evu.pendingSet ||| 3#16))
    ∧ (let o := s.takeOccupancy
       o = { s with zsv := { s.zsv with zones := o.zsv.zones } }
       ∧ (s.sized → s.zoneCount ≤ 8 → ∀ i, o.zone i =
           if 1 ≤ i ∧ i ≤ s.zoneCount then { s.zone i with occupied := s.zoneOccupied i } else s.zone i)
       ∧ s.handOverOccupancy = o.startTests.handOut
       ∧ (s.zsv.reference = none → s.handOverAdvance = o.startTests.handOut)
       ∧ ∀ r, s.zsv.reference = some r →
         ((o.zone r.zone).occupied = false → s.handOverAdvance = o.startTests.handOut)
         ∧ ((o.zone r.zone).occupied = true → ∀ k, (o.zone r.zone).ret = some k →
           let v := o.onZone r.zone fun z => { z with state := k.state, ret := none }
           let back := v.onZone r.zone fun z => { z with
             settle := if k = ZoneReturn.warming then
                 if v.insideBand r.zone then .running (s.clock + s.zsv.settleTime) else .stopped
               else z.settle }
           s.handOverAdvance = ({ back with zsv := { back.zsv with
             reference := none
             calQueue := if r.zone ∈ s.zsv.calQueue then s.zsv.calQueue else s.zsv.calQueue ++ [r.zone] } }
             : State).startTests.handOut))

/-- A scan completion sets the last accrual time to now and changes nothing but the segments' exposure, credit and
temperatures. With Δ the time since the last accrual (0 where absent): a segment partly inside the tunnel gains Δ of
exposure; a closed segment wholly inside it, whose every overlapped zone is READY, fresh and within the band, gains Δ of
credit and takes into its minimum and maximum the corrected temperatures of those zones; both stop at 4,294,967,295. A
segment that meets neither condition gains nothing. (R86, R91, R108) -/
def Obligations.DwellAccrued : Prop :=
  ∀ s : State,
    let t := s.scanCompletion
    let delta := match s.str.lastAccrual with
      | none => 0
      | some a => s.clock - a
    t = { s with str := { s.str with segments := t.str.segments, lastAccrual := some s.clock } }
    ∧ t.str.segments.length = s.str.segments.length
    ∧ ∀ (k : Nat) (g : Segment), s.str.segments[k]? = some g → ∃ h : Segment, t.str.segments[k]? = some h
      ∧ h = { g with exposure := h.exposure, credit := h.credit, minTemp := h.minTemp, maxTemp := h.maxTemp }
      ∧ (let lo := match g.b1 with
          | none => 0
          | some b1 => s.str.belt - b1
         let hi := s.str.belt - g.b0
         let bound (j : Nat) : Nat := s.entryDistance + j * s.tunnel / s.zoneCount
         let partly : Prop := lo < hi ∧ s.entryDistance < hi ∧ lo < s.entryDistance + s.tunnel
         let overlapped (i : Nat) : Prop := i ∈ s.zoneNumbers ∧ lo < hi ∧ lo < bound i ∧ bound (i - 1) < hi
         let inBand (i : Nat) : Prop := (s.zone i).state = .ready ∧ (s.station i).condition = .fresh
           ∧ ∃ c sp : Int, (s.zone i).corrected = some c ∧ (s.zone i).setpoint = some sp
             ∧ c - sp ≤ s.band ∧ sp - c ≤ s.band
         let credited : Prop := g.b1 ≠ none ∧ lo < hi ∧ s.entryDistance ≤ lo ∧ hi ≤ s.entryDistance + s.tunnel
           ∧ ∀ i, overlapped i → inBand i
         let reads (v : Int) : Prop := ∃ i, overlapped i ∧ (s.zone i).corrected = some v
         (partly → h.exposure = min (g.exposure + delta) 4294967295) ∧ (¬partly → h.exposure = g.exposure)
         ∧ (credited → h.credit = min (g.credit + delta) 4294967295
             ∧ (∀ v, reads v → ∃ a b, h.minTemp = some a ∧ a ≤ v ∧ h.maxTemp = some b ∧ v ≤ b)
             ∧ (∀ v, g.minTemp = some v → ∃ a, h.minTemp = some a ∧ a ≤ v)
             ∧ (∀ v, g.maxTemp = some v → ∃ b, h.maxTemp = some b ∧ v ≤ b)
             ∧ (∀ a, h.minTemp = some a → g.minTemp = some a ∨ reads a)
             ∧ (∀ b, h.maxTemp = some b → g.maxTemp = some b ∨ reads b))
         ∧ (¬credited → h.credit = g.credit ∧ h.minTemp = g.minTemp ∧ h.maxTemp = g.maxTemp))

/-- ZONE COMMAND is refused RANGE for an action that is none of the five or a zone above Z, and STATE while the scan is
STOPPED. For one zone the reply carries its outcome, ACCEPTED (1), NO_CHANGE (2) or REFUSED (3) as R110's table gives; the
status is STATE when it is REFUSED and OK when not. ALL does so to the zones 1..Z one after another, and the reply carries
their Z outcomes, with STATE when any is REFUSED. NO_CHANGE and REFUSED change nothing. An accepted action changes only the
zones: → WARMING or → STANDBY with the setpoint, the limit and its lowering of R107, a zone without a limit, as one from OFF
is, starting from 24,999; return state STANDBY likewise; → OFF (with the calibration, purge and limits of the zone gone);
queued at the tail; purge pending. The start test and the hand-out of the reference follow as R124 and R131 say: the start
test begins a pending purge of a READY or STANDBY zone that is not occupied; the hand-out gives the free reference to the
first queued zone that is steady and not occupied. (The reply codes are log 5's; that a setpoint which stands leaves the
limit and its lowering, and that 24,999 is where a zone without a limit starts, is log 23.) (R107, R109, R110, R111, R112,
R115, R122, R123, R124, R130, R131, R205) -/
def Obligations.ZoneCommandTable : Prop :=
  (∀ (tag : BitVec 16) (z b : Byte) (s : State), s.taken →
    ((b.toNat < 1 ∨ 5 < b.toNat) ∨ s.zoneCount < z.toNat →
      exec (.zoneCommand tag [z, b]) s = .next (s.onlyReplies 0x40#8 tag [0x03#8]))
    ∧ (1 ≤ b.toNat → b.toNat ≤ 5 → z.toNat ≤ s.zoneCount →
      (s.slm.mode = .stopped → exec (.zoneCommand tag [z, b]) s = .next (s.onlyReplies 0x40#8 tag [0x02#8]))
      ∧ (s.slm.mode ≠ .stopped → ∀ act : ZoneAction, ZoneAction.ofCode b = some act →
          let u := s.restartSilence
          let done := u.zoneAction act z.toNat
          let all := (List.range' 1 s.zoneCount).foldl
            (fun acc i => ((acc.1.zoneAction act i).1, acc.2 ++ [(acc.1.zoneAction act i).2.code])) (u, [])
          (z ≠ 0#8 → exec (.zoneCommand tag [z, b]) s = .next (done.1.settle.pushReply 0x40#8 tag
            [if done.2 = .refused then 0x02#8 else 0x00#8, 1#8, done.2.code]))
          ∧ (z = 0#8 → exec (.zoneCommand tag [z, b]) s = .next (all.1.settle.pushReply 0x40#8 tag
            ((if 3#8 ∈ all.2 then 0x02#8 else 0x00#8) :: BitVec.ofNat 8 s.zoneCount :: all.2)))))
    ∧ [1#8, 2#8, 3#8, 4#8, 5#8].map ZoneAction.ofCode
        = [some .warm, some .standby, some .off, some .calibrate, some .purge])
  ∧ (∀ s : State,
    (∀ i, (¬(s.zone i).startsPurge → s.startTest i = s)
      ∧ ∀ k : ZoneReturn, (s.zone i).startsPurge → (s.zone i).state = k.state →
          s.startTest i = s.onZone i fun z => z.purgeStarted k s.clock s.zsv.purgeDuration)
    ∧ (let t := s.startTests
       t = { s with zsv := { s.zsv with zones := t.zsv.zones } }
       ∧ (s.sized → s.zoneCount ≤ 8 → ∀ i,
         (¬(1 ≤ i ∧ i ≤ s.zoneCount ∧ (s.zone i).startsPurge) → t.zone i = s.zone i)
         ∧ ∀ k : ZoneReturn, 1 ≤ i → i ≤ s.zoneCount → (s.zone i).startsPurge → (s.zone i).state = k.state →
             t.zone i = (s.zone i).purgeStarted k s.clock s.zsv.purgeDuration))
    ∧ (∀ r, s.zsv.reference = some r → s.handOut = s)
    ∧ (s.zsv.reference = none → (∀ j ∈ s.zsv.calQueue, ¬(s.zone j).mayCompare) → s.handOut = s)
    ∧ (s.zsv.reference = none → ∀ before i after, s.zsv.calQueue = before ++ i :: after →
        (∀ j ∈ before, ¬(s.zone j).mayCompare) → (s.zone i).mayCompare → ∀ k : ZoneReturn, (s.zone i).state = k.state →
        s.handOut = ({ s with zsv := { s.zsv with
            calQueue := s.zsv.calQueue.filter fun j => j != i
            reference := some
              { zone := i, asked := false, kind := if (s.zone i).calibrated then .short else .long
                deadline := s.clock + if (s.zone i).calibrated then 8000 else 40000 } } } : State).onZone i
          fun z => { z with state := .calibrating, ret := some k, settle := .stopped }))
  ∧ ∀ (act : ZoneAction) (i : Nat) (s : State), s.sized → 1 ≤ i → i ≤ s.zoneCount → i ≤ 8 →
    let old := s.zone i
    let out : Byte := match act, old.state with
      | .warm, .off => if s.zoneProfile = none ∨ (s.station i).state = .lost then 3#8 else 1#8
      | .warm, .warming => 2#8
      | .warm, .ready => 2#8
      | .warm, .standby => 1#8
      | .warm, _ => 3#8
      | .standby, .off => 3#8
      | .standby, .fault => 3#8
      | .standby, .warming => 1#8
      | .standby, .ready => 1#8
      | .standby, .standby => 2#8
      | .standby, _ => if old.ret = some .standby then 2#8 else 1#8
      | .off, .off => 2#8
      | .off, _ => 1#8
      | .calibrate, .off => 3#8
      | .calibrate, .fault => 3#8
      | .calibrate, .calibrating => 2#8
      | .calibrate, _ => 1#8
      | .purge, .off => 3#8
      | .purge, .fault => 3#8
      | .purge, .purging => 2#8
      | .purge, _ => if old.purgePending then 2#8 else 1#8
    let busy : Prop := s.zsv.reference ≠ none ∨ s.zsv.calQueue = []
    let owns : Prop := s.zsv.reference.map RefOwner.zone = some i
    let t := (s.zoneAction act i).1
    (s.zoneAction act i).2.code = out
      ∧ t = { s with zsv := t.zsv }
      ∧ (out ≠ 1#8 → t = s)
      ∧ (busy → ¬owns → ∀ j, j ≠ i → t.zone j = s.zone j)
      ∧ (out = 1#8 →
        let put (z : Zone) : State := s.onZone i fun _ => z
        let takes (k : ZoneReturn) (z : Zone) : Prop :=
          (s.zoneProfile = none → z.setpoint = old.setpoint ∧ z.limit = old.limit ∧ z.lowering = old.lowering)
          ∧ ∀ p, s.zoneProfile = some p →
            Zone.takes p (if k = .standby then (p.setTemp : Int) - p.standbyDrop else p.setTemp) old z
        (act = .warm → ∃ z : Zone, t = (put z).handOut ∧ takes .warming z
          ∧ z = { old with
              state := .warming, setpoint := z.setpoint, limit := z.limit, lowering := z.lowering
              settle := if (put z).insideBand i then .running (s.clock + s.zsv.settleTime) else .stopped
              purgeDeadline :=
                if old.state = .off then some (s.clock + s.zsv.purgeInterval * 1000) else old.purgeDeadline })
        ∧ (act = .standby → old.state = .warming ∨ old.state = .ready → ∃ z : Zone,
          t = ((put z).startTest i).handOut ∧ takes .standby z
          ∧ z = { old with
              state := .standby, settle := .stopped, setpoint := z.setpoint, limit := z.limit, lowering := z.lowering })
        ∧ (act = .standby → old.state = .purging ∨ old.state = .calibrating → ∃ z : Zone, t = put z ∧ takes .standby z
          ∧ z = { old with
              ret := some .standby, setpoint := z.setpoint, limit := z.limit, lowering := z.lowering })
        ∧ (act = .off →
          let gone : Zone := { old with
            state := .off, setpoint := none, limit := none, lowering := false, ret := none, settle := .stopped
            offset := 0, calibrated := false, calLimit := false, faultCause := none, purgeDeadline := none
            purgePending := false, forceTime := none, purgeEnd := none
            corrected := match old.corrected, old.lastRaw with
              | some _, some raw => some (max 0 (min raw 25000))
              | c, _ => c }
          let left (r : Option RefOwner) : State := { put gone with zsv := { (put gone).zsv with
            calQueue := s.zsv.calQueue.filter fun j => j != i, reference := r } }
          (owns → t = (left none).startTests.handOut) ∧ (¬owns → t = left s.zsv.reference))
        ∧ (act = .calibrate →
          (i ∈ s.zsv.calQueue ∨ owns → t = s.handOut)
          ∧ (i ∉ s.zsv.calQueue → ¬owns →
              t = ({ s with zsv := { s.zsv with calQueue := s.zsv.calQueue ++ [i] } } : State).handOut))
        ∧ (act = .purge → t = (put { old with
            purgePending := true, purgeDeadline := some s.clock
            forceTime := some (s.clock + s.zsv.purgeGrace * 1000) }).startTest i)
        ∧ let new := t.zone i
        (act = .warm → busy → new.state = .warming ∧ (∀ p, s.zoneProfile = some p → new.setpoint = some (p.setTemp : Int))
            ∧ new.settle = (if t.insideBand i then .running (s.clock + s.zsv.settleTime) else .stopped)
            ∧ (old.state = .off → new.purgeDeadline = some (s.clock + s.zsv.purgeInterval * 1000)))
        ∧ (act = .standby →
            (∀ p, s.zoneProfile = some p → new.setpoint = some ((p.setTemp : Int) - p.standbyDrop))
            ∧ (old.state = .purging ∨ old.state = .calibrating → new.state = old.state ∧ new.ret = some .standby)
            ∧ (old.state = .warming ∨ old.state = .ready → old.purgePending = true → old.occupied = false →
                new.state = .purging ∧ new.ret = some .standby)
            ∧ (old.state = .warming ∨ old.state = .ready → old.purgePending = false ∨ old.occupied = true → busy →
                new.state = .standby ∧ new.settle = .stopped))
        ∧ (act = .off → new.state = .off ∧ new.setpoint = none ∧ new.limit = none ∧ new.lowering = false ∧ new.offset = 0
            ∧ new.calibrated = false ∧ new.calLimit = false ∧ new.ret = none ∧ new.settle = .stopped
            ∧ new.purgeDeadline = none ∧ new.purgePending = false ∧ new.faultCause = none ∧ new.forceTime = none
            ∧ new.purgeEnd = none ∧ i ∉ t.zsv.calQueue ∧ t.zsv.reference.map RefOwner.zone ≠ some i)
        ∧ (act = .calibrate →
            (i ∈ s.zsv.calQueue ∨ owns → s.zsv.reference ≠ none → t.zsv = s.zsv)
            ∧ (i ∉ s.zsv.calQueue → ¬owns → s.zsv.reference ≠ none →
                t.zsv = { s.zsv with calQueue := s.zsv.calQueue ++ [i] })
            ∧ (s.zsv.reference = none → s.zsv.calQueue = [] → old.state ≠ .purging → old.occupied = false →
                new.state = .calibrating ∧ t.zsv.calQueue = [] ∧ t.zsv.reference = some
                  { zone := i, asked := false, kind := if old.calibrated then .short else .long
                    deadline := s.clock + if old.calibrated then 8000 else 40000 }))
        ∧ (act = .purge →
            ((old.state = .ready ∨ old.state = .standby) ∧ old.occupied = false →
                new.state = .purging ∧ new.purgeEnd = some (s.clock + s.zsv.purgeDuration * 1000)
                ∧ new.purgePending = false)
            ∧ (old.state = .warming ∨ old.state = .calibrating ∨ old.occupied = true →
                new = { old with
                  purgePending := true, purgeDeadline := some s.clock
                  forceTime := some (s.clock + s.zsv.purgeGrace * 1000) })))

/-- SETTLE_EXPIRY makes a calibrated WARMING zone READY, raising ZONE_READY, and another one SETTLED. PURGE_DEADLINE makes
the zone purge pending with its force time, PURGING at once where READY or STANDBY and not occupied. FORCE_TIME begins the
purge whatever occupies the zone, abandoning a calibration, flags the segments over it PURGED and raises PURGE_FORCED.
PURGE_END_TIME returns the zone and sets the next deadline. COMPARE_DEADLINE returns the owner and requeues it.
CALIBRATION_DUE queues the zone, or nothing in OFF, FAULT or CALIBRATING. SEQ then does what is due (nothing in a state that
stands). That the clock reaches the time is log 2. (R113, R121, R122, R124, R125, R127, R129, R130, R131, R133, R134) -/
def Obligations.ZoneTimers : Prop :=
  (∀ t : State, t.seq.mode.stands = true → t.settle = t)
  ∧ ∀ (i : Nat) (s : State), 1 ≤ i → i ≤ 8 → s.sized →
    let z := s.zone i
    let now (e : Nat) : Nat := max s.clock e
    let at_ (e : Nat) : State := { s with clock := max s.clock e }
    let purging (z : Zone) (k : ZoneReturn) (e : Nat) : Zone := z.purgeStarted k (now e) s.zsv.purgeDuration
    ((z.state ≠ .warming ∨ ∀ e, z.settle ≠ .running e) → exec (.settleExpiry i) s = .next s)
    ∧ (∀ e, z.state = .warming → z.settle = .running e →
        (z.calibrated = false →
          exec (.settleExpiry i) s = .next ((at_ e).onZone i fun x => { x with settle := .settled }).settle)
        ∧ (z.calibrated = true → ∃ t : State, exec (.settleExpiry i) s = .next t.settle
            ∧ t = { at_ e with zsv := t.zsv, evu := s.evu.raise .zoneReady }
            ∧ (z.purgePending = false → i ∉ s.zsv.calQueue → t.zone i = { z with state := .ready, settle := .stopped })
            ∧ (z.purgePending = true → z.occupied = false → i ≤ s.zoneCount → (t.zone i).state = .purging)))
    ∧ (z.purgeDeadline = none ∨ z.purgePending = true ∨ z.state = .off ∨ z.state = .fault ∨ z.state = .purging →
        exec (.purgeDeadline i) s = .next s)
    ∧ (∀ d, z.purgeDeadline = some d → z.purgePending = false →
        (z.state = .warming ∨ z.state = .calibrating ∨ ((z.state = .ready ∨ z.state = .standby) ∧ z.occupied = true) →
          exec (.purgeDeadline i) s = .next ((at_ d).onZone i fun x => { x with
            purgeDeadline := some d, purgePending := true
            forceTime := some (d + s.zsv.purgeGrace * 1000) }).settle)
        ∧ (z.occupied = false →
          (z.state = .ready → exec (.purgeDeadline i) s = .next ((at_ d).onZone i fun x => purging x .ready d).settle)
          ∧ (z.state = .standby →
            exec (.purgeDeadline i) s = .next ((at_ d).onZone i fun x => purging x .standby d).settle)))
    ∧ (z.forceTime = none ∨ z.purgePending = false ∨ z.state = .off ∨ z.state = .fault ∨ z.state = .purging →
        exec (.forceTime i) s = .next s)
    ∧ (∀ f k, z.forceTime = some f → z.purgePending = true →
        (z.state = .warming ∧ k = .warming ∨ z.state = .ready ∧ k = .ready ∨ z.state = .standby ∧ k = .standby
          ∨ z.state = .calibrating ∧ z.ret = some k) →
        ∃ t : State, exec (.forceTime i) s = .next t.settle ∧ t.zone i = purging z k f
          ∧ t = { at_ f with
              zsv := t.zsv
              str := { s.str with
                segments := s.str.segments.map fun g =>
                  if s.overlapsZone g i then { g with flags := { g.flags with purged := true } } else g }
              evu := s.evu.raise .purgeForced }
          ∧ (z.state = .calibrating → i ∈ t.zsv.calQueue ∧ t.zsv.reference.map RefOwner.zone ≠ some i))
    ∧ (z.state ≠ .purging ∨ z.purgeEnd = none → exec (.purgeEndTime i) s = .next s)
    ∧ (∀ e k, z.state = .purging → z.purgeEnd = some e → z.ret = some k → ∃ t : State,
        exec (.purgeEndTime i) s = .next t.settle ∧ t = { at_ e with zsv := t.zsv }
        ∧ (i ∉ s.zsv.calQueue ∨ s.zsv.reference ≠ none → t.zone i = { z with
            state := k.state, ret := none, purgeEnd := none
            purgeDeadline := some (now e + s.zsv.purgeInterval * 1000)
            settle := if k = ZoneReturn.warming then
                if t.insideBand i then .running (now e + s.zsv.settleTime) else .stopped
              else z.settle }))
    ∧ (s.zsv.reference = none → exec .compareDeadline s = .next s)
    ∧ (∀ r k, s.zsv.reference = some r → r.zone = i → z.ret = some k → ∃ t : State,
        exec .compareDeadline s = .next t.settle ∧ t = { at_ r.deadline with zsv := t.zsv }
        ∧ (z.occupied = true → i ∉ s.zsv.calQueue → (t.zone i).state = k.state ∧ (t.zone i).ret = none
            ∧ i ∈ t.zsv.calQueue ∧ t.zsv.reference.map RefOwner.zone ≠ some i)
        ∧ (z.occupied = false → z.purgePending = false → s.zsv.calQueue = [] →
            (t.zone i).state = .calibrating ∧ (t.zone i).ret = some k ∧ t.zsv.calQueue = []
            ∧ t.zsv.reference = some { zone := i, asked := false, kind := if z.calibrated then .short else .long
                                       deadline := now r.deadline + if z.calibrated then 8000 else 40000 }))
    ∧ (z.calibrationDue = none → exec (.calibrationDue i) s = .next s)
    ∧ ∀ d, z.calibrationDue = some d →
      let u := (at_ d).onZone i fun x => { x with calibrationDue := none }
      (z.state = .off ∨ z.state = .fault ∨ z.state = .calibrating → exec (.calibrationDue i) s = .next u.settle)
      ∧ (z.state ≠ .off → z.state ≠ .fault → z.state ≠ .calibrating →
        (∀ r, s.zsv.reference = some r → i ∉ s.zsv.calQueue → r.zone ≠ i →
          exec (.calibrationDue i) s = .next
            ({ u with zsv := { u.zsv with calQueue := s.zsv.calQueue ++ [i] } } : State).settle)
        ∧ (s.zsv.reference = none → s.zsv.calQueue = [] → z.state ≠ .purging → z.occupied = false → ∃ t : State,
          exec (.calibrationDue i) s = .next t.settle ∧ (t.zone i).state = .calibrating
          ∧ t.zsv.reference = some { zone := i, asked := false, kind := if z.calibrated then .short else .long
                                     deadline := now d + if z.calibrated then 8000 else 40000 }))

/-- A fresh reading stores the raw reading and the corrected temperature, raw + offset saturated to 0..25,000. A heating zone
above its limit enters FAULT OVERTEMP with no setpoint or limit, ZONE_FAULT raised and the segments over it flagged.
Otherwise the zone keeps its state (unless it asks for its first calibration), a pending lowering is carried out at or below
setpoint + band, and the settle timer of a WARMING zone starts inside the band and stops outside. At MISSING, STALE and LOST
the corrected temperature is absent; at LOST a heating zone enters FAULT STATION. Codes 1 and 2 put a heating zone in FAULT
VALVE_FAULT and PROBE_FAULT; OFF and FAULT zones are not touched by them. (R104, R107, R108, R113, R114, R116, R117, R118) -/
def Obligations.ReadingsActOnZones : Prop :=
  ∀ (i : Nat) (s : State), 1 ≤ i → i ≤ 8 → s.sized →
    let z := s.zone i
    let heats : Prop := z.state ≠ .off ∧ z.state ≠ .fault
    let faults (t : State) (cause : ZoneCause) : Prop :=
      (t.zone i).state = .fault ∧ (t.zone i).faultCause = some cause ∧ (t.zone i).setpoint = none
      ∧ (t.zone i).limit = none ∧ (t.zone i).purgePending = false ∧ (t.zone i).purgeDeadline = none
      ∧ t.zsv.reference.map RefOwner.zone ≠ some i ∧ i ∉ t.zsv.calQueue
      ∧ t = { s with
          zsv := t.zsv
          str := { s.str with
            segments := s.str.segments.map fun g =>
              if s.overlapsZone g i then { g with flags := { g.flags with zoneFault := true } } else g }
          evu := s.evu.raise .zoneFault }
    (∀ raw : Int,
      let c : Int := max 0 (min (raw + z.offset) 25000)
      let t := s.freshReading i raw
      let tooHot : Prop := heats ∧ ∃ l, z.limit = some l ∧ l < c
      (t.zone i).lastRaw = some raw ∧ (t.zone i).corrected = some c
      ∧ (tooHot → faults t .overtemp)
      ∧ (¬tooHot →
          let inside : Prop := (s.station i).condition = .fresh ∧ ∃ sp : Int, z.setpoint = some sp
            ∧ c - sp ≤ s.band ∧ sp - c ≤ s.band
          let cooled (sp : Int) : Prop := z.lowering = true ∧ z.setpoint = some sp ∧ c ≤ sp + s.band
          t = { s with zsv := t.zsv }
          ∧ (∀ sp, cooled sp → (t.zone i).limit = some (sp + 4 * (s.band : Int)) ∧ (t.zone i).lowering = false)
          ∧ ((∀ sp, ¬cooled sp) → (t.zone i).limit = z.limit ∧ (t.zone i).lowering = z.lowering)
          ∧ (z.state ≠ .warming → (t.zone i).state = z.state ∧ (t.zone i).settle = z.settle ∧ t.zsv.calQueue = s.zsv.calQueue)
          ∧ (z.state = .warming → ¬inside → (t.zone i).state = .warming ∧ (t.zone i).settle = .stopped)
          ∧ (z.state = .warming → inside → z.calibrated = true → (t.zone i).state = .warming
              ∧ (t.zone i).settle = if z.settle = .stopped then .running (s.clock + s.zsv.settleTime) else z.settle)
          ∧ (z.state = .warming → inside → z.calibrated = false → s.zsv.reference = none → s.zsv.calQueue = [] →
              z.occupied = false → (t.zone i).state = .calibrating ∧ t.zsv.reference = some
                { zone := i, asked := false, kind := .long, deadline := s.clock + 40000 })
          ∧ (z.state = .warming → inside → z.calibrated = false → s.zsv.reference ≠ none →
              s.zsv.reference.map RefOwner.zone = some i ∨ i ∈ t.zsv.calQueue)))
    ∧ (let gone := s.onZone i fun x => { x with
          corrected := none, settle := if x.state = .warming then .stopped else x.settle }
       s.zoneNotice i .fresh = s ∧ s.zoneNotice i .stale = gone ∧ s.zoneNotice i .missing = gone
       ∧ (¬heats → s.zoneNotice i .lost = gone)
       ∧ (heats → faults (s.zoneNotice i .lost) .station ∧ ((s.zoneNotice i .lost).zone i).corrected = none))
    ∧ (heats → faults (s.zoneCode i 1) .valveFault ∧ faults (s.zoneCode i 2) .probeFault)
    ∧ (¬heats → s.zoneCode i 1 = s ∧ s.zoneCode i 2 = s)
    ∧ ∀ code, code ≠ 1 → code ≠ 2 → s.zoneCode i code = s

/-- Of a response whose status has compare done (bit 7), the reading is taken first. The calibration completes exactly where
the zone owned the reference, had been polled since it was handed to it (log 31), and the reading does not fault it: the
offset is reference - raw, clamped to ±500 with CAL_LIMIT as the clamp acts, the zone is calibrated, its due time is set from
the recalibration interval or absent at 0, its corrected temperature is formed again, it returns, its settle timer anew in
WARMING, CAL_DONE is raised, and the start tests and the hand-out follow, so that a purge that is pending begins in the same
event where the zone returns to READY or STANDBY unoccupied, with no PURGE_FORCED, also where its force time comes with the
response (log 36). In every other case only the reading is taken. A code 1 or 2 comes before or after the reading, which
being a free value where it matters (log 7). (R104, R114, R117, R124, R129, R131, R132, R134, R135) -/
def Obligations.CalibrationCompletes : Prop :=
  ∀ (i : Nat) (s : State) (fresh : Bool) (status : Byte) (raw reference : Int), 1 ≤ i → i ≤ 8 → s.sized →
    let z := s.zone i
    let read := if fresh then s.freshReading i raw else s
    let stands : Prop := ∃ r, s.zsv.reference = some r ∧ r.zone = i ∧ r.asked = true
    let tooHot : Prop := fresh = true ∧ z.state ≠ .off ∧ z.state ≠ .fault
      ∧ ∃ l, z.limit = some l ∧ l < max 0 (min (raw + z.offset) 25000)
    let t := s.zoneReadings i fresh status raw reference
    (status.getLsbD 7 = false ∨ ¬stands ∨ tooHot → t = read)
    ∧ (status.getLsbD 7 = true → stands → ¬tooHot → t = read.completeCalibration i raw reference)
    ∧ (let off := reference - raw
       let clamped : Int := if off < -500 then -500 else if 500 < off then 500 else off
       (∀ k, z.ret = some k →
         let u := s.completeCalibration i raw reference
         let base : Zone := { z with
           state := k.state, ret := none, offset := clamped, calibrated := true
           calLimit := decide (off < -500 ∨ 500 < off)
           corrected := match z.corrected, z.lastRaw with
             | some _, some last => some (max 0 (min (last + clamped) 25000))
             | c, _ => c
           calibrationDue :=
             if s.zsv.recalInterval = 0 then none else some (s.clock + s.zsv.recalInterval * 1000) }
         let back : Zone := { base with
           settle := if k = ZoneReturn.warming then
               if (s.onZone i fun _ => base).insideBand i then .running (s.clock + s.zsv.settleTime) else .stopped
             else z.settle }
         let v := s.onZone i fun _ => back
         u = ({ v with zsv := { v.zsv with reference := none }, evu := s.evu.raise .calDone } : State).startTests.handOut
         ∧ (1 ≤ i → i ≤ s.zoneCount → s.zoneCount ≤ 8 → k ≠ .warming → z.purgePending = true → z.occupied = false →
           u.zone i = back.purgeStarted k s.clock s.zsv.purgeDuration ∧ u.evu = s.evu.raise .calDone))
       ∧ ∀ k, z.ret = some k → i ∉ s.zsv.calQueue → (z.purgePending = false ∨ z.occupied = true) →
        let u := s.completeCalibration i raw reference
        u = { s with zsv := u.zsv, evu := s.evu.raise .calDone }
        ∧ u.zone i = { z with
            state := k.state, ret := none, offset := clamped, calibrated := true
            calLimit := decide (off < -500 ∨ 500 < off)
            corrected := match z.corrected, z.lastRaw with
              | some _, some last => some (max 0 (min (last + clamped) 25000))
              | c, _ => c
            calibrationDue :=
              if s.zsv.recalInterval = 0 then none else some (s.clock + s.zsv.recalInterval * 1000)
            settle := if k = ZoneReturn.warming then
                if u.insideBand i then .running (s.clock + s.zsv.settleTime) else .stopped
              else z.settle }
        ∧ u.zsv.reference.map RefOwner.zone ≠ some i
        ∧ (s.zsv.calQueue = [] → u.zsv.reference = none))
    ∧ ∀ code : Nat,
      let both := s.zoneResponse i fresh code status raw reference
      (code ≠ 1 → code ≠ 2 → both = t)
      ∧ (code = 1 ∨ code = 2 → both = (s.zoneCode i code).zoneReadings i fresh status raw reference
          ∨ both = t.zoneCode i code)

/-- The zone profile switches when the head job's profile is another one and every segment of the zone profile is closed and
past the tunnel exit; otherwise nothing changes. At the switch every heating zone of 1..Z takes the setpoint its state or
return state calls for, its limit as R107 gives: WARMING and READY zones are WARMING with the settle timer anew, STANDBY
stays, a PURGING or CALIBRATING zone with return state STANDBY keeps it and another one returns to WARMING. OFF and FAULT
zones, and the zones above Z, are as they were, and so is all else. (R105, R106, R107, R113) -/
def Obligations.ProfileSwitches : Prop :=
  ∀ s : State,
    ((∀ id, s.headJobProfileId = some id → s.pst.profile id = none) → s.switchTest = s)
    ∧ ∀ id p, s.headJobProfileId = some id → s.pst.profile id = some p →
      let due : Prop := s.zsv.profile ≠ some id
        ∧ ∀ g ∈ s.str.segments, s.zsv.profile = some g.profileId →
            ∃ b1, g.b1 = some b1 ∧ b1 + s.entryDistance + s.tunnel ≤ s.str.belt
      let t := s.switchTest
      let warm : Int := p.setTemp
      let low : Int := (p.setTemp : Int) - p.standbyDrop
      (¬due → t = s)
      ∧ (due →
          t = { s with zsv := { s.zsv with zones := t.zsv.zones, profile := some id } }
          ∧ (∀ i, ¬(1 ≤ i ∧ i ≤ s.zoneCount) → t.zone i = s.zone i)
          ∧ ∀ i, 1 ≤ i → i ≤ s.zoneCount →
            let z := s.zone i
            let new := t.zone i
            let moved : Zone := { z with setpoint := new.setpoint, limit := new.limit, lowering := new.lowering }
            let held (r : ZoneReturn) : Prop := (z.state = .purging ∨ z.state = .calibrating) ∧ z.ret = some r
            (z.state = .off ∨ z.state = .fault → new = z)
            ∧ (z.state = .warming ∨ z.state = .ready → z.aimed p warm new ∧ new = { moved with
                state := .warming
                settle := if t.insideBand i then .running (s.clock + s.zsv.settleTime) else .stopped })
            ∧ (z.state = .standby ∨ held .standby → z.aimed p low new ∧ new = moved)
            ∧ (held .warming ∨ held .ready → z.aimed p warm new ∧ new = { moved with ret := some .warming }))

/-- DECLARE ROLL makes a LOADED unwind READY with its profile, tag and length, after its RANGE, STATE and NO_SUCH checks.
START UNWIND makes a READY unwind ACTIVE, its remaining length the declared one in mm and the head fabric its profile, in
IDLE with the scan running, no change, no ACTIVE unwind and no marks. CHANGE ROLL starts FILLING from the ACTIVE unwind to
the READY other one; it is refused STATE otherwise, and FULL with 4 SPLICEs listed. A change before its splice is REVERTED by
ABORT CHANGE (COMMAND) and by its deadline (TIMEOUT), one after it FAILED by its deadline; CHANGE_ABORT is raised, and ROLL
holds the line where it failed or the old unwind cannot run again. SEQ then does what is due. (That PHASE_DEADLINE finds the
clock at the deadline is log 2.) (R138, R142, R143, R144, R147, R148, R153, R154, R155, R184) -/
def Obligations.RollsChange : Prop :=
  (∀ (u : UnwindId) (tag : BitVec 16) (rest : List Byte) (s : State), s.taken → rest.length = 9 →
    let b : Byte := if u = UnwindId.a then 1#8 else 2#8
    let profile := fieldAt rest 0 1
    let len := fieldAt rest 5 4
    let ok : Prop := 1 ≤ profile ∧ profile ≤ 16 ∧ 1 ≤ len ∧ len ≤ 20000
    let answers (reply : List Byte) : Prop :=
      exec (.declareRoll tag (b :: rest)) s = .next (s.onlyReplies 0x50#8 tag reply)
    (∀ c : Byte, c ≠ 1#8 → c ≠ 2#8 →
      exec (.declareRoll tag (c :: rest)) s = .next (s.onlyReplies 0x50#8 tag [0x03#8]))
    ∧ (¬ok → answers [0x03#8])
    ∧ (ok → (s.rcu.unwind u).state ≠ .loaded → answers [0x02#8])
    ∧ (ok → (s.rcu.unwind u).state = .loaded → s.pst.profile profile = none → answers [0x06#8])
    ∧ (ok → (s.rcu.unwind u).state = .loaded → s.pst.profile profile ≠ none →
        exec (.declareRoll tag (b :: rest)) s = .next (({ s.restartSilence with
          rcu := s.rcu.onUnwind u fun x => { x with
            state := .ready, profileId := some profile, rollTag := some (fieldAt rest 1 4), declared := some len } }
          : State).pushReply 0x50#8 tag [0x00#8])))
  ∧ (∀ (u : UnwindId) (tag : BitVec 16) (s : State), s.taken →
    let b : Byte := if u = UnwindId.a then 1#8 else 2#8
    let refused : Prop := s.slm.mode = .stopped ∨ s.rcu.change ≠ none ∨ s.seq.mode ≠ .idle
      ∨ s.rcu.unwindA.state = .active ∨ s.rcu.unwindB.state = .active ∨ s.wtr.marks ≠ []
      ∨ (s.rcu.unwind u).state ≠ .ready ∨ (s.station u.station).state = .lost
    (∀ c : Byte, c ≠ 1#8 → c ≠ 2#8 → exec (.startUnwind tag [c]) s = .next (s.onlyReplies 0x51#8 tag [0x03#8]))
    ∧ (refused → exec (.startUnwind tag [b]) s = .next (s.onlyReplies 0x51#8 tag [0x02#8]))
    ∧ (¬refused → exec (.startUnwind tag [b]) s = .next (({ s.restartSilence with
        rcu := s.rcu.onUnwind u fun x => { x with
          state := .active, remaining := x.declared.map (· * 1000), lowRaised := false, autoStarted := false }
        wtr := { s.wtr with headFabric := (s.rcu.unwind u).profileId } } : State).pushReply 0x51#8 tag [0x00#8])))
  ∧ (∀ (tag : BitVec 16) (s : State), s.taken →
    let standing (u : UnwindId) : Prop := s.rcu.activeUnwind = some u ∧ (s.rcu.unwind u.other).state = .ready
    let refused : Prop := s.slm.mode = .stopped ∨ s.rcu.change ≠ none ∨ (∀ u, ¬standing u)
      ∨ (∃ n, 9 ≤ n ∧ n ≤ 12 ∧ (s.station n).state = .lost)
    (refused → exec (.changeRoll tag []) s = .next (s.onlyReplies 0x52#8 tag [0x02#8]))
    ∧ (¬refused → 4 ≤ s.wtr.spliceCount → exec (.changeRoll tag []) s = .next (s.onlyReplies 0x52#8 tag [0x05#8]))
    ∧ (¬refused → s.wtr.spliceCount < 4 → ∀ u, standing u →
        exec (.changeRoll tag []) s = .next (({ s.restartSilence with rcu := { s.rcu with
          change := some { phase := .filling, old := u, new := u.other
                           deadline := s.clock + s.rcu.settings.fillingS * 1000, automatic := false } } } : State).pushReply
          0x52#8 tag [0x00#8])))
  ∧ ∀ s : State,
    let runs (c : Change) : Prop := (s.rcu.unwind c.old).state = .active ∧ (s.station c.old.station).state ≠ .lost
    let ended (t : State) (c : Change) (o : ChangeOutcome) (cause : ChangeCause) : Prop :=
      t.rcu = { s.rcu with change := none, outcome := o, outcomePhase := some c.phase, outcomeCause := some cause }
      ∧ t.evu = s.evu.raise .changeAbort
      ∧ t = { s with
          clock := t.clock, hlp := t.hlp, rcu := t.rcu, evu := t.evu
          seq := { s.seq with rollHold := t.seq.rollHold } }
    let early (c : Change) : Prop := c.phase = .filling ∨ c.phase = .stopping ∨ c.phase = .splicing
    (∀ tag : BitVec 16, s.taken →
      ((∀ c, s.rcu.change = some c → ¬early c) →
        exec (.abortChange tag []) s = .next (s.onlyReplies 0x53#8 tag [0x02#8]))
      ∧ (∀ c, s.rcu.change = some c → early c → ∃ t : State,
          exec (.abortChange tag []) s = .next (t.settle.pushReply 0x53#8 tag [0x00#8])
          ∧ ended t c .reverted .command ∧ t.hlp = s.restartSilence.hlp ∧ t.clock = s.clock
          ∧ (runs c → t.seq.rollHold = s.seq.rollHold) ∧ (¬runs c → t.seq.rollHold = true)))
    ∧ (s.rcu.change = none → exec .phaseDeadline s = .next s)
    ∧ ∀ c, s.rcu.change = some c → ∃ t : State, exec .phaseDeadline s = .next t.settle
      ∧ t.hlp = s.hlp ∧ t.clock = max s.clock c.deadline
      ∧ (early c → ended t c .reverted .timeout ∧ (runs c → t.seq.rollHold = s.seq.rollHold)
          ∧ (¬runs c → t.seq.rollHold = true))
      ∧ (¬early c → ended t c .failed .timeout ∧ t.seq.rollHold = true)

/-- A broken change is REVERTED or FAILED as changeBroken says. A condition that is not FRESH makes the run state absent, and
LOST breaks a change (STATION). A run state is stored; STOPPED of the old unwind ends STOPPING, AT_SPEED of the new one ends
RESTARTING with DONE. ROLL_LOADED loads an EMPTY record. ROLL_REMOVED empties a record that is not ACTIVE, breaking a change
whose standby roll it was (REMOVED); of an ACTIVE one it is a ROLL_END: a web end with no change, FAILED and a web end before
the splice or, for the new roll, in RESTARTING (log 30), else nothing. A web end is nothing in IDLE, waits for a motion, and
else ends the work and is FAULT WEB_END (that in the WAIT of WASTE the stay ends at once, with the waste total and the belt
as they were, is the model's choice: log 22). A fresh length is stored for an ACTIVE record, and tries an automatic change:
it starts, or ROLL_LOW is raised once. (R64, R138, R139, R140, R141, R149, R151, R152, R153, R155) -/
def Obligations.UnwindsDeliver : Prop :=
  (∀ (s : State) (cause : ChangeCause), s.breakChange cause = s.changeBroken cause)
  ∧ (∀ (u : UnwindId) (s : State),
    let sets (f : Unwind → Unwind) (t : State) : State := { t with rcu := t.rcu.onUnwind u f }
    let gone := sets (fun x => { x with runState := none }) s
    s.unwindNotice u .fresh = s ∧ s.unwindNotice u .stale = gone ∧ s.unwindNotice u .missing = gone
    ∧ s.unwindNotice u .lost = gone.changeBroken .station
    ∧ (∀ rs : RunState,
      let t := sets (fun x => { x with runState := some rs }) s
      (s.rcu.change = none → s.unwindStatus u rs = t)
      ∧ ∀ c, s.rcu.change = some c →
        let halted : Prop := c.phase = .stopping ∧ c.old = u ∧ rs = .stopped
        let speeds : Prop := c.phase = .restarting ∧ c.new = u ∧ rs = .atSpeed
        (halted → s.unwindStatus u rs = { t with rcu := { t.rcu with
          change := some { c with phase := .splicing, deadline := s.clock + s.rcu.settings.splicingS * 1000 } } })
        ∧ (speeds → s.unwindStatus u rs = { t with
            rcu := { t.rcu with change := none, outcome := .done, outcomePhase := some .restarting, outcomeCause := none }
            evu := s.evu.raise .changeDone })
        ∧ (¬halted → ¬speeds → s.unwindStatus u rs = t))
    ∧ (let x := s.rcu.unwind u
       let emptied (t : State) : State := sets (fun y => { y with
         state := .empty, profileId := none, rollTag := none, declared := none, remaining := none }) t
       (x.state = .empty → s.unwindCode u 1 = sets (fun y => { y with state := .loaded }) s)
       ∧ (x.state ≠ .empty → s.unwindCode u 1 = s)
       ∧ (x.state = .empty → s.unwindCode u 2 = s)
       ∧ (x.state = .loaded ∨ x.state = .spent → s.unwindCode u 2 = emptied s)
       ∧ (x.state = .ready →
          let fromChange : Prop := ∃ c, s.rcu.change = some c ∧ c.new = u ∧ c.phase ≠ .restarting
          (fromChange → s.unwindCode u 2 = emptied (s.changeBroken .removed))
          ∧ (¬fromChange → s.unwindCode u 2 = emptied s))
       ∧ (x.state = .active → s.unwindCode u 2 = s.unwindCode u 3)
       ∧ (x.state ≠ .active → s.unwindCode u 3 = s)
       ∧ (x.state = .active →
          (s.rcu.change = none → s.unwindCode u 3 = s.webEnd)
          ∧ ∀ c, s.rcu.change = some c →
            let early : Prop := c.phase = .filling ∨ c.phase = .stopping ∨ c.phase = .splicing
            let failed (roll : Bool) : State := { s with
              seq := { s.seq with rollHold := roll }
              rcu := { s.rcu with
                change := none, outcome := .failed, outcomePhase := some c.phase, outcomeCause := some .rollEnd }
              evu := s.evu.raise .changeAbort }
            (c.old = u → early → s.unwindCode u 3 = (failed s.seq.rollHold).webEnd)
            ∧ (c.old ≠ u → c.phase = .restarting → s.unwindCode u 3 = (failed true).webEnd)
            ∧ ((c.old = u ∧ ¬early) ∨ (c.old ≠ u ∧ c.phase ≠ .restarting) → s.unwindCode u 3 = s))
       ∧ ∀ code, code ≠ 1 → code ≠ 2 → code ≠ 3 → s.unwindCode u code = s)
    ∧ ∀ remaining : Nat,
      ((s.rcu.unwind u).state ≠ .active → s.unwindReading u remaining = s)
      ∧ (s.rcu.activeUnwind = some u →
        let t := sets (fun x => { x with remaining := some remaining }) s
        let tries : Prop := s.rcu.settings.auto = true ∧ s.rcu.change = none ∧ s.seq.rollHold = false
          ∧ (s.rcu.unwind u).autoStarted = false ∧ remaining ≤ s.rcu.settings.threshold * 1000
        let allowed : Prop := s.slm.mode ≠ .stopped ∧ (s.rcu.unwind u.other).state = .ready
          ∧ (∀ n, 9 ≤ n → n ≤ 12 → (s.station n).state ≠ .lost) ∧ s.wtr.spliceCount < 4
        (¬tries → s.unwindReading u remaining = t)
        ∧ (tries → allowed → s.unwindReading u remaining =
            sets (fun x => { x with autoStarted := true }) { t with rcu := { t.rcu with
              change := some { phase := .filling, old := u, new := u.other
                               deadline := s.clock + s.rcu.settings.fillingS * 1000, automatic := true } } })
        ∧ (tries → ¬allowed →
            ((s.rcu.unwind u).lowRaised = true → s.unwindReading u remaining = t)
            ∧ ((s.rcu.unwind u).lowRaised = false → s.unwindReading u remaining =
                sets (fun x => { x with lowRaised := true }) { t with evu := s.evu.raise .rollLow }))))
  ∧ ∀ s : State,
    (s.seq.mode = .idle → s.webEnd = s)
    ∧ (s.seq.mode.moving = true →
        s.webEnd = { s with seq := { s.seq with ending := { s.seq.ending with webEnd := true } } })
    ∧ (s.seq.mode ≠ .idle → s.seq.mode.moving = false →
        let t := s.webEnd
        t.seq.mode = .fault .webEnd ∧ t.rcu = s.rcu ∧ t.seq.feedTotal = s.seq.feedTotal
        ∧ t.seq.wasteTotal = s.seq.wasteTotal ∧ (s.seq.mode ≠ .fault .webEnd → t.evu.pendingSet.getLsbD 4 = true)
        ∧ (s.seq.openPanel ≠ none → s.panelEnded t false)
        ∧ (s.seq.openPanel = none → t.str = s.str
          ∧ (s.seq.mode.inWaste = false → t.seq.jobs = s.seq.jobs ∧ t.zsv = s.zsv)
          ∧ (s.seq.mode.inWaste = true → t.seq.chunk = none ∧ t.seq.wasteTarget = none
            ∧ ∀ j rest, s.seq.jobs = j :: rest →
              (j.cancelPending = false → t.seq.jobs = s.seq.jobs ∧ t.zsv = s.zsv)
              ∧ (j.cancelPending = true → t.seq.jobs = rest ∧ t.evu.pendingSet.getLsbD 2 = true
                ∧ t.zsv = s.zonesFor rest s.str.segments))))

/-- In SPLICING the status SPLICED makes a SPLICE mark of the new roll's profile at the splice table coordinate, or just
above the highest SPLICE if that is higher, with the splice length in counts as its extent, at its place in the list and
reached if the head is there (log 19: R76 does not name a SPLICE made at or below the head); CUTTING follows. In CUTTING the
status CUT makes an ACTIVE old record SPENT with no remaining length, and the new one ACTIVE with its declared length;
RESTARTING follows. Each phase gets its deadline. Every other status changes nothing. After the status, code JAM (1) breaks
the change, and so does the station's LOST. (That the status is taken before the code is log 15. Both logs are the model's
choices.) (R68, R69, R75, R76, R138, R147, R150, R151, R153, R155) -/
def Obligations.SpliceTableDrives : Prop :=
  ∀ s : State,
    (s.tableNotice .lost = s.changeBroken .station) ∧ (∀ c, c ≠ .lost → s.tableNotice c = s)
    ∧ (∀ (st : TableStatus) (code : Nat),
      s.tableResponse st code = if code = 1 then (s.tableStatus st).changeBroken .jam else s.tableStatus st)
    ∧ (s.rcu.change = none → ∀ st, s.tableStatus st = s)
    ∧ ∀ c, s.rcu.change = some c →
      (∀ st, ¬(c.phase = .splicing ∧ st = .spliced) → ¬(c.phase = .cutting ∧ st = .cut) → s.tableStatus st = s)
      ∧ (c.phase = .splicing → ∀ p, (s.rcu.unwind c.new).profileId = some p →
        let t := s.tableStatus .spliced
        ∃ (x : Int) (before after : List Mark),
          let m : Mark := { kind := .splice p, coord := x, reached := false
                            stop := x + ((s.rcu.settings.spliceLength * s.resolution / 1000 : Nat) : Int) }
          s.wtr.marks = before ++ after ∧ s.marksReached t (before ++ m :: after)
          ∧ (∀ k ∈ before, k.coord < x)
          ∧ (∀ k, after.head? = some k → x < k.coord ∨ (x = k.coord ∧ k.isSplice = false))
          ∧ s.tableCoord ≤ x ∧ (∀ k ∈ s.wtr.marks, k.isSplice = true → k.coord < x)
          ∧ (x = s.tableCoord ∨ ∃ k ∈ s.wtr.marks, k.isSplice = true ∧ x = k.coord + 1)
          ∧ t = { s with
              wtr := { s.wtr with marks := t.wtr.marks, headFabric := t.wtr.headFabric }
              str := t.str
              rcu := { s.rcu with
                change := some { c with phase := .cutting, deadline := s.clock + s.rcu.settings.cuttingS * 1000 } } })
      ∧ (c.phase = .cutting → s.tableStatus .cut = { s with rcu :=
          let spent := s.rcu.onUnwind c.old fun x => if x.state = .active then { x with state := .spent, remaining := none } else x
          { spent.onUnwind c.new (fun x => { x with
              state := .active, remaining := x.declared.map (· * 1000), lowRaised := false, autoStarted := false }) with
            change := some { c with phase := .restarting, deadline := s.clock + s.rcu.settings.restartingS * 1000 } } })

/-- A condition of the accumulator's station is stored; STALE and LOST starve it, and LOST breaks a change (STATION). A fresh
reading stores stock and tension, sets T of a head job (R26), starves at or below the low limit and no longer at or above the
resume level, and ends FILLING at or above the splice level, with STOPPING's deadline. The splice table coordinate follows
the stock. SEQ is held exactly while HOST, STARVED, SILENT, ZONE (a configured zone in FAULT) or ROLL stands, and a held SEQ
takes its hold point at the end of the event and does nothing else. (R26, R43, R44, R66, R145, R146, R149, R153, R155) -/
def Obligations.AccumulatorTaken : Prop :=
  ∀ s : State,
    (∀ c : Condition,
      let t : State := { s with rcu := { s.rcu with acc := { s.rcu.acc with
        station := c, starved := s.rcu.acc.starved || decide (c = .stale ∨ c = .lost) } } }
      (c ≠ .lost → s.accumulatorNotice c = t) ∧ (c = .lost → s.accumulatorNotice c = t.changeBroken .station))
    ∧ (∀ stock tension : Nat,
      let r := s.rcu.settings
      let t := s.accumulatorReading stock tension
      let change : Option Change :=
        match s.rcu.change with
        | none => none
        | some c =>
          if c.phase = .filling ∧ r.spliceLevel ≤ stock then
            some { c with phase := .stopping, deadline := s.clock + r.stoppingS * 1000 }
          else some c
      t = { s.deliverTension tension with rcu := { s.rcu with
        change := change
        acc := { s.rcu.acc with
          stock := stock, tension := some tension
          starved := if stock ≤ r.lowLimit then true else if r.resumeLevel ≤ stock then false else s.rcu.acc.starved } } }
      ∧ t.tableCoord = (s.seq.feedTotal : Int) + ((stock * s.resolution / 1000 : Nat) : Int) + (s.tableOffsetCounts : Int))
    ∧ (s.held = true ↔ s.seq.hostHold = true ∨ s.rcu.acc.starved = true ∨ s.seq.silentHold = true
        ∨ (∃ i ∈ s.zoneNumbers, (s.zone i).state = .fault) ∨ s.seq.rollHold = true)
    ∧ (s.held = true →
        s.settle = { s with seq := { s.seq with mode := s.seq.mode.whenHeld }, evu := s.evu.whenHeld s.seq.mode })

/-- SET SCAN with 7 bytes is refused RANGE for a value out of range, and STATE where it would change the threshold or the
window with the scan not idle, or stop a running scan with SEQ not IDLE, a zone not OFF or a change in progress. Otherwise a
new threshold brings stations 1 to 16 under it, in that order: a LOST station has that many misses, a MISSING one at or above
it becomes LOST, with STATION_LOST raised and its owner told (a zone's corrected temperature and an unwind's run state
absent, the accumulator STARVED, the table through the roll change), and an ONLINE one has none. The values are stored, and
SEQ does what is due, nothing where it is at rest (a WAIT that has run: log 11). Then, with the threshold changed or not,
with the mode not STOPPED and no cycle in progress a cycle starts: the scan number advances, the enabled set is the zones
1..Z, 9..12 and the auxiliaries, and the first station is polled; with the mode STOPPED or a cycle in progress none starts.
TAKE REQUESTS with 1..16 answers the overflow flag and that many of the oldest records and removes them, an emptied queue
clearing the flag. (The threshold in one byte of the payload, and the overflow flag sent as 1 or 0, are log 5.) (R159, R160,
R161, R164, R165, R170, R172, R174, R208) -/
def Obligations.ScanSetRequestsTaken : Prop :=
  (∀ (mode : ScanMode) (tag : BitVec 16) (rest : List Byte) (s : State), s.taken → rest.length = 6 →
    let b : Byte := match mode with
      | .stopped => 1#8
      | .continuous => 2#8
      | .single => 3#8
    let last := fieldAt rest 0 1
    let threshold := fieldAt rest 1 1
    let window := fieldAt rest 2 4
    let ok : Prop := 12 ≤ last ∧ last ≤ 16 ∧ 1 ≤ threshold ∧ threshold ≤ 6 ∧ 50 ≤ window ∧ window ≤ 500
    let scanIdle : Prop := s.slm.mode = .stopped ∧ s.slm.toPoll = []
    let quiet : Prop := s.seq.mode = .idle ∧ (∀ i ∈ s.zoneNumbers, (s.zone i).state = .off) ∧ s.rcu.change = none
    let refused : Prop := ((threshold ≠ s.slm.lossThreshold ∨ window ≠ s.slm.window) ∧ ¬scanIdle)
      ∨ (mode = .stopped ∧ s.slm.mode ≠ .stopped ∧ ¬quiet)
    (∀ c : Byte, c.toNat < 1 ∨ 3 < c.toNat →
      exec (.setScan tag (c :: rest)) s = .next (s.onlyReplies 0x60#8 tag [0x03#8]))
    ∧ (¬ok → exec (.setScan tag (b :: rest)) s = .next (s.onlyReplies 0x60#8 tag [0x03#8]))
    ∧ (ok → refused → exec (.setScan tag (b :: rest)) s = .next (s.onlyReplies 0x60#8 tag [0x02#8]))
    ∧ (ok → ¬refused →
        let does (t : State) : Prop := exec (.setScan tag (b :: rest)) s = .next (t.pushReply 0x60#8 tag [0x00#8])
        let told : State :=
          if threshold = s.slm.lossThreshold then s.restartSilence
          else (List.range' 1 16).foldl (fun u n => u.thresholdTold threshold n)
            { s.restartSilence with slm := { s.slm with lossThreshold := threshold } }
        let stored : State := { told with
          slm := { told.slm with mode := mode, lastStation := last, window := window } }
        let u : State := stored.settle
        let e := List.range' 1 s.zoneCount ++ [9, 10, 11, 12] ++ List.range' 13 (last - 12)
        (s.atRest = true → threshold = s.slm.lossThreshold → u = stored)
        ∧ (mode = .stopped ∨ s.slm.toPoll ≠ [] → does u)
        ∧ (mode ≠ .stopped → s.slm.toPoll = [] → does { u with
            slm := { u.slm with
              scanNumber := (s.slm.scanNumber + 1) % 65536, enabled := e, toPoll := e
              pollFrame := u.pollFrame (e.headD 0) }
            zsv := u.zsv.ask (e.headD 0) })
        ∧ (threshold ≠ s.slm.lossThreshold → s.sized →
            u.slm.lossThreshold = threshold ∧ u.slm.mode = mode ∧ u.slm.lastStation = last ∧ u.slm.window = window
            ∧ ∀ n, 1 ≤ n → n ≤ 16 →
              let st := s.station n
              let lost : Prop := st.state = .missing ∧ threshold ≤ st.misses
              (st.state = .lost → u.station n = { st with misses := threshold })
              ∧ (st.state = .online → u.station n = { st with misses := 0 })
              ∧ (st.state = .missing → st.misses < threshold → u.station n = st)
              ∧ (lost → u.station n = { st with state := .lost, misses := threshold, recovery := 0 }
                  ∧ u.evu.pendingSet.getLsbD 12 = true
                  ∧ (n ≤ s.zoneCount → n ≤ 8 → (u.zone n).corrected = none)
                  ∧ (n = 9 → u.rcu.unwindA.runState = none) ∧ (n = 10 → u.rcu.unwindB.runState = none)
                  ∧ (n = 12 → u.rcu.acc.station = .lost ∧ u.rcu.acc.starved = true)))))
  ∧ ∀ (tag : BitVec 16) (b : Byte) (s : State), s.taken →
    let n := b.toNat
    let given := s.slm.requests.take n
    let left := s.slm.requests.drop n
    (n < 1 ∨ 16 < n → exec (.takeRequests tag [b]) s = .next (s.onlyReplies 0x62#8 tag [0x03#8]))
    ∧ (1 ≤ n → n ≤ 16 → exec (.takeRequests tag [b]) s = .next (({ s.restartSilence with
        slm := { s.slm with requests := left, overflow := s.slm.overflow && !left.isEmpty } } : State).pushReply 0x62#8 tag
        (0x00#8 :: (if s.slm.overflow then 1#8 else 0#8) :: BitVec.ofNat 8 given.length :: given.flatMap fun q =>
          beBytes 1 q.station ++ beBytes 1 q.code ++ beBytes 2 q.scan)))

/-- The poll of station n is its number, its output record and the CRC of both. A zone gets its mode (CLOSED, HEAT, BLOWDOWN,
COMPARE as 1 to 4), its setpoint, absent in OFF and FAULT, and in COMPARE the calibration kind; an unwind RUN (1) where it is
ACTIVE with no ROLL hold and no change, is the old one in FILLING or the new one in RESTARTING (where LINE RESET has made it
SPENT, only after the scan cycle in progress then: log 29), else BRAKE (2), the hold ROLL counting only with no change (logs
32, 33); the splice table PRESS (2) in SPLICING, CUT (3) in CUTTING, else IDLE (1); the accumulator its fill target and
capacity; an auxiliary station nothing. Sending it notes that the owner of the reference has been asked (log 31) and changes
nothing else; after a judged poll the next station of the cycle is polled; the end of a cycle ends that braking. (Codes: log
5.) (R106, R131, R147, R158, R162, R163, R176, R208) -/
def Obligations.PollsCarry : Prop :=
  (∀ (s : State) (n : Nat),
    let z := s.zone n
    let sp : List Byte :=
      match z.setpoint with
      | none => [0xFF#8, 0xFF#8]
      | some t => beInt 2 t
    let runs (u : UnwindId) : Prop :=
      (s.rcu.change = none ∧ (s.rcu.unwind u).state = .active ∧ s.seq.rollHold = false)
      ∨ ∃ c, s.rcu.change = some c ∧ ((c.phase = .filling ∧ c.old = u) ∨ (c.phase = .restarting ∧ c.new = u
        ∧ ¬(s.rcu.brakeSpent = true ∧ (s.rcu.unwind u).state = .spent)))
    let inPhase (p : ChangePhase) : Prop := ∃ c, s.rcu.change = some c ∧ c.phase = p
    let carries (out : List Byte) : Prop :=
      s.pollFrame n = BitVec.ofNat 8 n :: out ++ crcBytes (BitVec.ofNat 8 n :: out)
    (n ≤ 8 →
      (z.state = .off ∨ z.state = .fault → carries [1#8, 0xFF#8, 0xFF#8, 0xFF#8])
      ∧ (z.state = .warming ∨ z.state = .ready ∨ z.state = .standby → carries (2#8 :: sp ++ [0xFF#8]))
      ∧ (z.state = .purging → carries (3#8 :: sp ++ [0xFF#8]))
      ∧ (z.state = .calibrating → ∀ r, s.zsv.reference = some r →
          carries (4#8 :: sp ++ [if r.kind = .long then 1#8 else 2#8])))
    ∧ (n = 9 → (runs .a → carries [1#8]) ∧ (¬runs .a → carries [2#8]))
    ∧ (n = 10 → (runs .b → carries [1#8]) ∧ (¬runs .b → carries [2#8]))
    ∧ (n = 11 → (inPhase .splicing → carries [2#8]) ∧ (inPhase .cutting → carries [3#8])
        ∧ (¬inPhase .splicing → ¬inPhase .cutting → carries [1#8]))
    ∧ (n = 12 →
        let fills (mm : Nat) : Prop := carries (beBytes 4 mm ++ beBytes 4 s.rcu.settings.capacity)
        (inPhase .filling → fills s.rcu.settings.spliceLevel)
        ∧ (s.rcu.change = none ∨ inPhase .restarting → fills s.rcu.settings.resumeLevel)
        ∧ (inPhase .stopping ∨ inPhase .splicing ∨ inPhase .cutting → fills 0))
    ∧ (13 ≤ n → carries []))
  ∧ ∀ s : State,
    (s.slm.toPoll = [] → s.sendPoll = { s with slm := { s.slm with pollFrame := [] } })
    ∧ (∀ n rest, s.slm.toPoll = n :: rest →
      s.sendPoll = { s with
        slm := { s.slm with pollFrame := s.pollFrame n }
        zsv := { s.zsv with reference := s.zsv.reference.map fun r =>
          { r with asked := r.asked || decide (r.zone = n) } } }
      ∧ s.zsv.ask n = s.sendPoll.zsv
      ∧ (rest ≠ [] → s.nextPoll = ({ s with slm := { s.slm with toPoll := rest } } : State).sendPoll)
      ∧ (rest = [] → s.nextPoll.rcu = { s.rcu with brakeSpent := false }))

/-- With no poll outstanding neither event changes anything. An expired window, a wrong CRC, another address or another
length is a miss: the counters advance, stopping at 255; short of the threshold the station is MISSING, at it LOST with
STATION_LOST raised; a LOST one loses its recovery. A good response makes the station ONLINE, a LOST one at its third in a
row; it stores the renewal count, status, readings and code, STALE after 8 unchanged; a new code that is not 0 joins the
request queue with STATION_REQUEST raised, or sets the overflow flag at 32. No other record changes. SEQ then does what is
due. With stations left the next is polled, and the belt stands as SEQ left it; after the last the cycle ends, and the belt,
with each segment's exposure, credit and temperatures, is what the scan completion (DwellAccrued) makes of the state that SEQ
left; the next cycle begins unless the scan stops. (The clauses with no poll outstanding are log 14; that a response too
short to hold a CRC counts as a CRC error is log 18; that the scan completion, a SINGLE scan at its end and the poll sent see
SEQ after what it had due is log 37.) (R91, R161, R163, R165, R166, R167, R168, R169, R170, R171, R173) -/
def Obligations.StationsJudged : Prop :=
  ∀ s : State,
    (s.slm.toPoll = [] → exec .responseWindowExpiry s = .next s ∧ ∀ bytes, exec (.stationResponse bytes) s = .next s)
    ∧ ∀ n rest, s.slm.toPoll = n :: rest → 1 ≤ n → n ≤ 16 → s.sized →
      let st := s.station n
      let others (t : State) : Prop := (∀ k, k ≠ n → t.station k = s.station k) ∧ t.slm.lossThreshold = s.slm.lossThreshold
      let polled (u t : State) : Prop :=
        t.clock = s.clock
        ∧ (rest ≠ [] → t.str = u.str ∧ t.slm.toPoll = rest ∧ t.slm.pollFrame = t.pollFrame (rest.headD 0) ∧ t.slm.mode = s.slm.mode)
        ∧ (rest = [] → t.str = u.scanCompletion.str ∧ t.str.lastAccrual = some s.clock
          ∧ (s.slm.mode = .stopped ∨ (s.slm.mode = .single ∧ t.quiet = true) → t.slm.toPoll = [] ∧ t.slm.mode = .stopped)
          ∧ (s.slm.mode = .continuous ∨ (s.slm.mode = .single ∧ t.quiet = false) → t.slm.mode = .continuous
              ∧ t.slm.toPoll = t.enabledSet ∧ t.slm.scanNumber = (s.slm.scanNumber + 1) % 65536
              ∧ t.slm.pollFrame = t.pollFrame (t.enabledSet.headD 0)))
      let up (k : Nat) : Nat := if k < 255 then k + 1 else k
      let missed (t : State) (crc : Bool) : Prop :=
        let settled : State := ((s.missBooked n crc).told n st.condition).settle
        others t ∧ polled settled t ∧ t.slm.requests = s.slm.requests
        ∧ (let base := { st with missCounter := up st.missCounter, crcErrors := if crc then up st.crcErrors else st.crcErrors }
           (st.state = .lost → t.station n = { base with recovery := 0 })
           ∧ (st.state ≠ .lost → st.misses + 1 < s.slm.lossThreshold →
               t.station n = { base with state := .missing, misses := st.misses + 1 })
           ∧ (st.state ≠ .lost → s.slm.lossThreshold ≤ st.misses + 1 →
               t.station n = { base with state := .lost, misses := s.slm.lossThreshold }
               ∧ t.evu.pendingSet.getLsbD 12 = true))
      (∃ t : State, exec .responseWindowExpiry s = .next t ∧ missed t false)
      ∧ ∀ bytes : List Byte,
        let whole : Prop := crcCorrect bytes = true
        let fits : Prop := (bytes.getD 0 0#8).toNat = n ∧ bytes.length = (roleOf n).responseLength
        let renewal := (bytes.getD 2 0#8).toNat
        let code := (bytes.getD 3 0#8).toNat
        (¬whole → ∃ t : State, exec (.stationResponse bytes) s = .next t ∧ missed t true)
        ∧ (whole → ¬fits → ∃ t : State, exec (.stationResponse bytes) s = .next t ∧ missed t false)
        ∧ (whole → fits → renewal ≤ 15 → ∃ u t : State,
          exec (.stationResponse bytes) s = .next t ∧ t = u.settle.nextPoll.useFree ∧ others t ∧ polled u.settle t
          ∧ t.station n = { st with
              state := if st.state = .lost ∧ st.recovery < 2 then .lost else .online
              misses := if st.state = .lost ∧ st.recovery < 2 then st.misses else 0
              recovery := if st.state = .lost then if st.recovery < 2 then st.recovery + 1 else 0 else st.recovery
              lastRenewal := some renewal
              unchanged := if st.lastRenewal = some renewal then min 8 (st.unchanged + 1) else 0
              stale := if st.lastRenewal = some renewal then st.stale || decide (8 ≤ st.unchanged + 1) else false
              lastCode := code
              lastReading := some { status := bytes.getD 1 0#8, readings := Readings.ofBytes (roleOf n) bytes } }
          ∧ (code = 0 ∨ code = st.lastCode → t.slm.requests = s.slm.requests ∧ t.slm.overflow = s.slm.overflow)
          ∧ (code ≠ 0 → code ≠ st.lastCode →
              (s.slm.requests.length < 32 → t.slm.overflow = s.slm.overflow ∧ t.evu.pendingSet.getLsbD 13 = true
                ∧ t.slm.requests = s.slm.requests ++ [{ station := n, code := code, scan := s.slm.scanNumber }])
              ∧ (32 ≤ s.slm.requests.length → t.slm.requests = s.slm.requests ∧ t.slm.overflow = true)))

/-- A good response is booked (record, request queue), the owner is told of a condition that differs from the one before, and
then the owner takes it: zone n of 1..Z its code, reading and compare done; an unwind its run state, a code that differs from
the last, and a fresh remaining length, in that order (log 15); the splice table its status and JAM; the accumulator a fresh
stock and tension; an auxiliary station hands over nothing. The readings are saturated to their ranges. The last code is then
stored. A miss is booked and the owner told of a changed condition. SEQ does what is due, and the next station is polled.
(Status bytes outside their lists are log 6. That a response too short to hold a CRC counts as a CRC error, and that a zone
above Z is booked and hands over nothing, is log 18. That SEQ does what is due before the next poll or the scan completion is
log 37.) (R163, R167, R168, R170, R171, R173) -/
def Obligations.OwnersTold : Prop :=
  ∀ (n : Nat) (rest : List Nat) (s : State), s.slm.toPoll = n :: rest → 1 ≤ n → n ≤ 16 →
    let before := (s.station n).condition
    (exec .responseWindowExpiry s = .next ((s.missBooked n false).told n before).settle.nextPoll)
    ∧ ∀ bytes : List Byte,
      let goes (u : State) : Prop := exec (.stationResponse bytes) s = .next u.settle.nextPoll.useFree
      let fits : Prop := (bytes.getD 0 0#8).toNat = n ∧ bytes.length = (roleOf n).responseLength
      (crcCorrect bytes = false → goes ((s.missBooked n true).told n before))
      ∧ (crcCorrect bytes = true → ¬fits → goes ((s.missBooked n false).told n before))
      ∧ (crcCorrect bytes = true → fits → (bytes.getD 2 0#8).toNat ≤ 15 →
        let status := bytes.getD 1 0#8
        let code := (bytes.getD 3 0#8).toNat
        let temp (at_ : Nat) : Int := max 0 (min (fieldAtSigned bytes at_ 2) 25000)
        let b := s.booked n
          { status := status, renewal := (bytes.getD 2 0#8).toNat, code := code
            readings := Readings.ofBytes (roleOf n) bytes }
        let fresh : Bool := decide ((b.station n).condition = .fresh)
        let t := b.told n before
        let takes (u : State) : Prop := goes (u.onStation n fun st => { st with lastCode := code })
        let unwind (u : UnwindId) : Prop := ∀ rs : RunState, status = rs.code →
          let v := t.unwindStatus u rs
          let w := if code = (s.station n).lastCode then v else v.unwindCode u code
          takes (if fresh then w.unwindReading u (min (fieldAt bytes 4 4) 20000000) else w)
        (n ≤ 8 → n ≤ s.zoneCount → takes (t.zoneResponse n fresh code status (temp 4) (temp 6)))
        ∧ (n ≤ 8 → s.zoneCount < n → takes t)
        ∧ (n = 9 → unwind .a) ∧ (n = 10 → unwind .b)
        ∧ (n = 11 → ∀ st : TableStatus,
            status = (match st with
              | .ready => 1#8
              | .pressing => 2#8
              | .spliced => 3#8
              | .cutting => 4#8
              | .cut => 5#8) → takes (t.tableResponse st code))
        ∧ (n = 12 → takes (if fresh then
              t.accumulatorReading (min (fieldAt bytes 4 4) 60000) (min (fieldAt bytes 8 2) 10000) else t))
        ∧ (13 ≤ n → takes t))

/-- Over a sound ring, a report written joins the others as the youngest, the oldest going when all eight slots are filled.
RELEASE REPORTS is refused RANGE for a count outside 1..8 or above the filled slots, and MISMATCH with the oldest sequence
where the one given is another; otherwise the oldest reports leave and the reply carries the count left and the oldest
sequence left. TAKE EVENTS answers the pending set and clears the classes named. SET NOTICES replaces the enable set and
answers it and the pending set; a class newly enabled while pending calls for a notice. A class raised becomes pending and
calls for a notice when it is enabled and was not pending. (R177, R179, R180, R182, R184, R185, R186, R187) -/
def Obligations.ReportsAndEvents : Prop :=
  (∀ (r : Report) (s : State), s.ringSound →
    let t := s.writeReport r
    t.evu.reportsInOrder
        = (if s.evu.filled < 8 then s.evu.reportsInOrder else s.evu.reportsInOrder.tail)
            ++ [{ r with sequence := s.evu.nextSeq }]
      ∧ t.ringSound ∧ t = { s with evu := t.evu })
  ∧ (∀ (tag : BitVec 16) (b hi lo : Byte) (s : State), s.taken → s.ringSound →
    let n := b.toNat
    let q := hi.toNat * 256 + lo.toNat
    let seqBytes (l : List Report) : List Byte :=
      match l with
      | [] => [0#8, 0#8, 0#8]
      | r :: _ => 1#8 :: beBytes 2 r.sequence
    let reports := s.evu.reportsInOrder
    let oldest : Prop := reports.head?.map Report.sequence = some q
    (n < 1 ∨ 8 < n ∨ s.evu.filled < n →
      exec (.releaseReports tag [b, hi, lo]) s = .next (s.onlyReplies 0x69#8 tag [0x03#8]))
    ∧ (1 ≤ n → n ≤ 8 → n ≤ s.evu.filled → ¬oldest →
      exec (.releaseReports tag [b, hi, lo]) s = .next (s.onlyReplies 0x69#8 tag (0x0A#8 :: seqBytes reports)))
    ∧ (1 ≤ n → n ≤ 8 → n ≤ s.evu.filled → oldest → ∃ t : State,
        exec (.releaseReports tag [b, hi, lo]) s = .next (t.pushReply 0x69#8 tag
          (0x00#8 :: (beBytes 1 (s.evu.filled - n) ++ seqBytes (reports.drop n))))
        ∧ t = { s.restartSilence with evu := { s.evu with slots := t.evu.slots, filled := s.evu.filled - n } }
        ∧ t.evu.reportsInOrder = reports.drop n ∧ t.ringSound))
  ∧ (∀ (tag : BitVec 16) (hi lo : Byte) (s : State), s.room →
    let set : BitVec 16 := hi ++ lo
    exec (.takeEvents tag [hi, lo]) s = .next (({ s.restartSilence with
      evu := { s.evu with pendingSet := s.evu.pendingSet &&& ~~~set } } : State).pushReply 0x6A#8 tag
        (0x00#8 :: beBytes 2 s.evu.pendingSet.toNat))
    ∧ (s.configured = true → exec (.setNotices tag [hi, lo]) s = .next (({ s.restartSilence with
      evu := { s.evu with
        enables := set
        noticeWanted := s.evu.noticeWanted || decide (set &&& ~~~s.evu.enables &&& s.evu.pendingSet ≠ 0#16) } }
      : State).pushReply 0x6B#8 tag ([0x00#8, hi, lo] ++ beBytes 2 s.evu.pendingSet.toNat))))
  ∧ ∀ (c : EventClass) (s : State),
    let t := s.raise c
    (∀ d : EventClass, t.evu.pendingSet.getLsbD d.bit = (decide (d = c) || s.evu.pendingSet.getLsbD d.bit))
    ∧ (t.evu.noticeWanted = true ↔ s.evu.noticeWanted = true
        ∨ (s.evu.enables.getLsbD c.bit = true ∧ s.evu.pendingSet.getLsbD c.bit = false))

/-- From every state: if panels begun equals reports produced plus segments queued, it does after any step; if the feed
residue is below 10¹², it is after any step; if every VALID pattern names a LOADED profile and every queued job a VALID
pattern, they do after any step. A step is the command at the front of the queue or, with none, what the part's own clock
brings about. (R11, R14, R28, R29, R38, R97, R99) -/
def Obligations.StepKeepsLineSound : Prop :=
  ∀ s t : State, step s = .next t →
    (s.panelsBalance → t.panelsBalance) ∧ (s.residueBounded → t.residueBounded) ∧ (s.jobsSound → t.jobsSound)

/-- From every state: if a zone is CALIBRATING exactly while it owns the reference, then holding a return state, that is so
after any step; if at most one unwind is ACTIVE and a change is between two unwinds, so after any step; if each station's
misses are within the threshold and it is LOST exactly at it, so after any step; if the filled slots of the report ring are
the ones before the write position, so after any step; and the tables keep their sizes. (R103, R129, R131, R138, R156, R166,
R167, R177) -/
def Obligations.StepKeepsUnitsSound : Prop :=
  ∀ s t : State, step s = .next t →
    (s.referenceSound → t.referenceSound) ∧ (s.oneActive → t.oneActive) ∧ (s.stationsSound → t.stationsSound)
      ∧ (s.ringSound → t.ringSound) ∧ (s.sized → t.sized)
end

