-- ==== Sys2Proof/Laws/State.lean ====
section
/-! SUPPORT. What the named updates of the state leave and change: one lemma per field per update, and how two updates of one
block join. -/

namespace Sys2Proof.Machine

/-! ## onPst -/

@[simp] theorem State.onPst_clock (s : State) (f : Pst → Pst) : (s.onPst f).clock = s.clock := rfl
@[simp] theorem State.onPst_line (s : State) (f : Pst → Pst) : (s.onPst f).line = s.line := rfl
@[simp] theorem State.onPst_pst (s : State) (f : Pst → Pst) : (s.onPst f).pst = f s.pst := rfl
@[simp] theorem State.onPst_seq (s : State) (f : Pst → Pst) : (s.onPst f).seq = s.seq := rfl
@[simp] theorem State.onPst_fca (s : State) (f : Pst → Pst) : (s.onPst f).fca = s.fca := rfl
@[simp] theorem State.onPst_wtr (s : State) (f : Pst → Pst) : (s.onPst f).wtr = s.wtr := rfl
@[simp] theorem State.onPst_str (s : State) (f : Pst → Pst) : (s.onPst f).str = s.str := rfl
@[simp] theorem State.onPst_zsv (s : State) (f : Pst → Pst) : (s.onPst f).zsv = s.zsv := rfl
@[simp] theorem State.onPst_slm (s : State) (f : Pst → Pst) : (s.onPst f).slm = s.slm := rfl
@[simp] theorem State.onPst_rcu (s : State) (f : Pst → Pst) : (s.onPst f).rcu = s.rcu := rfl
@[simp] theorem State.onPst_evu (s : State) (f : Pst → Pst) : (s.onPst f).evu = s.evu := rfl
@[simp] theorem State.onPst_hlp (s : State) (f : Pst → Pst) : (s.onPst f).hlp = s.hlp := rfl
@[simp] theorem State.onPst_freeCtr (s : State) (f : Pst → Pst) : (s.onPst f).freeCtr = s.freeCtr := rfl
@[simp] theorem State.onPst_pending (s : State) (f : Pst → Pst) : (s.onPst f).pending = s.pending := rfl
@[simp] theorem State.onPst_onPst (s : State) (f g : Pst → Pst) : (s.onPst f).onPst g = s.onPst fun x => g (f x) := rfl

/-! ## onSeq -/

@[simp] theorem State.onSeq_clock (s : State) (f : Seq → Seq) : (s.onSeq f).clock = s.clock := rfl
@[simp] theorem State.onSeq_line (s : State) (f : Seq → Seq) : (s.onSeq f).line = s.line := rfl
@[simp] theorem State.onSeq_pst (s : State) (f : Seq → Seq) : (s.onSeq f).pst = s.pst := rfl
@[simp] theorem State.onSeq_seq (s : State) (f : Seq → Seq) : (s.onSeq f).seq = f s.seq := rfl
@[simp] theorem State.onSeq_fca (s : State) (f : Seq → Seq) : (s.onSeq f).fca = s.fca := rfl
@[simp] theorem State.onSeq_wtr (s : State) (f : Seq → Seq) : (s.onSeq f).wtr = s.wtr := rfl
@[simp] theorem State.onSeq_str (s : State) (f : Seq → Seq) : (s.onSeq f).str = s.str := rfl
@[simp] theorem State.onSeq_zsv (s : State) (f : Seq → Seq) : (s.onSeq f).zsv = s.zsv := rfl
@[simp] theorem State.onSeq_slm (s : State) (f : Seq → Seq) : (s.onSeq f).slm = s.slm := rfl
@[simp] theorem State.onSeq_rcu (s : State) (f : Seq → Seq) : (s.onSeq f).rcu = s.rcu := rfl
@[simp] theorem State.onSeq_evu (s : State) (f : Seq → Seq) : (s.onSeq f).evu = s.evu := rfl
@[simp] theorem State.onSeq_hlp (s : State) (f : Seq → Seq) : (s.onSeq f).hlp = s.hlp := rfl
@[simp] theorem State.onSeq_freeCtr (s : State) (f : Seq → Seq) : (s.onSeq f).freeCtr = s.freeCtr := rfl
@[simp] theorem State.onSeq_pending (s : State) (f : Seq → Seq) : (s.onSeq f).pending = s.pending := rfl
@[simp] theorem State.onSeq_onSeq (s : State) (f g : Seq → Seq) : (s.onSeq f).onSeq g = s.onSeq fun x => g (f x) := rfl

/-! ## onFca -/

@[simp] theorem State.onFca_clock (s : State) (f : Fca → Fca) : (s.onFca f).clock = s.clock := rfl
@[simp] theorem State.onFca_line (s : State) (f : Fca → Fca) : (s.onFca f).line = s.line := rfl
@[simp] theorem State.onFca_pst (s : State) (f : Fca → Fca) : (s.onFca f).pst = s.pst := rfl
@[simp] theorem State.onFca_seq (s : State) (f : Fca → Fca) : (s.onFca f).seq = s.seq := rfl
@[simp] theorem State.onFca_fca (s : State) (f : Fca → Fca) : (s.onFca f).fca = f s.fca := rfl
@[simp] theorem State.onFca_wtr (s : State) (f : Fca → Fca) : (s.onFca f).wtr = s.wtr := rfl
@[simp] theorem State.onFca_str (s : State) (f : Fca → Fca) : (s.onFca f).str = s.str := rfl
@[simp] theorem State.onFca_zsv (s : State) (f : Fca → Fca) : (s.onFca f).zsv = s.zsv := rfl
@[simp] theorem State.onFca_slm (s : State) (f : Fca → Fca) : (s.onFca f).slm = s.slm := rfl
@[simp] theorem State.onFca_rcu (s : State) (f : Fca → Fca) : (s.onFca f).rcu = s.rcu := rfl
@[simp] theorem State.onFca_evu (s : State) (f : Fca → Fca) : (s.onFca f).evu = s.evu := rfl
@[simp] theorem State.onFca_hlp (s : State) (f : Fca → Fca) : (s.onFca f).hlp = s.hlp := rfl
@[simp] theorem State.onFca_freeCtr (s : State) (f : Fca → Fca) : (s.onFca f).freeCtr = s.freeCtr := rfl
@[simp] theorem State.onFca_pending (s : State) (f : Fca → Fca) : (s.onFca f).pending = s.pending := rfl
@[simp] theorem State.onFca_onFca (s : State) (f g : Fca → Fca) : (s.onFca f).onFca g = s.onFca fun x => g (f x) := rfl

/-! ## onWtr -/

@[simp] theorem State.onWtr_clock (s : State) (f : Wtr → Wtr) : (s.onWtr f).clock = s.clock := rfl
@[simp] theorem State.onWtr_line (s : State) (f : Wtr → Wtr) : (s.onWtr f).line = s.line := rfl
@[simp] theorem State.onWtr_pst (s : State) (f : Wtr → Wtr) : (s.onWtr f).pst = s.pst := rfl
@[simp] theorem State.onWtr_seq (s : State) (f : Wtr → Wtr) : (s.onWtr f).seq = s.seq := rfl
@[simp] theorem State.onWtr_fca (s : State) (f : Wtr → Wtr) : (s.onWtr f).fca = s.fca := rfl
@[simp] theorem State.onWtr_wtr (s : State) (f : Wtr → Wtr) : (s.onWtr f).wtr = f s.wtr := rfl
@[simp] theorem State.onWtr_str (s : State) (f : Wtr → Wtr) : (s.onWtr f).str = s.str := rfl
@[simp] theorem State.onWtr_zsv (s : State) (f : Wtr → Wtr) : (s.onWtr f).zsv = s.zsv := rfl
@[simp] theorem State.onWtr_slm (s : State) (f : Wtr → Wtr) : (s.onWtr f).slm = s.slm := rfl
@[simp] theorem State.onWtr_rcu (s : State) (f : Wtr → Wtr) : (s.onWtr f).rcu = s.rcu := rfl
@[simp] theorem State.onWtr_evu (s : State) (f : Wtr → Wtr) : (s.onWtr f).evu = s.evu := rfl
@[simp] theorem State.onWtr_hlp (s : State) (f : Wtr → Wtr) : (s.onWtr f).hlp = s.hlp := rfl
@[simp] theorem State.onWtr_freeCtr (s : State) (f : Wtr → Wtr) : (s.onWtr f).freeCtr = s.freeCtr := rfl
@[simp] theorem State.onWtr_pending (s : State) (f : Wtr → Wtr) : (s.onWtr f).pending = s.pending := rfl
@[simp] theorem State.onWtr_onWtr (s : State) (f g : Wtr → Wtr) : (s.onWtr f).onWtr g = s.onWtr fun x => g (f x) := rfl

/-! ## onStr -/

@[simp] theorem State.onStr_clock (s : State) (f : Str → Str) : (s.onStr f).clock = s.clock := rfl
@[simp] theorem State.onStr_line (s : State) (f : Str → Str) : (s.onStr f).line = s.line := rfl
@[simp] theorem State.onStr_pst (s : State) (f : Str → Str) : (s.onStr f).pst = s.pst := rfl
@[simp] theorem State.onStr_seq (s : State) (f : Str → Str) : (s.onStr f).seq = s.seq := rfl
@[simp] theorem State.onStr_fca (s : State) (f : Str → Str) : (s.onStr f).fca = s.fca := rfl
@[simp] theorem State.onStr_wtr (s : State) (f : Str → Str) : (s.onStr f).wtr = s.wtr := rfl
@[simp] theorem State.onStr_str (s : State) (f : Str → Str) : (s.onStr f).str = f s.str := rfl
@[simp] theorem State.onStr_zsv (s : State) (f : Str → Str) : (s.onStr f).zsv = s.zsv := rfl
@[simp] theorem State.onStr_slm (s : State) (f : Str → Str) : (s.onStr f).slm = s.slm := rfl
@[simp] theorem State.onStr_rcu (s : State) (f : Str → Str) : (s.onStr f).rcu = s.rcu := rfl
@[simp] theorem State.onStr_evu (s : State) (f : Str → Str) : (s.onStr f).evu = s.evu := rfl
@[simp] theorem State.onStr_hlp (s : State) (f : Str → Str) : (s.onStr f).hlp = s.hlp := rfl
@[simp] theorem State.onStr_freeCtr (s : State) (f : Str → Str) : (s.onStr f).freeCtr = s.freeCtr := rfl
@[simp] theorem State.onStr_pending (s : State) (f : Str → Str) : (s.onStr f).pending = s.pending := rfl
@[simp] theorem State.onStr_onStr (s : State) (f g : Str → Str) : (s.onStr f).onStr g = s.onStr fun x => g (f x) := rfl

/-! ## onZsv -/

@[simp] theorem State.onZsv_clock (s : State) (f : Zsv → Zsv) : (s.onZsv f).clock = s.clock := rfl
@[simp] theorem State.onZsv_line (s : State) (f : Zsv → Zsv) : (s.onZsv f).line = s.line := rfl
@[simp] theorem State.onZsv_pst (s : State) (f : Zsv → Zsv) : (s.onZsv f).pst = s.pst := rfl
@[simp] theorem State.onZsv_seq (s : State) (f : Zsv → Zsv) : (s.onZsv f).seq = s.seq := rfl
@[simp] theorem State.onZsv_fca (s : State) (f : Zsv → Zsv) : (s.onZsv f).fca = s.fca := rfl
@[simp] theorem State.onZsv_wtr (s : State) (f : Zsv → Zsv) : (s.onZsv f).wtr = s.wtr := rfl
@[simp] theorem State.onZsv_str (s : State) (f : Zsv → Zsv) : (s.onZsv f).str = s.str := rfl
@[simp] theorem State.onZsv_zsv (s : State) (f : Zsv → Zsv) : (s.onZsv f).zsv = f s.zsv := rfl
@[simp] theorem State.onZsv_slm (s : State) (f : Zsv → Zsv) : (s.onZsv f).slm = s.slm := rfl
@[simp] theorem State.onZsv_rcu (s : State) (f : Zsv → Zsv) : (s.onZsv f).rcu = s.rcu := rfl
@[simp] theorem State.onZsv_evu (s : State) (f : Zsv → Zsv) : (s.onZsv f).evu = s.evu := rfl
@[simp] theorem State.onZsv_hlp (s : State) (f : Zsv → Zsv) : (s.onZsv f).hlp = s.hlp := rfl
@[simp] theorem State.onZsv_freeCtr (s : State) (f : Zsv → Zsv) : (s.onZsv f).freeCtr = s.freeCtr := rfl
@[simp] theorem State.onZsv_pending (s : State) (f : Zsv → Zsv) : (s.onZsv f).pending = s.pending := rfl
@[simp] theorem State.onZsv_onZsv (s : State) (f g : Zsv → Zsv) : (s.onZsv f).onZsv g = s.onZsv fun x => g (f x) := rfl

/-! ## onSlm -/

@[simp] theorem State.onSlm_clock (s : State) (f : Slm → Slm) : (s.onSlm f).clock = s.clock := rfl
@[simp] theorem State.onSlm_line (s : State) (f : Slm → Slm) : (s.onSlm f).line = s.line := rfl
@[simp] theorem State.onSlm_pst (s : State) (f : Slm → Slm) : (s.onSlm f).pst = s.pst := rfl
@[simp] theorem State.onSlm_seq (s : State) (f : Slm → Slm) : (s.onSlm f).seq = s.seq := rfl
@[simp] theorem State.onSlm_fca (s : State) (f : Slm → Slm) : (s.onSlm f).fca = s.fca := rfl
@[simp] theorem State.onSlm_wtr (s : State) (f : Slm → Slm) : (s.onSlm f).wtr = s.wtr := rfl
@[simp] theorem State.onSlm_str (s : State) (f : Slm → Slm) : (s.onSlm f).str = s.str := rfl
@[simp] theorem State.onSlm_zsv (s : State) (f : Slm → Slm) : (s.onSlm f).zsv = s.zsv := rfl
@[simp] theorem State.onSlm_slm (s : State) (f : Slm → Slm) : (s.onSlm f).slm = f s.slm := rfl
@[simp] theorem State.onSlm_rcu (s : State) (f : Slm → Slm) : (s.onSlm f).rcu = s.rcu := rfl
@[simp] theorem State.onSlm_evu (s : State) (f : Slm → Slm) : (s.onSlm f).evu = s.evu := rfl
@[simp] theorem State.onSlm_hlp (s : State) (f : Slm → Slm) : (s.onSlm f).hlp = s.hlp := rfl
@[simp] theorem State.onSlm_freeCtr (s : State) (f : Slm → Slm) : (s.onSlm f).freeCtr = s.freeCtr := rfl
@[simp] theorem State.onSlm_pending (s : State) (f : Slm → Slm) : (s.onSlm f).pending = s.pending := rfl
@[simp] theorem State.onSlm_onSlm (s : State) (f g : Slm → Slm) : (s.onSlm f).onSlm g = s.onSlm fun x => g (f x) := rfl

/-! ## onRcu -/

@[simp] theorem State.onRcu_clock (s : State) (f : Rcu → Rcu) : (s.onRcu f).clock = s.clock := rfl
@[simp] theorem State.onRcu_line (s : State) (f : Rcu → Rcu) : (s.onRcu f).line = s.line := rfl
@[simp] theorem State.onRcu_pst (s : State) (f : Rcu → Rcu) : (s.onRcu f).pst = s.pst := rfl
@[simp] theorem State.onRcu_seq (s : State) (f : Rcu → Rcu) : (s.onRcu f).seq = s.seq := rfl
@[simp] theorem State.onRcu_fca (s : State) (f : Rcu → Rcu) : (s.onRcu f).fca = s.fca := rfl
@[simp] theorem State.onRcu_wtr (s : State) (f : Rcu → Rcu) : (s.onRcu f).wtr = s.wtr := rfl
@[simp] theorem State.onRcu_str (s : State) (f : Rcu → Rcu) : (s.onRcu f).str = s.str := rfl
@[simp] theorem State.onRcu_zsv (s : State) (f : Rcu → Rcu) : (s.onRcu f).zsv = s.zsv := rfl
@[simp] theorem State.onRcu_slm (s : State) (f : Rcu → Rcu) : (s.onRcu f).slm = s.slm := rfl
@[simp] theorem State.onRcu_rcu (s : State) (f : Rcu → Rcu) : (s.onRcu f).rcu = f s.rcu := rfl
@[simp] theorem State.onRcu_evu (s : State) (f : Rcu → Rcu) : (s.onRcu f).evu = s.evu := rfl
@[simp] theorem State.onRcu_hlp (s : State) (f : Rcu → Rcu) : (s.onRcu f).hlp = s.hlp := rfl
@[simp] theorem State.onRcu_freeCtr (s : State) (f : Rcu → Rcu) : (s.onRcu f).freeCtr = s.freeCtr := rfl
@[simp] theorem State.onRcu_pending (s : State) (f : Rcu → Rcu) : (s.onRcu f).pending = s.pending := rfl
@[simp] theorem State.onRcu_onRcu (s : State) (f g : Rcu → Rcu) : (s.onRcu f).onRcu g = s.onRcu fun x => g (f x) := rfl

/-! ## onEvu -/

@[simp] theorem State.onEvu_clock (s : State) (f : Evu → Evu) : (s.onEvu f).clock = s.clock := rfl
@[simp] theorem State.onEvu_line (s : State) (f : Evu → Evu) : (s.onEvu f).line = s.line := rfl
@[simp] theorem State.onEvu_pst (s : State) (f : Evu → Evu) : (s.onEvu f).pst = s.pst := rfl
@[simp] theorem State.onEvu_seq (s : State) (f : Evu → Evu) : (s.onEvu f).seq = s.seq := rfl
@[simp] theorem State.onEvu_fca (s : State) (f : Evu → Evu) : (s.onEvu f).fca = s.fca := rfl
@[simp] theorem State.onEvu_wtr (s : State) (f : Evu → Evu) : (s.onEvu f).wtr = s.wtr := rfl
@[simp] theorem State.onEvu_str (s : State) (f : Evu → Evu) : (s.onEvu f).str = s.str := rfl
@[simp] theorem State.onEvu_zsv (s : State) (f : Evu → Evu) : (s.onEvu f).zsv = s.zsv := rfl
@[simp] theorem State.onEvu_slm (s : State) (f : Evu → Evu) : (s.onEvu f).slm = s.slm := rfl
@[simp] theorem State.onEvu_rcu (s : State) (f : Evu → Evu) : (s.onEvu f).rcu = s.rcu := rfl
@[simp] theorem State.onEvu_evu (s : State) (f : Evu → Evu) : (s.onEvu f).evu = f s.evu := rfl
@[simp] theorem State.onEvu_hlp (s : State) (f : Evu → Evu) : (s.onEvu f).hlp = s.hlp := rfl
@[simp] theorem State.onEvu_freeCtr (s : State) (f : Evu → Evu) : (s.onEvu f).freeCtr = s.freeCtr := rfl
@[simp] theorem State.onEvu_pending (s : State) (f : Evu → Evu) : (s.onEvu f).pending = s.pending := rfl
@[simp] theorem State.onEvu_onEvu (s : State) (f g : Evu → Evu) : (s.onEvu f).onEvu g = s.onEvu fun x => g (f x) := rfl

/-! ## onHlp -/

@[simp] theorem State.onHlp_clock (s : State) (f : Hlp → Hlp) : (s.onHlp f).clock = s.clock := rfl
@[simp] theorem State.onHlp_line (s : State) (f : Hlp → Hlp) : (s.onHlp f).line = s.line := rfl
@[simp] theorem State.onHlp_pst (s : State) (f : Hlp → Hlp) : (s.onHlp f).pst = s.pst := rfl
@[simp] theorem State.onHlp_seq (s : State) (f : Hlp → Hlp) : (s.onHlp f).seq = s.seq := rfl
@[simp] theorem State.onHlp_fca (s : State) (f : Hlp → Hlp) : (s.onHlp f).fca = s.fca := rfl
@[simp] theorem State.onHlp_wtr (s : State) (f : Hlp → Hlp) : (s.onHlp f).wtr = s.wtr := rfl
@[simp] theorem State.onHlp_str (s : State) (f : Hlp → Hlp) : (s.onHlp f).str = s.str := rfl
@[simp] theorem State.onHlp_zsv (s : State) (f : Hlp → Hlp) : (s.onHlp f).zsv = s.zsv := rfl
@[simp] theorem State.onHlp_slm (s : State) (f : Hlp → Hlp) : (s.onHlp f).slm = s.slm := rfl
@[simp] theorem State.onHlp_rcu (s : State) (f : Hlp → Hlp) : (s.onHlp f).rcu = s.rcu := rfl
@[simp] theorem State.onHlp_evu (s : State) (f : Hlp → Hlp) : (s.onHlp f).evu = s.evu := rfl
@[simp] theorem State.onHlp_hlp (s : State) (f : Hlp → Hlp) : (s.onHlp f).hlp = f s.hlp := rfl
@[simp] theorem State.onHlp_freeCtr (s : State) (f : Hlp → Hlp) : (s.onHlp f).freeCtr = s.freeCtr := rfl
@[simp] theorem State.onHlp_pending (s : State) (f : Hlp → Hlp) : (s.onHlp f).pending = s.pending := rfl
@[simp] theorem State.onHlp_onHlp (s : State) (f g : Hlp → Hlp) : (s.onHlp f).onHlp g = s.onHlp fun x => g (f x) := rfl

/-! ## useFree -/

@[simp] theorem State.useFree_clock (s : State) : (s.useFree).clock = s.clock := rfl
@[simp] theorem State.useFree_line (s : State) : (s.useFree).line = s.line := rfl
@[simp] theorem State.useFree_pst (s : State) : (s.useFree).pst = s.pst := rfl
@[simp] theorem State.useFree_seq (s : State) : (s.useFree).seq = s.seq := rfl
@[simp] theorem State.useFree_fca (s : State) : (s.useFree).fca = s.fca := rfl
@[simp] theorem State.useFree_wtr (s : State) : (s.useFree).wtr = s.wtr := rfl
@[simp] theorem State.useFree_str (s : State) : (s.useFree).str = s.str := rfl
@[simp] theorem State.useFree_zsv (s : State) : (s.useFree).zsv = s.zsv := rfl
@[simp] theorem State.useFree_slm (s : State) : (s.useFree).slm = s.slm := rfl
@[simp] theorem State.useFree_rcu (s : State) : (s.useFree).rcu = s.rcu := rfl
@[simp] theorem State.useFree_evu (s : State) : (s.useFree).evu = s.evu := rfl
@[simp] theorem State.useFree_hlp (s : State) : (s.useFree).hlp = s.hlp := rfl
@[simp] theorem State.useFree_freeCtr (s : State) : (s.useFree).freeCtr = s.freeCtr + 1 := rfl
@[simp] theorem State.useFree_pending (s : State) : (s.useFree).pending = s.pending := rfl

/-! ## reach -/

@[simp] theorem State.reach_clock (s : State) (time : Nat) : (s.reach time).clock = max s.clock time := rfl
@[simp] theorem State.reach_line (s : State) (time : Nat) : (s.reach time).line = s.line := rfl
@[simp] theorem State.reach_pst (s : State) (time : Nat) : (s.reach time).pst = s.pst := rfl
@[simp] theorem State.reach_seq (s : State) (time : Nat) : (s.reach time).seq = s.seq := rfl
@[simp] theorem State.reach_fca (s : State) (time : Nat) : (s.reach time).fca = s.fca := rfl
@[simp] theorem State.reach_wtr (s : State) (time : Nat) : (s.reach time).wtr = s.wtr := rfl
@[simp] theorem State.reach_str (s : State) (time : Nat) : (s.reach time).str = s.str := rfl
@[simp] theorem State.reach_zsv (s : State) (time : Nat) : (s.reach time).zsv = s.zsv := rfl
@[simp] theorem State.reach_slm (s : State) (time : Nat) : (s.reach time).slm = s.slm := rfl
@[simp] theorem State.reach_rcu (s : State) (time : Nat) : (s.reach time).rcu = s.rcu := rfl
@[simp] theorem State.reach_evu (s : State) (time : Nat) : (s.reach time).evu = s.evu := rfl
@[simp] theorem State.reach_hlp (s : State) (time : Nat) : (s.reach time).hlp = s.hlp := rfl
@[simp] theorem State.reach_freeCtr (s : State) (time : Nat) : (s.reach time).freeCtr = s.freeCtr := rfl
@[simp] theorem State.reach_pending (s : State) (time : Nat) : (s.reach time).pending = s.pending := rfl

/-! ## raise -/

@[simp] theorem State.raise_clock (s : State) (c : EventClass) : (s.raise c).clock = s.clock := rfl
@[simp] theorem State.raise_line (s : State) (c : EventClass) : (s.raise c).line = s.line := rfl
@[simp] theorem State.raise_pst (s : State) (c : EventClass) : (s.raise c).pst = s.pst := rfl
@[simp] theorem State.raise_seq (s : State) (c : EventClass) : (s.raise c).seq = s.seq := rfl
@[simp] theorem State.raise_fca (s : State) (c : EventClass) : (s.raise c).fca = s.fca := rfl
@[simp] theorem State.raise_wtr (s : State) (c : EventClass) : (s.raise c).wtr = s.wtr := rfl
@[simp] theorem State.raise_str (s : State) (c : EventClass) : (s.raise c).str = s.str := rfl
@[simp] theorem State.raise_zsv (s : State) (c : EventClass) : (s.raise c).zsv = s.zsv := rfl
@[simp] theorem State.raise_slm (s : State) (c : EventClass) : (s.raise c).slm = s.slm := rfl
@[simp] theorem State.raise_rcu (s : State) (c : EventClass) : (s.raise c).rcu = s.rcu := rfl
@[simp] theorem State.raise_evu (s : State) (c : EventClass) : (s.raise c).evu = s.evu.raise c := rfl
@[simp] theorem State.raise_hlp (s : State) (c : EventClass) : (s.raise c).hlp = s.hlp := rfl
@[simp] theorem State.raise_freeCtr (s : State) (c : EventClass) : (s.raise c).freeCtr = s.freeCtr := rfl
@[simp] theorem State.raise_pending (s : State) (c : EventClass) : (s.raise c).pending = s.pending := rfl

/-! ## onZone -/

@[simp] theorem State.onZone_clock (s : State) (i : Nat) (f : Zone → Zone) : (s.onZone i f).clock = s.clock := rfl
@[simp] theorem State.onZone_line (s : State) (i : Nat) (f : Zone → Zone) : (s.onZone i f).line = s.line := rfl
@[simp] theorem State.onZone_pst (s : State) (i : Nat) (f : Zone → Zone) : (s.onZone i f).pst = s.pst := rfl
@[simp] theorem State.onZone_seq (s : State) (i : Nat) (f : Zone → Zone) : (s.onZone i f).seq = s.seq := rfl
@[simp] theorem State.onZone_fca (s : State) (i : Nat) (f : Zone → Zone) : (s.onZone i f).fca = s.fca := rfl
@[simp] theorem State.onZone_wtr (s : State) (i : Nat) (f : Zone → Zone) : (s.onZone i f).wtr = s.wtr := rfl
@[simp] theorem State.onZone_str (s : State) (i : Nat) (f : Zone → Zone) : (s.onZone i f).str = s.str := rfl
@[simp] theorem State.onZone_zsv (s : State) (i : Nat) (f : Zone → Zone) :
    (s.onZone i f).zsv = { s.zsv with zones := modifyAt s.zsv.zones i f } := rfl
@[simp] theorem State.onZone_slm (s : State) (i : Nat) (f : Zone → Zone) : (s.onZone i f).slm = s.slm := rfl
@[simp] theorem State.onZone_rcu (s : State) (i : Nat) (f : Zone → Zone) : (s.onZone i f).rcu = s.rcu := rfl
@[simp] theorem State.onZone_evu (s : State) (i : Nat) (f : Zone → Zone) : (s.onZone i f).evu = s.evu := rfl
@[simp] theorem State.onZone_hlp (s : State) (i : Nat) (f : Zone → Zone) : (s.onZone i f).hlp = s.hlp := rfl
@[simp] theorem State.onZone_freeCtr (s : State) (i : Nat) (f : Zone → Zone) : (s.onZone i f).freeCtr = s.freeCtr := rfl
@[simp] theorem State.onZone_pending (s : State) (i : Nat) (f : Zone → Zone) : (s.onZone i f).pending = s.pending := rfl

/-! ## onStation -/

@[simp] theorem State.onStation_clock (s : State) (n : Nat) (f : Station → Station) :
    (s.onStation n f).clock = s.clock := rfl
@[simp] theorem State.onStation_line (s : State) (n : Nat) (f : Station → Station) : (s.onStation n f).line = s.line := rfl
@[simp] theorem State.onStation_pst (s : State) (n : Nat) (f : Station → Station) : (s.onStation n f).pst = s.pst := rfl
@[simp] theorem State.onStation_seq (s : State) (n : Nat) (f : Station → Station) : (s.onStation n f).seq = s.seq := rfl
@[simp] theorem State.onStation_fca (s : State) (n : Nat) (f : Station → Station) : (s.onStation n f).fca = s.fca := rfl
@[simp] theorem State.onStation_wtr (s : State) (n : Nat) (f : Station → Station) : (s.onStation n f).wtr = s.wtr := rfl
@[simp] theorem State.onStation_str (s : State) (n : Nat) (f : Station → Station) : (s.onStation n f).str = s.str := rfl
@[simp] theorem State.onStation_zsv (s : State) (n : Nat) (f : Station → Station) : (s.onStation n f).zsv = s.zsv := rfl
@[simp] theorem State.onStation_slm (s : State) (n : Nat) (f : Station → Station) :
    (s.onStation n f).slm = { s.slm with stations := modifyAt s.slm.stations n f } := rfl
@[simp] theorem State.onStation_rcu (s : State) (n : Nat) (f : Station → Station) : (s.onStation n f).rcu = s.rcu := rfl
@[simp] theorem State.onStation_evu (s : State) (n : Nat) (f : Station → Station) : (s.onStation n f).evu = s.evu := rfl
@[simp] theorem State.onStation_hlp (s : State) (n : Nat) (f : Station → Station) : (s.onStation n f).hlp = s.hlp := rfl
@[simp] theorem State.onStation_freeCtr (s : State) (n : Nat) (f : Station → Station) :
    (s.onStation n f).freeCtr = s.freeCtr := rfl
@[simp] theorem State.onStation_pending (s : State) (n : Nat) (f : Station → Station) :
    (s.onStation n f).pending = s.pending := rfl

/-! ## onUnwind -/

@[simp] theorem State.onUnwind_clock (s : State) (u : UnwindId) (f : Unwind → Unwind) :
    (s.onUnwind u f).clock = s.clock := rfl
@[simp] theorem State.onUnwind_line (s : State) (u : UnwindId) (f : Unwind → Unwind) : (s.onUnwind u f).line = s.line := rfl
@[simp] theorem State.onUnwind_pst (s : State) (u : UnwindId) (f : Unwind → Unwind) : (s.onUnwind u f).pst = s.pst := rfl
@[simp] theorem State.onUnwind_seq (s : State) (u : UnwindId) (f : Unwind → Unwind) : (s.onUnwind u f).seq = s.seq := rfl
@[simp] theorem State.onUnwind_fca (s : State) (u : UnwindId) (f : Unwind → Unwind) : (s.onUnwind u f).fca = s.fca := rfl
@[simp] theorem State.onUnwind_wtr (s : State) (u : UnwindId) (f : Unwind → Unwind) : (s.onUnwind u f).wtr = s.wtr := rfl
@[simp] theorem State.onUnwind_str (s : State) (u : UnwindId) (f : Unwind → Unwind) : (s.onUnwind u f).str = s.str := rfl
@[simp] theorem State.onUnwind_zsv (s : State) (u : UnwindId) (f : Unwind → Unwind) : (s.onUnwind u f).zsv = s.zsv := rfl
@[simp] theorem State.onUnwind_slm (s : State) (u : UnwindId) (f : Unwind → Unwind) : (s.onUnwind u f).slm = s.slm := rfl
@[simp] theorem State.onUnwind_rcu (s : State) (u : UnwindId) (f : Unwind → Unwind) :
    (s.onUnwind u f).rcu = s.rcu.onUnwind u f := rfl
@[simp] theorem State.onUnwind_evu (s : State) (u : UnwindId) (f : Unwind → Unwind) : (s.onUnwind u f).evu = s.evu := rfl
@[simp] theorem State.onUnwind_hlp (s : State) (u : UnwindId) (f : Unwind → Unwind) : (s.onUnwind u f).hlp = s.hlp := rfl
@[simp] theorem State.onUnwind_freeCtr (s : State) (u : UnwindId) (f : Unwind → Unwind) :
    (s.onUnwind u f).freeCtr = s.freeCtr := rfl
@[simp] theorem State.onUnwind_pending (s : State) (u : UnwindId) (f : Unwind → Unwind) :
    (s.onUnwind u f).pending = s.pending := rfl

/-! ## Rcu.onUnwind: what is not in the two records stands -/

@[simp] theorem Rcu.onUnwind_acc (r : Rcu) (u : UnwindId) (f : Unwind → Unwind) :
    (r.onUnwind u f).acc = r.acc := by cases u <;> rfl
@[simp] theorem Rcu.onUnwind_settings (r : Rcu) (u : UnwindId) (f : Unwind → Unwind) :
    (r.onUnwind u f).settings = r.settings := by cases u <;> rfl
@[simp] theorem Rcu.onUnwind_change (r : Rcu) (u : UnwindId) (f : Unwind → Unwind) :
    (r.onUnwind u f).change = r.change := by cases u <;> rfl
@[simp] theorem Rcu.onUnwind_outcome (r : Rcu) (u : UnwindId) (f : Unwind → Unwind) :
    (r.onUnwind u f).outcome = r.outcome := by cases u <;> rfl
@[simp] theorem Rcu.onUnwind_outcomePhase (r : Rcu) (u : UnwindId) (f : Unwind → Unwind) :
    (r.onUnwind u f).outcomePhase = r.outcomePhase := by cases u <;> rfl
@[simp] theorem Rcu.onUnwind_outcomeCause (r : Rcu) (u : UnwindId) (f : Unwind → Unwind) :
    (r.onUnwind u f).outcomeCause = r.outcomeCause := by cases u <;> rfl
@[simp] theorem Rcu.onUnwind_brakeSpent (r : Rcu) (u : UnwindId) (f : Unwind → Unwind) :
    (r.onUnwind u f).brakeSpent = r.brakeSpent := by cases u <;> rfl
@[simp] theorem Rcu.onUnwind_unwind (r : Rcu) (u : UnwindId) (f : Unwind → Unwind) :
    (r.onUnwind u f).unwind u = f (r.unwind u) := by cases u <;> rfl
@[simp] theorem Rcu.onUnwind_unwind_other (r : Rcu) (u : UnwindId) (f : Unwind → Unwind) :
    (r.onUnwind u f).unwind u.other = r.unwind u.other := by cases u <;> rfl

/-! ## onOpenSegment -/

@[simp] theorem State.onOpenSegment_clock (s : State) (f : Segment → Segment) : (s.onOpenSegment f).clock = s.clock := rfl
@[simp] theorem State.onOpenSegment_line (s : State) (f : Segment → Segment) : (s.onOpenSegment f).line = s.line := rfl
@[simp] theorem State.onOpenSegment_pst (s : State) (f : Segment → Segment) : (s.onOpenSegment f).pst = s.pst := rfl
@[simp] theorem State.onOpenSegment_seq (s : State) (f : Segment → Segment) : (s.onOpenSegment f).seq = s.seq := rfl
@[simp] theorem State.onOpenSegment_fca (s : State) (f : Segment → Segment) : (s.onOpenSegment f).fca = s.fca := rfl
@[simp] theorem State.onOpenSegment_wtr (s : State) (f : Segment → Segment) : (s.onOpenSegment f).wtr = s.wtr := rfl
@[simp] theorem State.onOpenSegment_str (s : State) (f : Segment → Segment) :
    (s.onOpenSegment f).str = { s.str with segments := modifyLast f s.str.segments } := rfl
@[simp] theorem State.onOpenSegment_zsv (s : State) (f : Segment → Segment) : (s.onOpenSegment f).zsv = s.zsv := rfl
@[simp] theorem State.onOpenSegment_slm (s : State) (f : Segment → Segment) : (s.onOpenSegment f).slm = s.slm := rfl
@[simp] theorem State.onOpenSegment_rcu (s : State) (f : Segment → Segment) : (s.onOpenSegment f).rcu = s.rcu := rfl
@[simp] theorem State.onOpenSegment_evu (s : State) (f : Segment → Segment) : (s.onOpenSegment f).evu = s.evu := rfl
@[simp] theorem State.onOpenSegment_hlp (s : State) (f : Segment → Segment) : (s.onOpenSegment f).hlp = s.hlp := rfl
@[simp] theorem State.onOpenSegment_freeCtr (s : State) (f : Segment → Segment) :
    (s.onOpenSegment f).freeCtr = s.freeCtr := rfl
@[simp] theorem State.onOpenSegment_pending (s : State) (f : Segment → Segment) :
    (s.onOpenSegment f).pending = s.pending := rfl

/-! ## setMode -/

@[simp] theorem State.setMode_clock (s : State) (m : SeqMode) : (s.setMode m).clock = s.clock := rfl
@[simp] theorem State.setMode_line (s : State) (m : SeqMode) : (s.setMode m).line = s.line := rfl
@[simp] theorem State.setMode_pst (s : State) (m : SeqMode) : (s.setMode m).pst = s.pst := rfl
@[simp] theorem State.setMode_seq (s : State) (m : SeqMode) : (s.setMode m).seq = { s.seq with mode := m } := rfl
@[simp] theorem State.setMode_fca (s : State) (m : SeqMode) : (s.setMode m).fca = s.fca := rfl
@[simp] theorem State.setMode_wtr (s : State) (m : SeqMode) : (s.setMode m).wtr = s.wtr := rfl
@[simp] theorem State.setMode_str (s : State) (m : SeqMode) : (s.setMode m).str = s.str := rfl
@[simp] theorem State.setMode_zsv (s : State) (m : SeqMode) : (s.setMode m).zsv = s.zsv := rfl
@[simp] theorem State.setMode_slm (s : State) (m : SeqMode) : (s.setMode m).slm = s.slm := rfl
@[simp] theorem State.setMode_rcu (s : State) (m : SeqMode) : (s.setMode m).rcu = s.rcu := rfl
@[simp] theorem State.setMode_evu (s : State) (m : SeqMode) : (s.setMode m).evu = s.evu := rfl
@[simp] theorem State.setMode_hlp (s : State) (m : SeqMode) : (s.setMode m).hlp = s.hlp := rfl
@[simp] theorem State.setMode_freeCtr (s : State) (m : SeqMode) : (s.setMode m).freeCtr = s.freeCtr := rfl
@[simp] theorem State.setMode_pending (s : State) (m : SeqMode) : (s.setMode m).pending = s.pending := rfl

/-! ## restartSilence -/

@[simp] theorem State.restartSilence_clock (s : State) : (s.restartSilence).clock = s.clock := rfl
@[simp] theorem State.restartSilence_line (s : State) : (s.restartSilence).line = s.line := rfl
@[simp] theorem State.restartSilence_pst (s : State) : (s.restartSilence).pst = s.pst := rfl
@[simp] theorem State.restartSilence_seq (s : State) : (s.restartSilence).seq = s.seq := rfl
@[simp] theorem State.restartSilence_fca (s : State) : (s.restartSilence).fca = s.fca := rfl
@[simp] theorem State.restartSilence_wtr (s : State) : (s.restartSilence).wtr = s.wtr := rfl
@[simp] theorem State.restartSilence_str (s : State) : (s.restartSilence).str = s.str := rfl
@[simp] theorem State.restartSilence_zsv (s : State) : (s.restartSilence).zsv = s.zsv := rfl
@[simp] theorem State.restartSilence_slm (s : State) : (s.restartSilence).slm = s.slm := rfl
@[simp] theorem State.restartSilence_rcu (s : State) : (s.restartSilence).rcu = s.rcu := rfl
@[simp] theorem State.restartSilence_evu (s : State) : (s.restartSilence).evu = s.evu := rfl
@[simp] theorem State.restartSilence_hlp (s : State) :
    (s.restartSilence).hlp = { s.hlp with silenceTimer := if s.hlp.silenceTimeout = 0 then none else some (s.clock + s.hlp.silenceTimeout) } := rfl
@[simp] theorem State.restartSilence_freeCtr (s : State) : (s.restartSilence).freeCtr = s.freeCtr := rfl
@[simp] theorem State.restartSilence_pending (s : State) : (s.restartSilence).pending = s.pending := rfl

/-! ## countOverrun -/

@[simp] theorem State.countOverrun_clock (s : State) : (s.countOverrun).clock = s.clock := rfl
@[simp] theorem State.countOverrun_line (s : State) : (s.countOverrun).line = s.line := rfl
@[simp] theorem State.countOverrun_pst (s : State) : (s.countOverrun).pst = s.pst := rfl
@[simp] theorem State.countOverrun_seq (s : State) : (s.countOverrun).seq = s.seq := rfl
@[simp] theorem State.countOverrun_fca (s : State) : (s.countOverrun).fca = s.fca := rfl
@[simp] theorem State.countOverrun_wtr (s : State) : (s.countOverrun).wtr = s.wtr := rfl
@[simp] theorem State.countOverrun_str (s : State) : (s.countOverrun).str = s.str := rfl
@[simp] theorem State.countOverrun_zsv (s : State) : (s.countOverrun).zsv = s.zsv := rfl
@[simp] theorem State.countOverrun_slm (s : State) : (s.countOverrun).slm = s.slm := rfl
@[simp] theorem State.countOverrun_rcu (s : State) : (s.countOverrun).rcu = s.rcu := rfl
@[simp] theorem State.countOverrun_evu (s : State) : (s.countOverrun).evu = s.evu := rfl
@[simp] theorem State.countOverrun_hlp (s : State) :
    (s.countOverrun).hlp = { s.hlp with overruns := saturating 65535 s.hlp.overruns } := rfl
@[simp] theorem State.countOverrun_freeCtr (s : State) : (s.countOverrun).freeCtr = s.freeCtr := rfl
@[simp] theorem State.countOverrun_pending (s : State) : (s.countOverrun).pending = s.pending := rfl

/-! ## beginReply -/

@[simp] theorem State.beginReply_clock (s : State) : (s.beginReply).clock = s.clock := rfl
@[simp] theorem State.beginReply_line (s : State) : (s.beginReply).line = s.line := rfl
@[simp] theorem State.beginReply_pst (s : State) : (s.beginReply).pst = s.pst := rfl
@[simp] theorem State.beginReply_seq (s : State) : (s.beginReply).seq = s.seq := rfl
@[simp] theorem State.beginReply_fca (s : State) : (s.beginReply).fca = s.fca := rfl
@[simp] theorem State.beginReply_wtr (s : State) : (s.beginReply).wtr = s.wtr := rfl
@[simp] theorem State.beginReply_str (s : State) : (s.beginReply).str = s.str := rfl
@[simp] theorem State.beginReply_zsv (s : State) : (s.beginReply).zsv = s.zsv := rfl
@[simp] theorem State.beginReply_slm (s : State) : (s.beginReply).slm = s.slm := rfl
@[simp] theorem State.beginReply_rcu (s : State) : (s.beginReply).rcu = s.rcu := rfl
@[simp] theorem State.beginReply_evu (s : State) : (s.beginReply).evu = s.evu := rfl
@[simp] theorem State.beginReply_freeCtr (s : State) : (s.beginReply).freeCtr = s.freeCtr := rfl
@[simp] theorem State.beginReply_pending (s : State) : (s.beginReply).pending = s.pending := rfl

/-! ## pushReply -/

@[simp] theorem State.pushReply_clock (s : State) (k : Byte) (t : BitVec 16) (r : List Byte) :
    (s.pushReply k t r).clock = s.clock := by
  unfold State.pushReply; dsimp only; split <;> first | rfl | (split <;> rfl)
@[simp] theorem State.pushReply_line (s : State) (k : Byte) (t : BitVec 16) (r : List Byte) :
    (s.pushReply k t r).line = s.line := by
  unfold State.pushReply; dsimp only; split <;> first | rfl | (split <;> rfl)
@[simp] theorem State.pushReply_pst (s : State) (k : Byte) (t : BitVec 16) (r : List Byte) :
    (s.pushReply k t r).pst = s.pst := by
  unfold State.pushReply; dsimp only; split <;> first | rfl | (split <;> rfl)
@[simp] theorem State.pushReply_seq (s : State) (k : Byte) (t : BitVec 16) (r : List Byte) :
    (s.pushReply k t r).seq = s.seq := by
  unfold State.pushReply; dsimp only; split <;> first | rfl | (split <;> rfl)
@[simp] theorem State.pushReply_fca (s : State) (k : Byte) (t : BitVec 16) (r : List Byte) :
    (s.pushReply k t r).fca = s.fca := by
  unfold State.pushReply; dsimp only; split <;> first | rfl | (split <;> rfl)
@[simp] theorem State.pushReply_wtr (s : State) (k : Byte) (t : BitVec 16) (r : List Byte) :
    (s.pushReply k t r).wtr = s.wtr := by
  unfold State.pushReply; dsimp only; split <;> first | rfl | (split <;> rfl)
@[simp] theorem State.pushReply_str (s : State) (k : Byte) (t : BitVec 16) (r : List Byte) :
    (s.pushReply k t r).str = s.str := by
  unfold State.pushReply; dsimp only; split <;> first | rfl | (split <;> rfl)
@[simp] theorem State.pushReply_zsv (s : State) (k : Byte) (t : BitVec 16) (r : List Byte) :
    (s.pushReply k t r).zsv = s.zsv := by
  unfold State.pushReply; dsimp only; split <;> first | rfl | (split <;> rfl)
@[simp] theorem State.pushReply_slm (s : State) (k : Byte) (t : BitVec 16) (r : List Byte) :
    (s.pushReply k t r).slm = s.slm := by
  unfold State.pushReply; dsimp only; split <;> first | rfl | (split <;> rfl)
@[simp] theorem State.pushReply_rcu (s : State) (k : Byte) (t : BitVec 16) (r : List Byte) :
    (s.pushReply k t r).rcu = s.rcu := by
  unfold State.pushReply; dsimp only; split <;> first | rfl | (split <;> rfl)
@[simp] theorem State.pushReply_evu (s : State) (k : Byte) (t : BitVec 16) (r : List Byte) :
    (s.pushReply k t r).evu = s.evu := by
  unfold State.pushReply; dsimp only; split <;> first | rfl | (split <;> rfl)
@[simp] theorem State.pushReply_freeCtr (s : State) (k : Byte) (t : BitVec 16) (r : List Byte) :
    (s.pushReply k t r).freeCtr = s.freeCtr := by
  unfold State.pushReply; dsimp only; split <;> first | rfl | (split <;> rfl)
@[simp] theorem State.pushReply_pending (s : State) (k : Byte) (t : BitVec 16) (r : List Byte) :
    (s.pushReply k t r).pending = s.pending := by
  unfold State.pushReply; dsimp only; split <;> first | rfl | (split <;> rfl)

/-- The buffer gains the request's place and nothing else of it changes. -/
@[simp] theorem State.pushReply_buffer (s : State) (k : Byte) (t : BitVec 16) (r : List Byte) :
    (s.pushReply k t r).hlp.buffer = s.hlp.buffer ++ [{ kind := k, tag := t, reply := r }] := by
  unfold State.pushReply; dsimp only; split <;> first | rfl | (split <;> rfl)

/-! ## The reference owner asked (R131, R162) -/

@[simp] theorem Zsv.ask_zones (n : Nat) (v : Zsv) : (v.ask n).zones = v.zones := rfl
@[simp] theorem Zsv.ask_profile (n : Nat) (v : Zsv) : (v.ask n).profile = v.profile := rfl
@[simp] theorem Zsv.ask_settleTime (n : Nat) (v : Zsv) : (v.ask n).settleTime = v.settleTime := rfl
@[simp] theorem Zsv.ask_purgeInterval (n : Nat) (v : Zsv) : (v.ask n).purgeInterval = v.purgeInterval := rfl
@[simp] theorem Zsv.ask_purgeDuration (n : Nat) (v : Zsv) : (v.ask n).purgeDuration = v.purgeDuration := rfl
@[simp] theorem Zsv.ask_purgeGrace (n : Nat) (v : Zsv) : (v.ask n).purgeGrace = v.purgeGrace := rfl
@[simp] theorem Zsv.ask_recalInterval (n : Nat) (v : Zsv) : (v.ask n).recalInterval = v.recalInterval := rfl
@[simp] theorem Zsv.ask_calQueue (n : Nat) (v : Zsv) : (v.ask n).calQueue = v.calQueue := rfl

/-- A poll leaves who owns the reference, for what kind of compare and until when. -/
@[simp] theorem Zsv.ask_owner (n : Nat) (v : Zsv) : (v.ask n).reference.map RefOwner.zone = v.reference.map RefOwner.zone := by
  unfold Zsv.ask; cases v.reference with
  | none => rfl
  | some r => dsimp only [Option.map]; split <;> rfl
@[simp] theorem Zsv.ask_kind (n : Nat) (v : Zsv) : (v.ask n).reference.map RefOwner.kind = v.reference.map RefOwner.kind := by
  unfold Zsv.ask; cases v.reference with
  | none => rfl
  | some r => dsimp only [Option.map]; split <;> rfl
@[simp] theorem Zsv.ask_deadline (n : Nat) (v : Zsv) :
    (v.ask n).reference.map RefOwner.deadline = v.reference.map RefOwner.deadline := by
  unfold Zsv.ask; cases v.reference with
  | none => rfl
  | some r => dsimp only [Option.map]; split <;> rfl

end Sys2Proof.Machine
end

