-- ==== Sys2Proof/Laws/Feed.lean ====
section
/-! SUPPORT. What the shared arithmetic of the Feed Calculator answers (R1, R28): a quotient with its remainder, rounding up. -/

namespace Sys2Proof.Machine

/-- Counts and residue are quotient and remainder of the product plus the residue (R28). -/
theorem feedCounts_spec (n g r residue : Nat) :
    residueUnit * (feedCounts n g r residue).1 + (feedCounts n g r residue).2 = n * g * r + residue
      ∧ (feedCounts n g r residue).2 < residueUnit :=
  ⟨Nat.div_add_mod _ _, Nat.mod_lt _ (by unfold residueUnit; omega)⟩

/-- The least number whose product with the divisor reaches the dividend (R1). -/
theorem ceilDiv_spec {n d : Nat} (h : 0 < d) : n ≤ ceilDiv n d * d ∧ ceilDiv n d * d < n + d := by
  have e := Nat.div_add_mod (n + d - 1) d
  have l := Nat.mod_lt (n + d - 1) h
  unfold ceilDiv
  rw [Nat.mul_comm] at e
  omega

/-- A step computation touches FCA alone, and of it neither T nor the panel's Lp nor the waste residue (R27, R28). -/
theorem State.takeStep_kept (s : State) (r : StepRecord) :
    s.takeStep r = { s with fca := (s.takeStep r).fca } ∧ (s.takeStep r).fca.tension = s.fca.tension
      ∧ (s.takeStep r).fca.panelLp = s.fca.panelLp ∧ (s.takeStep r).fca.wasteResidue = s.fca.wasteResidue :=
  ⟨rfl, rfl, rfl, rfl⟩

/-- A tension delivery touches T alone (R26). -/
theorem State.deliverTension_kept (s : State) (tension : Nat) :
    s.deliverTension tension = { s with fca := { s.fca with tension := (s.deliverTension tension).fca.tension } } := by
  unfold State.deliverTension; split <;> rfl

end Sys2Proof.Machine
end

