-- ==== Sys2Proof/Laws/HostLink.lean ====
section
/-! SUPPORT. All that a request's arrival can do: discarded, refused UNCONFIGURED, or judged by its own rule. -/

namespace Sys2Proof.Machine

theorem hostRequest_full (kind : Byte) (a : Availability) (h : List Byte → State → State × List Byte) (tag : BitVec 16)
    (p : List Byte) {s : State} (hf : 4 ≤ s.hlp.buffer.length) :
    hostRequest kind a h tag p s = s.restartSilence.countOverrun := by
  simp [hostRequest, hf]

theorem hostRequest_unconfigured (kind : Byte) (h : List Byte → State → State × List Byte) (tag : BitVec 16)
    (p : List Byte) {s : State} (hr : s.room) (hu : s.line = none) :
    hostRequest kind .configuredOnly h tag p s = s.onlyReplies kind tag [0x0B#8] := by
  have : ¬4 ≤ s.hlp.buffer.length := by unfold State.room at hr; omega
  simp [hostRequest, this, State.configured, hu, State.onlyReplies, statusOnly, Status.code]

/-- A message taken in every state is judged by its own rule. -/
theorem hostRequest_always (kind : Byte) (h : List Byte → State → State × List Byte) (tag : BitVec 16) (p : List Byte)
    {s : State} (hr : s.room) :
    hostRequest kind .always h tag p s
      = (h p s.restartSilence).1.pushReply kind tag (h p s.restartSilence).2 := by
  have : ¬4 ≤ s.hlp.buffer.length := by unfold State.room at hr; omega
  simp [hostRequest, this]

/-- A message of a configured part is judged by its own rule. -/
theorem hostRequest_taken (kind : Byte) (a : Availability) (h : List Byte → State → State × List Byte) (tag : BitVec 16)
    (p : List Byte) {s : State} (ht : s.taken) :
    hostRequest kind a h tag p s
      = (h p s.restartSilence).1.pushReply kind tag (h p s.restartSilence).2 := by
  have h1 : ¬4 ≤ s.hlp.buffer.length := by have := ht.2; unfold State.room at this; omega
  have h2 : s.restartSilence.configured = true := ht.1
  simp [hostRequest, h1, h2]

/-- A rule that changes nothing leaves the reply alone. -/
theorem hostRequest_refused (kind : Byte) (a : Availability) (h : List Byte → State → State × List Byte) (tag : BitVec 16)
    (p : List Byte) {s : State} (ht : s.taken) {reply : List Byte} (hh : h p s.restartSilence = (s.restartSilence, reply)) :
    hostRequest kind a h tag p s = s.onlyReplies kind tag reply := by
  rw [hostRequest_taken kind a h tag p ht, hh]; rfl

end Sys2Proof.Machine
end

