-- ==== Sys2Proof/Laws/PerInstr.lean ====
section
/-! SUPPORT. Statements made for each command in turn. KindNames: the kind that R207 gives a request names that request again,
with its tag and payload; the events have no kind. -/

namespace Sys2Proof.Laws.KindNames

/-- The kind, tag and payload of a well-formed request are read as that request. -/
def Statement (i : Instr) : Prop :=
  ∀ (kind : Byte) (tag : BitVec 16) (payload : List Byte),
    i.wellFormed = true → requestOf i = some (kind, tag, payload) → commandOf kind tag payload = i

/-- A command with no kind. -/
theorem of_none {i : Instr} (h : requestOf i = none) : Statement i := by
  intro k t p _ h'; rw [h] at h'; cases h'

/-- A request whose kind names it. -/
theorem of_some {i : Instr} {k : Byte} {t : BitVec 16} {p : List Byte} (h : requestOf i = some (k, t, p))
    (hc : commandOf k t p = i) : Statement i := by
  intro k' t' p' _ h'; rw [h] at h'; cases h'; exact hc

theorem powerOnReset (a b g d : Bool) : Statement (.powerOnReset a b g d) := of_none rfl
theorem lineReset (t : BitVec 16) (p : List Byte) : Statement (.lineReset t p) := of_some rfl rfl
theorem identify (t : BitVec 16) (p : List Byte) : Statement (.identify t p) := of_some rfl rfl
theorem readStatus (t : BitVec 16) (p : List Byte) : Statement (.readStatus t p) := of_some rfl rfl
theorem configureLine (t : BitVec 16) (p : List Byte) : Statement (.configureLine t p) := of_some rfl rfl
theorem configureZones (t : BitVec 16) (p : List Byte) : Statement (.configureZones t p) := of_some rfl rfl
theorem configureRolls (t : BitVec 16) (p : List Byte) : Statement (.configureRolls t p) := of_some rfl rfl
theorem configureLink (t : BitVec 16) (p : List Byte) : Statement (.configureLink t p) := of_some rfl rfl
theorem loadProfile (t : BitVec 16) (p : List Byte) : Statement (.loadProfile t p) := of_some rfl rfl
theorem readProfile (t : BitVec 16) (p : List Byte) : Statement (.readProfile t p) := of_some rfl rfl
theorem openPattern (t : BitVec 16) (p : List Byte) : Statement (.openPattern t p) := of_some rfl rfl
theorem loadSteps (t : BitVec 16) (p : List Byte) : Statement (.loadSteps t p) := of_some rfl rfl
theorem closePattern (t : BitVec 16) (p : List Byte) : Statement (.closePattern t p) := of_some rfl rfl
theorem deletePattern (t : BitVec 16) (p : List Byte) : Statement (.deletePattern t p) := of_some rfl rfl
theorem readSteps (t : BitVec 16) (p : List Byte) : Statement (.readSteps t p) := of_some rfl rfl
theorem queueJob (t : BitVec 16) (p : List Byte) : Statement (.queueJob t p) := of_some rfl rfl
theorem cancelJob (t : BitVec 16) (p : List Byte) : Statement (.cancelJob t p) := of_some rfl rfl
theorem readJobs (t : BitVec 16) (p : List Byte) : Statement (.readJobs t p) := of_some rfl rfl
theorem setPace (t : BitVec 16) (p : List Byte) : Statement (.setPace t p) := of_some rfl rfl
theorem go (t : BitVec 16) (p : List Byte) : Statement (.go t p) := of_some rfl rfl
theorem hold (t : BitVec 16) (p : List Byte) : Statement (.hold t p) := of_some rfl rfl
theorem resume (t : BitVec 16) (p : List Byte) : Statement (.resume t p) := of_some rfl rfl
theorem abortPanel (t : BitVec 16) (p : List Byte) : Statement (.abortPanel t p) := of_some rfl rfl
theorem stopLine (t : BitVec 16) (p : List Byte) : Statement (.stopLine t p) := of_some rfl rfl
theorem reportDefect (t : BitVec 16) (p : List Byte) : Statement (.reportDefect t p) := of_some rfl rfl
theorem readMarks (t : BitVec 16) (p : List Byte) : Statement (.readMarks t p) := of_some rfl rfl
theorem readSegments (t : BitVec 16) (p : List Byte) : Statement (.readSegments t p) := of_some rfl rfl
theorem zoneCommand (t : BitVec 16) (p : List Byte) : Statement (.zoneCommand t p) := of_some rfl rfl
theorem readZones (t : BitVec 16) (p : List Byte) : Statement (.readZones t p) := of_some rfl rfl
theorem declareRoll (t : BitVec 16) (p : List Byte) : Statement (.declareRoll t p) := of_some rfl rfl
theorem startUnwind (t : BitVec 16) (p : List Byte) : Statement (.startUnwind t p) := of_some rfl rfl
theorem changeRoll (t : BitVec 16) (p : List Byte) : Statement (.changeRoll t p) := of_some rfl rfl
theorem abortChange (t : BitVec 16) (p : List Byte) : Statement (.abortChange t p) := of_some rfl rfl
theorem readRolls (t : BitVec 16) (p : List Byte) : Statement (.readRolls t p) := of_some rfl rfl
theorem setScan (t : BitVec 16) (p : List Byte) : Statement (.setScan t p) := of_some rfl rfl
theorem readStations (t : BitVec 16) (p : List Byte) : Statement (.readStations t p) := of_some rfl rfl
theorem takeRequests (t : BitVec 16) (p : List Byte) : Statement (.takeRequests t p) := of_some rfl rfl
theorem readReports (t : BitVec 16) (p : List Byte) : Statement (.readReports t p) := of_some rfl rfl
theorem releaseReports (t : BitVec 16) (p : List Byte) : Statement (.releaseReports t p) := of_some rfl rfl
theorem takeEvents (t : BitVec 16) (p : List Byte) : Statement (.takeEvents t p) := of_some rfl rfl
theorem setNotices (t : BitVec 16) (p : List Byte) : Statement (.setNotices t p) := of_some rfl rfl
theorem strayFrame : Statement .strayFrame := of_none rfl
theorem linkOverrun : Statement .linkOverrun := of_none rfl
theorem frameCrcError : Statement .frameCrcError := of_none rfl
theorem frameLengthError : Statement .frameLengthError := of_none rfl
theorem interByteGap : Statement .interByteGap := of_none rfl
theorem missingStopBit (b : Bool) : Statement (.missingStopBit b) := of_none rfl
theorem replyEnd : Statement .replyEnd := of_none rfl
theorem noticeBegin : Statement .noticeBegin := of_none rfl
theorem silenceTimeout : Statement .silenceTimeout := of_none rfl
theorem markEdge (e : Edge) : Statement (.markEdge e) := of_none rfl
theorem paceExpiry : Statement .paceExpiry := of_none rfl
theorem foldEdge (e : Edge) : Statement (.foldEdge e) := of_none rfl
theorem guardOpen (fed moved : Nat) : Statement (.guardOpen fed moved) := of_none rfl
theorem guardClose : Statement .guardClose := of_none rfl
theorem feedDone : Statement .feedDone := of_none rfl
theorem strokeDone : Statement .strokeDone := of_none rfl
theorem waitEnd : Statement .waitEnd := of_none rfl
theorem wasteWaitEnd : Statement .wasteWaitEnd := of_none rfl
theorem defectActiveEdge : Statement .defectActiveEdge := of_none rfl
theorem defectInactiveEdge : Statement .defectInactiveEdge := of_none rfl
theorem beltDone : Statement .beltDone := of_none rfl
theorem cutDone : Statement .cutDone := of_none rfl
theorem settleExpiry (zone : Nat) : Statement (.settleExpiry zone) := of_none rfl
theorem purgeDeadline (zone : Nat) : Statement (.purgeDeadline zone) := of_none rfl
theorem forceTime (zone : Nat) : Statement (.forceTime zone) := of_none rfl
theorem purgeEndTime (zone : Nat) : Statement (.purgeEndTime zone) := of_none rfl
theorem compareDeadline : Statement .compareDeadline := of_none rfl
theorem calibrationDue (zone : Nat) : Statement (.calibrationDue zone) := of_none rfl
theorem phaseDeadline : Statement .phaseDeadline := of_none rfl
theorem stationResponse (bytes : List Byte) : Statement (.stationResponse bytes) := of_none rfl
theorem responseWindowExpiry : Statement .responseWindowExpiry := of_none rfl
theorem noticeEnd : Statement .noticeEnd := of_none rfl

theorem unknownKindRequest (k : Byte) (t : BitVec 16) (p : List Byte) : Statement (.unknownKindRequest k t p) := by
  intro k' t' p' hw h
  cases h
  simp only [Instr.wellFormed, Bool.and_eq_true, Bool.not_eq_true', decide_eq_true_eq] at hw
  obtain ⟨⟨-, hk⟩, hn⟩ := hw
  unfold commandOf
  rw [if_neg (by omega)]
  split <;> first | rfl | (exact absurd hn (by decide))

end Sys2Proof.Laws.KindNames
end

