-- ==== Sys2Proof/Laws/Receiver.lean ====
section
/-! SUPPORT. What the receiver of R190 does over a run of bytes: a run in two parts, and a frame that is still in progress. -/

namespace Sys2Proof

open Sys2Proof.Machine

/-- A run of bytes in two parts is received one part after the other. -/
theorem Receiver.receive_append (r : Receiver) (a b : List Arrival) :
    r.receive (a ++ b) = (((r.receive a).1.receive b).1, (r.receive a).2 ++ ((r.receive a).1.receive b).2) := by
  induction a generalizing r with
  | nil => simp [Receiver.receive]
  | cons x a ih => simp [Receiver.receive, ih, List.append_assoc]

theorem Receiver.receive_cons (r : Receiver) (a : Arrival) (rest : List Arrival) :
    r.receive (a :: rest) = (((r.take a).1.receive rest).1, (r.take a).2 ++ ((r.take a).1.receive rest).2) := rfl

@[simp] theorem Receiver.take_start : Receiver.hunting.take (Arrival.plain 0x5A#8) = (.inFrame [], []) := rfl

@[simp] theorem Receiver.take_plain (got : List Byte) (b : Byte) :
    (Receiver.inFrame got).take (Arrival.plain b) = growFrame (got ++ [b]) := rfl

/-- The length field of a frame stands in its first two bytes. -/
theorem lengthField_append (p q : List Byte) (h : 2 ≤ p.length) : fieldAt (p ++ q) 0 2 = fieldAt p 0 2 := by
  simp [fieldAt, List.take_append_of_le_length h]

/-- A frame in progress stays so while its bytes are fewer than its length asks for, and the length is allowed. -/
theorem Receiver.receive_part (got bs : List Byte) (h : 2 ≤ (got ++ bs).length → fieldAt (got ++ bs) 0 2 ≤ 1024)
    (h' : 2 ≤ (got ++ bs).length → (got ++ bs).length < fieldAt (got ++ bs) 0 2 + 7) :
    (Receiver.inFrame got).receive (bs.map Arrival.plain) = (.inFrame (got ++ bs), []) := by
  induction bs generalizing got with
  | nil => simp [Receiver.receive]
  | cons b bs ih =>
    have e : got ++ b :: bs = (got ++ [b]) ++ bs := by simp
    rw [e] at h h' ⊢
    have step : growFrame (got ++ [b]) = (.inFrame (got ++ [b]), []) := by
      unfold growFrame; dsimp only
      by_cases hl : (got ++ [b]).length < 2
      · rw [if_pos hl]
      · have ht : 2 ≤ ((got ++ [b]) ++ bs).length := by rw [List.length_append]; omega
        have f := lengthField_append (got ++ [b]) bs (by omega)
        have a1 := h ht
        have a2 := h' ht
        rw [f] at a1 a2
        rw [List.length_append] at a2
        rw [if_neg hl, if_neg (by omega), if_pos (by omega)]
    simp only [List.map, Receiver.receive_cons, Receiver.take_plain, step, ih (got ++ [b]) h h', List.nil_append]

end Sys2Proof
end

