-- ==== Sys2Proof/Laws/Tables.lean ====
section
/-! SUPPORT. The tables numbered from 1, the change of a list's last entry, and the state's own tables through them. -/

namespace Sys2Proof.Machine

theorem entryAt_modifyAt_same {α : Type} (l : List α) (n : Nat) (f : α → α) :
    entryAt (modifyAt l n f) n = (entryAt l n).map f := by
  cases n with
  | zero => rfl
  | succ k => simp [entryAt, modifyAt]

theorem entryAt_modifyAt_other {α : Type} (l : List α) {n m : Nat} (f : α → α) (h : m ≠ n) :
    entryAt (modifyAt l n f) m = entryAt l m := by
  cases n with
  | zero => rfl
  | succ n =>
    cases m with
    | zero => rfl
    | succ m =>
      have : n ≠ m := by omega
      simp [entryAt, modifyAt, this]

theorem entryAt_isSome_iff {α : Type} (l : List α) (n : Nat) : (entryAt l n).isSome = true ↔ 1 ≤ n ∧ n ≤ l.length := by
  cases n with
  | zero => simp [entryAt]
  | succ k => simp [entryAt]

theorem exists_entryAt {α : Type} {l : List α} {n : Nat} (h1 : 1 ≤ n) (h2 : n ≤ l.length) : ∃ a, entryAt l n = some a :=
  Option.isSome_iff_exists.mp ((entryAt_isSome_iff l n).mpr ⟨h1, h2⟩)

@[simp] theorem length_modifyAt {α : Type} (l : List α) (n : Nat) (f : α → α) : (modifyAt l n f).length = l.length := by
  cases n <;> simp [modifyAt]

@[simp] theorem length_modifyLast {α : Type} (f : α → α) (l : List α) : (modifyLast f l).length = l.length := by
  induction l with
  | nil => rfl
  | cons x rest ih =>
    cases rest with
    | nil => rfl
    | cons y rest => simpa [modifyLast] using ih

@[simp] theorem modifyLast_append_singleton {α : Type} (f : α → α) (l : List α) (x : α) :
    modifyLast f (l ++ [x]) = l ++ [f x] := by
  induction l with
  | nil => rfl
  | cons y rest ih =>
    cases rest with
    | nil => rfl
    | cons z rest => simpa [modifyLast] using ih

theorem modifyLast_modifyLast {α : Type} (f g : α → α) (l : List α) :
    modifyLast g (modifyLast f l) = modifyLast (fun x => g (f x)) l := by
  rcases List.eq_nil_or_concat l with rfl | ⟨init, x, rfl⟩
  · rfl
  · simp

/-- A view that commutes with the change commutes with the change of the last entry. -/
theorem map_modifyLast {α β : Type} (v : α → β) (f : α → α) (g : β → β) (h : ∀ x, v (f x) = g (v x)) (l : List α) :
    (modifyLast f l).map v = modifyLast g (l.map v) := by
  rcases List.eq_nil_or_concat l with rfl | ⟨init, x, rfl⟩
  · rfl
  · simp [h]

/-- A change that a view does not see. -/
theorem map_modifyLast_unseen {α β : Type} (v : α → β) (f : α → α) (h : ∀ x, v (f x) = v x) (l : List α) :
    (modifyLast f l).map v = l.map v := by
  rcases List.eq_nil_or_concat l with rfl | ⟨init, x, rfl⟩
  · rfl
  · simp [h]

/-! ## Zones and stations -/

/-- Zone `i` after its own update, where the table has it. -/
theorem State.zone_onZone_same (s : State) {i : Nat} (f : Zone → Zone) (h1 : 1 ≤ i) (h2 : i ≤ s.zsv.zones.length) :
    (s.onZone i f).zone i = f (s.zone i) := by
  obtain ⟨z, hz⟩ := exists_entryAt h1 h2
  simp [State.zone, entryAt_modifyAt_same, hz]

theorem State.zone_onZone_other (s : State) {i j : Nat} (f : Zone → Zone) (h : j ≠ i) :
    (s.onZone i f).zone j = s.zone j := by
  simp [State.zone, entryAt_modifyAt_other _ f h]

/-- A number with no entry reads as a zone that is OFF. -/
theorem State.zone_of_no_entry (s : State) {i : Nat} (h : ¬(1 ≤ i ∧ i ≤ s.zsv.zones.length)) : s.zone i = Zone.powerOn := by
  have : entryAt s.zsv.zones i = none := by
    rw [← Option.not_isSome_iff_eq_none, entryAt_isSome_iff]; exact h
  simp [State.zone, this]

/-- A zone that is not as after power-on has an entry. -/
theorem State.entry_of_zone_ne (s : State) {i : Nat} (h : s.zone i ≠ Zone.powerOn) : 1 ≤ i ∧ i ≤ s.zsv.zones.length := by
  by_contra hc; exact h (s.zone_of_no_entry hc)

theorem State.station_onStation_same (s : State) {n : Nat} (f : Station → Station) (h1 : 1 ≤ n)
    (h2 : n ≤ s.slm.stations.length) : (s.onStation n f).station n = f (s.station n) := by
  obtain ⟨x, hx⟩ := exists_entryAt h1 h2
  simp [State.station, entryAt_modifyAt_same, hx]

theorem State.station_onStation_other (s : State) {n m : Nat} (f : Station → Station) (h : m ≠ n) :
    (s.onStation n f).station m = s.station m := by
  simp [State.station, entryAt_modifyAt_other _ f h]

/-! ## Patterns and profiles -/

theorem Pst.pattern_setPattern_same (p : Pst) {id : Nat} (e : PatternEntry) (h1 : 1 ≤ id) (h2 : id ≤ p.patterns.length) :
    (p.setPattern id e).pattern id = e := by
  obtain ⟨x, hx⟩ := exists_entryAt h1 h2
  simp [Pst.pattern, Pst.setPattern, entryAt_modifyAt_same, hx]

theorem Pst.pattern_setPattern_other (p : Pst) {id n : Nat} (e : PatternEntry) (h : n ≠ id) :
    (p.setPattern id e).pattern n = p.pattern n := by
  simp [Pst.pattern, Pst.setPattern, entryAt_modifyAt_other _ _ h]

theorem Pst.profile_setProfile_same (p : Pst) {id : Nat} (q : Profile) (h1 : 1 ≤ id) (h2 : id ≤ p.profiles.length) :
    (p.setProfile id q).profile id = some q := by
  obtain ⟨x, hx⟩ := exists_entryAt h1 h2
  simp [Pst.profile, Pst.setProfile, entryAt_modifyAt_same, hx]

theorem Pst.profile_setProfile_other (p : Pst) {id n : Nat} (q : Profile) (h : n ≠ id) :
    (p.setProfile id q).profile n = p.profile n := by
  simp [Pst.profile, Pst.setProfile, entryAt_modifyAt_other _ _ h]

end Sys2Proof.Machine
end

