-- ==== Sys2Proof/Laws/Zones.lean ====
section
/-! SUPPORT. How far each zone operation reaches: most change ZSV alone; a fault, a completed calibration and a forced purge also
flag segments or raise a class. Which compare done stands after each of them, and the limit of a new setpoint. -/

namespace Sys2Proof.Machine

/-- `t` is `s` with another ZSV. -/
def ZonesOnly (s t : State) : Prop := t = { s with zsv := t.zsv }

/-- `t` is `s` with another ZSV, STR and EVU. -/
def ZonesAndNotices (s t : State) : Prop := t = { s with zsv := t.zsv, str := t.str, evu := t.evu }

theorem ZonesOnly.refl (s : State) : ZonesOnly s s := rfl
theorem ZonesOnly.onZsv (s : State) (f : Zsv → Zsv) : ZonesOnly s (s.onZsv f) := rfl
theorem ZonesOnly.onZone (s : State) (i : Nat) (f : Zone → Zone) : ZonesOnly s (s.onZone i f) := rfl

theorem ZonesOnly.trans {s t u : State} (h : ZonesOnly s t) (k : ZonesOnly t u) : ZonesOnly s u := by
  unfold ZonesOnly at *; rw [k]; simp only; rw [h]

theorem ZonesOnly.notices {s t : State} (h : ZonesOnly s t) : ZonesAndNotices s t := by
  unfold ZonesOnly ZonesAndNotices at *; rw [h]

theorem ZonesAndNotices.refl (s : State) : ZonesAndNotices s s := rfl
theorem ZonesAndNotices.raise (s : State) (c : EventClass) : ZonesAndNotices s (s.raise c) := rfl
theorem ZonesAndNotices.flagZone (s : State) (i : Nat) (f : PanelFlags → PanelFlags) :
    ZonesAndNotices s (s.flagZone i f) := rfl

theorem ZonesAndNotices.trans {s t u : State} (h : ZonesAndNotices s t) (k : ZonesAndNotices t u) :
    ZonesAndNotices s u := by
  unfold ZonesAndNotices at *; rw [k]; simp only; rw [h]

/-- A fold of updates, each of which reaches the zones only. -/
theorem ZonesOnly.foldl {α : Type} (g : State → α → State) (h : ∀ s a, ZonesOnly s (g s a)) (l : List α) (s : State) :
    ZonesOnly s (l.foldl g s) := by
  induction l generalizing s with
  | nil => exact .refl s
  | cons a rest ih => exact (h s a).trans (ih _)

/-! ## The operations -/

theorem zonesOnly_takeSetpoint (s : State) (i : Nat) (r : ZoneReturn) : ZonesOnly s (s.takeSetpoint i r) := by
  unfold State.takeSetpoint; split <;> first | exact .refl s | exact .onZone ..

theorem zonesOnly_stopSettle (s : State) (i : Nat) : ZonesOnly s (s.stopSettle i) := .onZone ..
theorem zonesOnly_restartSettle (s : State) (i : Nat) : ZonesOnly s (s.restartSettle i) := .onZone ..

theorem zonesOnly_returnZone (s : State) (i : Nat) : ZonesOnly s (s.returnZone i) := by
  unfold State.returnZone
  split
  · exact .refl s
  · dsimp only; split
    · exact (ZonesOnly.onZone s i _).trans (zonesOnly_restartSettle _ i)
    · exact .onZone ..

theorem zonesOnly_beginPurge (s : State) (i : Nat) (r : ZoneReturn) : ZonesOnly s (s.beginPurge i r) := .onZone ..

theorem zonesOnly_startTest (s : State) (i : Nat) : ZonesOnly s (s.startTest i) := by
  unfold State.startTest; dsimp only; split
  · split <;> first | exact .refl s | exact zonesOnly_beginPurge ..
  · exact .refl s

theorem zonesOnly_startTests (s : State) : ZonesOnly s s.startTests :=
  ZonesOnly.foldl _ zonesOnly_startTest _ s

theorem zonesOnly_pendPurge (s : State) (i deadline : Nat) : ZonesOnly s (s.pendPurge i deadline) :=
  (ZonesOnly.onZone s i _).trans (zonesOnly_startTest _ i)

theorem zonesOnly_handOut (s : State) : ZonesOnly s s.handOut := by
  unfold State.handOut; split
  · exact .refl s
  · split
    · exact .refl s
    · exact (ZonesOnly.onZsv s _).trans (.onZone ..)

theorem zonesOnly_startThenHandOut (s : State) : ZonesOnly s s.startThenHandOut :=
  (zonesOnly_startTests s).trans (zonesOnly_handOut _)

theorem zonesOnly_joinQueue (s : State) (i : Nat) : ZonesOnly s (s.joinQueue i) := by
  unfold State.joinQueue; split <;> first | exact .refl s | exact .onZsv ..

theorem zonesOnly_queueCalibration (s : State) (i : Nat) : ZonesOnly s (s.queueCalibration i) :=
  (zonesOnly_joinQueue s i).trans (zonesOnly_handOut _)

theorem zonesOnly_leaveQueue (s : State) (i : Nat) : ZonesOnly s (s.leaveQueue i) := .onZsv ..
theorem zonesOnly_releaseReference (s : State) : ZonesOnly s s.releaseReference := .onZsv ..

theorem zonesOnly_requeueOwner (s : State) (i : Nat) : ZonesOnly s (s.requeueOwner i) :=
  (((zonesOnly_releaseReference s).trans (zonesOnly_returnZone _ i)).trans (zonesOnly_joinQueue _ i)).trans
    (zonesOnly_startThenHandOut _)

theorem zonesOnly_dropCalibration (s : State) (i : Nat) : ZonesOnly s (s.dropCalibration i) := by
  unfold State.dropCalibration; split
  · exact ((zonesOnly_leaveQueue s i).trans (zonesOnly_releaseReference _)).trans (zonesOnly_startThenHandOut _)
  · exact zonesOnly_leaveQueue s i

theorem zonesOnly_offZone (s : State) (i : Nat) : ZonesOnly s (s.offZone i) :=
  (ZonesOnly.onZone s i _).trans (zonesOnly_dropCalibration _ i)

theorem zonesOnly_warmZone (s : State) (i : Nat) : ZonesOnly s (s.warmZone i) :=
  (((ZonesOnly.onZone s i _).trans (zonesOnly_takeSetpoint _ i _)).trans (zonesOnly_restartSettle _ i)).trans
    (zonesOnly_handOut _)

theorem zonesOnly_standbyZone (s : State) (i : Nat) : ZonesOnly s (s.standbyZone i) :=
  (((ZonesOnly.onZone s i _).trans (zonesOnly_takeSetpoint _ i _)).trans (zonesOnly_startTest _ i)).trans
    (zonesOnly_handOut _)

theorem zonesOnly_settleTest (s : State) (i : Nat) : ZonesOnly s (s.settleTest i) := by
  unfold State.settleTest; dsimp only; split
  · split
    · split <;> first | exact .onZone .. | exact .refl s
    · exact zonesOnly_stopSettle s i
  · exact .refl s

theorem zonesOnly_calibrationEntry (s : State) (i : Nat) : ZonesOnly s (s.calibrationEntry i) := by
  unfold State.calibrationEntry; dsimp only; split <;> first | exact zonesOnly_queueCalibration s i | exact .refl s

theorem zonesOnly_restartIfWarming (s : State) (i : Nat) : ZonesOnly s (s.restartIfWarming i) := by
  unfold State.restartIfWarming; split <;> first | exact zonesOnly_restartSettle s i | exact .refl s

theorem zonesOnly_switchTest (s : State) : ZonesOnly s s.switchTest := by
  unfold State.switchTest; split
  · exact .refl s
  · split
    · exact .refl s
    · split
      · exact (ZonesOnly.onZsv s _).trans
          (ZonesOnly.foldl _ (fun u i => (ZonesOnly.onZone u i _).trans (zonesOnly_restartIfWarming _ i)) _ _)
      · exact .refl s

theorem zonesOnly_takeOccupancy (s : State) : ZonesOnly s s.takeOccupancy :=
  ZonesOnly.foldl _ (fun u i => ZonesOnly.onZone u i _) _ s

theorem zonesOnly_handOverOccupancy (s : State) : ZonesOnly s s.handOverOccupancy :=
  (zonesOnly_takeOccupancy s).trans (zonesOnly_startThenHandOut _)

theorem zonesOnly_handOverAdvance (s : State) : ZonesOnly s s.handOverAdvance := by
  unfold State.handOverAdvance; dsimp only; split
  · split
    · exact (zonesOnly_takeOccupancy s).trans (zonesOnly_requeueOwner _ _)
    · exact (zonesOnly_takeOccupancy s).trans (zonesOnly_startThenHandOut _)
  · exact (zonesOnly_takeOccupancy s).trans (zonesOnly_startThenHandOut _)

theorem zonesOnly_zonesLineReset (s : State) : ZonesOnly s s.zonesLineReset :=
  (ZonesOnly.onZsv s _).trans (zonesOnly_startTests _)

theorem zonesOnly_zoneAction (s : State) (a : ZoneAction) (i : Nat) : ZonesOnly s (s.zoneAction a i).1 := by
  unfold State.zoneAction
  split <;> first
    | exact .refl s
    | exact zonesOnly_warmZone s i
    | exact zonesOnly_standbyZone s i
    | exact zonesOnly_offZone s i
    | exact zonesOnly_queueCalibration s i
    | (unfold State.returnToStandby; split <;> first
        | exact .refl s
        | exact (ZonesOnly.onZone s i _).trans (zonesOnly_takeSetpoint _ i _))
    | (unfold State.purgeCommand; split <;> first | exact .refl s | exact zonesOnly_pendPurge ..)
    | (split <;> first | exact .refl s | exact zonesOnly_warmZone s i)

theorem zonesOnly_zoneActions (a : ZoneAction) (l : List Nat) (s : State) : ZonesOnly s (State.zoneActions a l s).1 := by
  induction l generalizing s with
  | nil => exact .refl s
  | cons i rest ih => exact (zonesOnly_zoneAction s a i).trans (ih _)

theorem zonesAndNotices_faultZone (s : State) (i : Nat) (c : ZoneCause) : ZonesAndNotices s (s.faultZone i c) := by
  unfold State.faultZone; split
  · exact (((ZonesOnly.onZone s i _).notices.trans (.flagZone ..)).trans (.raise ..)).trans
      (zonesOnly_dropCalibration _ i).notices
  · exact .refl s

theorem zonesAndNotices_completeCalibration (s : State) (i : Nat) (raw reference : Int) :
    ZonesAndNotices s (s.completeCalibration i raw reference) :=
  ((((ZonesOnly.onZone s i _).trans (zonesOnly_releaseReference _)).trans (zonesOnly_returnZone _ i)).notices.trans
    (.raise ..)).trans (zonesOnly_startThenHandOut _).notices

theorem zonesAndNotices_purgeForced (s : State) (i : Nat) : ZonesAndNotices s (s.purgeForced i) :=
  ((ZonesAndNotices.flagZone s i _).trans (.raise ..)).trans (zonesOnly_startThenHandOut _).notices

theorem zonesAndNotices_freshReading (s : State) (i : Nat) (raw : Int) : ZonesAndNotices s (s.freshReading i raw) := by
  unfold State.freshReading; dsimp only; split
  · exact (ZonesOnly.onZone s i _).notices.trans (zonesAndNotices_faultZone ..)
  · exact ((((ZonesOnly.onZone s i _).trans (.onZone ..)).trans (zonesOnly_settleTest _ i)).trans
      (zonesOnly_calibrationEntry _ i)).notices

theorem zonesAndNotices_zoneNotice (s : State) (i : Nat) (c : Condition) : ZonesAndNotices s (s.zoneNotice i c) := by
  unfold State.zoneNotice; dsimp only; split
  · exact .refl s
  · exact (ZonesOnly.onZone s i _).notices.trans (zonesAndNotices_faultZone ..)
  · exact (ZonesOnly.onZone s i _).notices

theorem zonesAndNotices_zoneCode (s : State) (i code : Nat) : ZonesAndNotices s (s.zoneCode i code) := by
  unfold State.zoneCode; split
  · exact zonesAndNotices_faultZone ..
  · split <;> first | exact zonesAndNotices_faultZone .. | exact .refl s

theorem zonesAndNotices_zoneReadings (s : State) (i : Nat) (fresh : Bool) (status : Byte) (raw reference : Int) :
    ZonesAndNotices s (s.zoneReadings i fresh status raw reference) := by
  have h : ∀ t : State, ZonesAndNotices t
      (if compareDone status && t.compareStands i then t.completeCalibration i raw reference else t) := by
    intro t; split <;> first | exact zonesAndNotices_completeCalibration .. | exact .refl t
  unfold State.zoneReadings; dsimp only
  cases fresh
  · exact h s
  · exact (zonesAndNotices_freshReading s i raw).trans (h _)

theorem zonesAndNotices_zoneResponse (s : State) (i : Nat) (fresh : Bool) (code : Nat) (status : Byte)
    (raw reference : Int) : ZonesAndNotices s (s.zoneResponse i fresh code status raw reference) := by
  unfold State.zoneResponse; split
  · exact zonesAndNotices_zoneReadings ..
  · split
    · exact zonesAndNotices_zoneCode ..
    · split
      · exact (zonesAndNotices_zoneCode ..).trans (zonesAndNotices_zoneReadings ..)
      · exact (zonesAndNotices_zoneReadings ..).trans (zonesAndNotices_zoneCode ..)

/-! ## Which compare done stands (R132, R135) -/

theorem State.foldl_reference {α : Type} (g : State → α → State) (h : ∀ s a, (g s a).zsv.reference = s.zsv.reference)
    (l : List α) (s : State) : (l.foldl g s).zsv.reference = s.zsv.reference := by
  induction l generalizing s with
  | nil => rfl
  | cons a l ih => rw [List.foldl_cons, ih, h]

theorem State.reference_startTest (s : State) (i : Nat) : (s.startTest i).zsv.reference = s.zsv.reference := by
  unfold State.startTest; dsimp only; split
  · split <;> rfl
  · rfl

theorem State.reference_startTests (s : State) : s.startTests.zsv.reference = s.zsv.reference :=
  State.foldl_reference _ State.reference_startTest _ _

theorem State.compareStands_congr {s t : State} (h : t.zsv.reference = s.zsv.reference) (i : Nat) :
    t.compareStands i = s.compareStands i := by simp only [State.compareStands, h]

/-- A hand-out gives the reference to a zone that has not been asked yet: no compare done stands that did not stand before. -/
theorem State.compareStands_handOut (s : State) (i : Nat) : s.handOut.compareStands i = s.compareStands i := by
  unfold State.handOut; split
  · rfl
  · next h =>
    split
    · rfl
    · simp [State.compareStands, h, State.onZsv, State.onZone]

theorem State.compareStands_startThenHandOut (s : State) (i : Nat) :
    s.startThenHandOut.compareStands i = s.compareStands i := by
  rw [State.startThenHandOut, State.compareStands_handOut, State.compareStands_congr s.reference_startTests]

/-- A zone whose calibration is abandoned has no compare done standing, even where it is handed the reference again. -/
theorem State.compareStands_dropCalibration (s : State) (i : Nat) : (s.dropCalibration i).compareStands i = false := by
  unfold State.dropCalibration; split
  · rw [State.compareStands_startThenHandOut]; rfl
  · next h =>
    have : (s.leaveQueue i).compareStands i = s.compareStands i := rfl
    rw [this]
    unfold State.ownsReference at h; unfold State.compareStands
    cases hr : s.zsv.reference with
    | none => rfl
    | some r => rw [hr] at h; simp at h; simp [h]

theorem State.compareStands_faultZone (s : State) (i : Nat) (c : ZoneCause) (h : (s.zone i).state.heating = true) :
    (s.faultZone i c).compareStands i = false := by
  unfold State.faultZone; rw [if_pos h]; exact State.compareStands_dropCalibration ..

theorem State.compareStands_joinQueue (s : State) (i j : Nat) : (s.joinQueue i).compareStands j = s.compareStands j := by
  unfold State.joinQueue; split <;> rfl

theorem State.compareStands_calibrationEntry (s : State) (i : Nat) :
    (s.calibrationEntry i).compareStands i = s.compareStands i := by
  unfold State.calibrationEntry; dsimp only; split
  · rw [State.queueCalibration, State.compareStands_handOut, State.compareStands_joinQueue]
  · rfl

theorem State.compareStands_settleTest (s : State) (i j : Nat) : (s.settleTest i).compareStands j = s.compareStands j := by
  unfold State.settleTest; dsimp only
  split
  · split
    · split <;> rfl
    · rfl
  · rfl

/-! ## The limit (R107) -/

/-- What `retarget` answers is what R107 asks for. -/
theorem Zone.aimed_retarget (p : Profile) (sp : Int) (z : Zone) : z.aimed p sp (z.retarget p sp) := by
  unfold Zone.aimed Zone.retarget; dsimp only
  cases hc : z.corrected with
  | none => simp; split <;> simp_all
  | some c =>
    by_cases h : c ≤ sp + p.bandHalf
    · simp [h]
    · simp [h]; split <;> simp_all

end Sys2Proof.Machine
end

