-- ==== Sys2Proof/Laws/Sequencer.lean ====
section
/-! SUPPORT. How far each operation of SEQ reaches (SEQ, FCA, STR, ZSV and EVU, and in an advance WTR), and what `settle` does: the
hold points when SEQ is held, nothing when SEQ is at rest. -/

namespace Sys2Proof.Machine

/-- `t` is `s` with another SEQ, FCA, STR, ZSV and EVU. -/
def LineOnly (s t : State) : Prop :=
  t = { s with seq := t.seq, fca := t.fca, str := t.str, zsv := t.zsv, evu := t.evu }

theorem LineOnly.refl (s : State) : LineOnly s s := rfl
theorem LineOnly.onSeq (s : State) (f : Seq → Seq) : LineOnly s (s.onSeq f) := rfl
theorem LineOnly.onFca (s : State) (f : Fca → Fca) : LineOnly s (s.onFca f) := rfl
theorem LineOnly.onStr (s : State) (f : Str → Str) : LineOnly s (s.onStr f) := rfl
theorem LineOnly.raise (s : State) (c : EventClass) : LineOnly s (s.raise c) := rfl
theorem LineOnly.setMode (s : State) (m : SeqMode) : LineOnly s (s.setMode m) := rfl
theorem LineOnly.onOpenSegment (s : State) (f : Segment → Segment) : LineOnly s (s.onOpenSegment f) := rfl
theorem LineOnly.indexBelt (s : State) (d : Nat) : LineOnly s (s.indexBelt d) := rfl

theorem LineOnly.trans {s t u : State} (h : LineOnly s t) (k : LineOnly t u) : LineOnly s u := by
  unfold LineOnly at *; rw [k]; simp only; rw [h]

theorem ZonesOnly.line {s t : State} (h : ZonesOnly s t) : LineOnly s t := by
  unfold ZonesOnly LineOnly at *; rw [h]

theorem ZonesAndNotices.line {s t : State} (h : ZonesAndNotices s t) : LineOnly s t := by
  unfold ZonesAndNotices LineOnly at *; rw [h]

theorem lineOnly_enterHolding (s : State) (p : ReturnPoint) : LineOnly s (s.enterHolding p) := rfl

theorem lineOnly_enterFault (s : State) (r : SeqFaultReason) : LineOnly s (s.enterFault r) := by
  unfold State.enterFault; split <;> rfl

theorem lineOnly_toIdle (s : State) : LineOnly s s.toIdle := rfl

theorem lineOnly_toArmed (s : State) : LineOnly s s.toArmed := by
  unfold State.toArmed; split
  · rfl
  · split <;> rfl

theorem lineOnly_removeHead (s : State) : LineOnly s s.removeHead :=
  (LineOnly.onSeq s _).trans (zonesOnly_switchTest _).line

theorem lineOnly_headLeaves (s : State) : LineOnly s s.headLeaves :=
  (lineOnly_removeHead s).trans (.raise ..)

theorem lineOnly_endPanel (s : State) (reachedEnd : Bool) : LineOnly s (s.endPanel reachedEnd) := by
  unfold State.endPanel; dsimp only; split
  · exact (((LineOnly.onStr s _).trans (.onSeq ..)).trans (.onFca ..)).trans (lineOnly_headLeaves _)
  · rfl

theorem lineOnly_endStay (s : State) : LineOnly s s.endStay := by
  unfold State.endStay; dsimp only; split
  · exact (LineOnly.onSeq s _).trans (lineOnly_headLeaves _)
  · rfl

theorem lineOnly_endWork (s : State) : LineOnly s s.endWork := by
  unfold State.endWork; split
  · exact lineOnly_endPanel s false
  · split <;> first | exact lineOnly_endStay s | exact .refl s

theorem lineOnly_finishEnding (s : State) : LineOnly s s.finishEnding := by
  have h := (LineOnly.onSeq s fun q => { q with ending := Ending.none }).trans (lineOnly_endWork _)
  have hf := h.trans (lineOnly_enterFault _ .webEnd)
  unfold State.finishEnding; dsimp only
  cases s.seq.ending.webEnd <;> cases s.seq.ending.stop <;>
    simp only [Bool.false_eq_true, if_true, if_false]
  · exact h.trans (lineOnly_toArmed _)
  · exact h.trans (lineOnly_toIdle _)
  · exact hf
  · exact hf.trans (lineOnly_toIdle _)

theorem lineOnly_takeStep (s : State) (r : StepRecord) : LineOnly s (s.takeStep r) := .onFca ..

theorem lineOnly_beginFeed (s : State) (r : StepRecord) : LineOnly s (s.beginFeed r) := by
  unfold State.beginFeed; dsimp only; split
  · exact ((lineOnly_takeStep s r).trans (.onSeq ..)).trans (.onOpenSegment ..)
  · exact (lineOnly_takeStep s r).trans (.onSeq ..)

theorem lineOnly_takeWalk (s : State) (w : WalkStop) : LineOnly s (s.takeWalk w) := by
  unfold State.takeWalk; split
  · dsimp only; split
    · exact (LineOnly.onSeq s _).trans (lineOnly_enterHolding ..)
    · exact (LineOnly.onSeq s _).trans (lineOnly_beginFeed ..)
  · exact (lineOnly_endPanel s true).trans (lineOnly_toArmed _)
  · exact (lineOnly_endPanel s false).trans (lineOnly_toArmed _)

theorem lineOnly_walkOn (s : State) : LineOnly s s.walkOn := by
  unfold State.walkOn; split <;> first | exact .refl s | exact lineOnly_takeWalk ..

theorem lineOnly_beginStroke (s : State) (r : StepRecord) (st : StepRun) : LineOnly s (s.beginStroke r st) := by
  unfold State.beginStroke; dsimp only; split
  · exact (LineOnly.onSeq s _).trans (.onOpenSegment ..)
  · exact ((LineOnly.onSeq s _).trans (.indexBelt ..)).trans (.onOpenSegment ..)

theorem lineOnly_endRunWait (s : State) : LineOnly s s.endRunWait := by
  unfold State.endRunWait; split
  · split
    · exact lineOnly_beginStroke ..
    · exact ((LineOnly.onSeq s _).trans (.indexBelt ..)).trans (lineOnly_walkOn _)
  · exact .refl s

theorem lineOnly_foldMissed (s : State) : LineOnly s s.foldMissed := rfl

theorem lineOnly_foldCheck (s : State) (r : StepRecord) (n : Nat) : LineOnly s (s.foldCheck r n) := by
  unfold State.foldCheck; split
  · exact lineOnly_walkOn s
  · split
    · exact (lineOnly_foldMissed s).trans (lineOnly_enterFault ..)
    · split
      · rfl
      · exact (lineOnly_foldMissed s).trans (lineOnly_walkOn _)
    · exact (lineOnly_foldMissed s).trans (lineOnly_walkOn _)

theorem lineOnly_lastFoldCheck (s : State) (r : StepRecord) : LineOnly s (s.lastFoldCheck r) := by
  unfold State.lastFoldCheck; split <;> rfl

theorem lineOnly_openPanelNow (s : State) : LineOnly s s.openPanelNow := by
  unfold State.openPanelNow; split
  · exact .refl s
  · exact (((LineOnly.onFca s _).trans (.onSeq ..)).trans (.onStr ..)).trans (lineOnly_takeWalk ..)

theorem lineOnly_beginChunk (s : State) (target : Int) : LineOnly s (s.beginChunk target) := by
  unfold State.beginChunk; exact (LineOnly.onFca s _).trans (.onSeq ..)

theorem lineOnly_enterWaste (s : State) (target : Int) : LineOnly s (s.enterWaste target) :=
  ((LineOnly.onFca s _).trans (.onSeq ..)).trans (lineOnly_beginChunk ..)

theorem lineOnly_startPanel (s : State) : LineOnly s s.startPanel := by
  unfold State.startPanel; split <;> first | exact lineOnly_openPanelNow s | exact lineOnly_enterWaste ..

theorem lineOnly_repeatCheck (s : State) : LineOnly s s.repeatCheck := by
  unfold State.repeatCheck; split
  · exact (lineOnly_endStay s).trans (lineOnly_toArmed _)
  · split <;> first | exact lineOnly_openPanelNow s | exact lineOnly_beginChunk ..

theorem lineOnly_endWasteWait (s : State) : LineOnly s s.endWasteWait := by
  unfold State.endWasteWait; split
  · dsimp only; split
    · exact ((LineOnly.onSeq s _).trans (.indexBelt ..)).trans (lineOnly_repeatCheck _)
    · exact ((LineOnly.onSeq s _).trans (.indexBelt ..)).trans (lineOnly_beginChunk ..)
  · exact .refl s

/-! ## settle -/

theorem lineOnly_takeHold (s : State) : LineOnly s s.takeHold := by
  unfold State.takeHold; split
  · split <;> rfl
  · exact .refl s

theorem lineOnly_leaveHold (s : State) : LineOnly s s.leaveHold := by
  unfold State.leaveHold; split
  · exact .refl s
  · split <;> first
      | exact lineOnly_toArmed s
      | exact .setMode ..
      | exact .refl s
      | (split <;> first | exact lineOnly_beginFeed .. | exact .refl s)

theorem lineOnly_waitStep (s : State) : LineOnly s s.waitStep := by
  unfold State.waitStep; split
  · split <;> first | exact lineOnly_endWasteWait s | exact lineOnly_endRunWait s | exact .refl s
  · exact .refl s

theorem lineOnly_armedStart (s : State) : LineOnly s s.armedStart := by
  unfold State.armedStart; split <;> first | exact lineOnly_startPanel s | exact .refl s

theorem lineOnly_settle (s : State) : LineOnly s s.settle :=
  (((lineOnly_takeHold s).trans (lineOnly_leaveHold _)).trans (lineOnly_waitStep _)).trans (lineOnly_armedStart _)

/-- A state of SEQ that is no hold point, no WAIT and not ARMED stands through the end of an event. -/
theorem State.settle_of_stands {s : State} (h : s.seq.mode.stands = true) : s.settle = s := by
  have h1 : s.takeHold = s := by
    unfold State.takeHold; split
    · split <;> simp_all [SeqMode.stands]
    · rfl
  have h2 : s.leaveHold = s := by
    unfold State.leaveHold; split
    · rfl
    · split <;> simp_all [SeqMode.stands]
  have h3 : s.waitStep = s := by
    unfold State.waitStep; split
    · split <;> simp_all [SeqMode.stands]
    · rfl
  have h4 : s.armedStart = s := by
    unfold State.armedStart; split
    · simp_all [SeqMode.stands]
    · rfl
  simp [State.settle, h1, h2, h3, h4]

/-- SEQ at rest stands through the end of an event. -/
theorem State.settle_of_atRest {s : State} (h : s.atRest = true) : s.settle = s := by
  have h1 : s.takeHold = s := by
    unfold State.takeHold; split
    · split <;> simp_all [State.atRest]
    · rfl
  have h2 : s.leaveHold = s := by
    unfold State.leaveHold; split
    · rfl
    · split <;> simp_all [State.atRest]
  have h3 : s.waitStep = s := by
    unfold State.waitStep; split
    · split <;> simp_all [State.atRest] <;> omega
    · rfl
  have h4 : s.armedStart = s := by
    unfold State.armedStart; split
    · simp_all [State.atRest]
    · rfl
  simp [State.settle, h1, h2, h3, h4]

/-- Held, SEQ takes its hold point and does nothing else. -/
theorem State.settle_of_held {s : State} (h : s.held = true) :
    s.settle = { s with seq := { s.seq with mode := s.seq.mode.whenHeld }, evu := s.evu.whenHeld s.seq.mode } := by
  have hh : s.takeHold = { s with seq := { s.seq with mode := s.seq.mode.whenHeld }, evu := s.evu.whenHeld s.seq.mode } := by
    unfold State.takeHold; rw [if_pos h]
    cases s with
    | mk clock line pst seq fca wtr str zsv slm rcu evu hlp freeCtr pending =>
      cases seq with
      | mk jobs mode =>
        cases mode <;>
          simp [SeqMode.whenHeld, Evu.whenHeld, State.enterHolding, State.setMode, State.onSeq, State.raise, State.onEvu]
  have h1 : s.takeHold.held = true := by rw [hh]; exact h
  have h2 : s.takeHold.leaveHold = s.takeHold := by unfold State.leaveHold; rw [if_pos h1]
  have hm : s.takeHold.seq.mode = s.seq.mode.whenHeld := by rw [hh]
  have h3 : s.takeHold.waitStep = s.takeHold := by
    unfold State.waitStep; split
    · split
      · rename_i h4; rw [hm] at h4; cases hs : s.seq.mode <;> rw [hs] at h4 <;> simp [SeqMode.whenHeld] at h4
      · rename_i h4; rw [hm] at h4; cases hs : s.seq.mode <;> rw [hs] at h4 <;> simp [SeqMode.whenHeld] at h4
      · rfl
    · rfl
  have h4 : s.takeHold.armedStart = s.takeHold := by
    unfold State.armedStart; split
    · rename_i h4; have h4 := h4.1; rw [hm] at h4
      cases hs : s.seq.mode <;> rw [hs] at h4 <;> simp [SeqMode.whenHeld] at h4
    · rfl
  rw [State.settle, h2, h3, h4, hh]

/-! ## The begin of a step's feed, and the walk to it -/

@[simp] theorem State.beginFeed_seq (s : State) (r : StepRecord) : (s.beginFeed r).seq = { s.seq with
    mode := .runFeed, feedPort := some (s.stepAnswer r).counts
    step := some { graded := (s.stepAnswer r).graded, interval := (s.stepAnswer r).interval, stroked := false
                   retries := 0 } } := by
  unfold State.beginFeed; dsimp only; split <;> rfl

@[simp] theorem State.beginFeed_fca (s : State) (r : StepRecord) : (s.beginFeed r).fca = (s.takeStep r).fca := by
  unfold State.beginFeed; dsimp only; split <;> rfl

theorem State.beginFeed_str (s : State) (r : StepRecord) : (s.beginFeed r).str =
    if (s.stepAnswer r).clamped then { s.str with
      segments := modifyLast (fun g => g.setFlags PanelFlags.setCompLimit) s.str.segments } else s.str := by
  unfold State.beginFeed; dsimp only; split <;> rfl

@[simp] theorem State.beginFeed_zsv (s : State) (r : StepRecord) : (s.beginFeed r).zsv = s.zsv := by
  unfold State.beginFeed; dsimp only; split <;> rfl

@[simp] theorem State.beginFeed_evu (s : State) (r : StepRecord) : (s.beginFeed r).evu = s.evu := by
  unfold State.beginFeed; dsimp only; split <;> rfl

/-- The feed that `beginFeed` begins is the one `stepFed` speaks of. -/
theorem State.stepFed_beginFeed (s : State) (r : StepRecord) : s.stepFed (s.beginFeed r) r := by
  simp [State.stepFed]

theorem walkTo_forming {steps : List StepRecord} {i : Nat} {r : StepRecord} (cs : List (Nat × Nat)) (fuel : Nat)
    (h : steps[i]? = some r) (hf : r.forming) : walkTo steps (fuel + 1) i cs = .forming i r cs := by
  obtain ⟨h1, h2⟩ := hf
  rw [walkTo, h]
  cases hk : r.kind <;> simp_all

/-- With a forming record next, the walk comes to it with the counters as they were. -/
theorem State.walkOn_forming {s : State} {p : OpenPanel} {r : StepRecord} (hp : s.seq.openPanel = some p)
    (h : s.headJobSteps[p.pointer + 1]? = some r) (hf : r.forming) :
    s.walkOn = s.takeWalk (.forming (p.pointer + 1) r p.counters) := by
  simp only [State.walkOn, hp]
  rw [show walkFuel = 255 + 1 from rfl, walkTo_forming p.counters 255 h hf]

theorem State.takeWalk_held {s : State} (i : Nat) (r : StepRecord) (cs : List (Nat × Nat)) (h : s.held = true) :
    s.takeWalk (.forming i r cs) =
      (s.onSeq fun q => { q with
        step := none, openPanel := q.openPanel.map fun p => { p with pointer := i, counters := cs } }).enterHolding
        .runFeed := by
  unfold State.takeWalk
  exact if_pos h

theorem State.takeWalk_forming {s : State} (i : Nat) (r : StepRecord) (cs : List (Nat × Nat)) (h : s.held = false) :
    s.takeWalk (.forming i r cs) =
      (s.onSeq fun q => { q with
        step := none, openPanel := q.openPanel.map fun p => { p with pointer := i, counters := cs } }).beginFeed r := by
  have h' : ¬s.held = true := by simp [h]
  unfold State.takeWalk
  exact if_neg h'

/-! ## What no operation of ZSV or SEQ turns into: the hold reasons that follow the zones -/

/-- The state of a zone that is FAULT or not, seen through the fault hold alone, follows ZSV and the number of zones. -/
theorem State.held_congr {s t : State} (h1 : t.seq.hostHold = s.seq.hostHold) (h2 : t.seq.silentHold = s.seq.silentHold)
    (h3 : t.seq.rollHold = s.seq.rollHold) (h4 : t.rcu = s.rcu) (h5 : t.anyZoneFault = s.anyZoneFault) :
    t.held = s.held := by
  simp [State.held, State.holdReasons, h1, h2, h3, h4, h5]

end Sys2Proof.Machine
end

