-- ==== Sys2Proof/Laws/Units.lean ====
section
/-! SUPPORT. How far the operations of the web, the belt, the rolls and the stations reach. `UnitsOnly` leaves the clock, the
configuration, the patterns, SLM, HLP, the free-value count and the queue of commands as they were; `StationsOnly` lets SLM
change too. Then what a poll's outcome does. -/

namespace Sys2Proof.Machine

/-! ## The web -/

/-- `t` is `s` with another WTR and STR. -/
def WebOnly (s t : State) : Prop := t = { s with wtr := t.wtr, str := t.str }

theorem WebOnly.refl (s : State) : WebOnly s s := rfl
theorem WebOnly.onWtr (s : State) (f : Wtr → Wtr) : WebOnly s (s.onWtr f) := rfl
theorem WebOnly.onStr (s : State) (f : Str → Str) : WebOnly s (s.onStr f) := rfl

theorem WebOnly.trans {s t u : State} (h : WebOnly s t) (k : WebOnly t u) : WebOnly s u := by
  unfold WebOnly at *; rw [k]; simp only; rw [h]

theorem webOnly_reachMarks (s : State) : WebOnly s s.reachMarks := by
  unfold State.reachMarks; dsimp only; split <;> rfl

theorem webOnly_passMarks (s : State) : WebOnly s s.passMarks := .onWtr ..
theorem webOnly_closeOpenMark (s : State) : WebOnly s s.closeOpenMark := .onWtr ..

theorem webOnly_growOpenMark (s : State) : WebOnly s s.growOpenMark := by
  unfold State.growOpenMark; split <;> rfl

theorem webOnly_takeAdvance (s : State) : WebOnly s s.takeAdvance := by
  unfold State.takeAdvance; dsimp only
  refine (webOnly_growOpenMark s).trans (WebOnly.trans ?_ ((webOnly_reachMarks _).trans (webOnly_passMarks _)))
  split
  · exact webOnly_closeOpenMark _
  · exact .refl _

theorem webOnly_enterRegion (s : State) (r : Mark) : WebOnly s (s.enterRegion r) :=
  (WebOnly.onWtr s _).trans (webOnly_reachMarks _)

theorem webOnly_makeSplice (s : State) (profileId : Nat) : WebOnly s (s.makeSplice profileId) :=
  (WebOnly.onWtr s _).trans (webOnly_reachMarks _)

/-- WTR changes neither B nor the belt requests. -/
theorem State.reachMarks_belt (s : State) :
    s.reachMarks.str.belt = s.str.belt ∧ s.reachMarks.str.pendingIdx = s.str.pendingIdx := by
  unfold State.reachMarks; dsimp only; split <;> exact ⟨rfl, rfl⟩

/-! ## The belt and the cutter -/

/-- `t` is `s` with another STR and ZSV. -/
def BeltOnly (s t : State) : Prop := t = { s with str := t.str, zsv := t.zsv }

theorem BeltOnly.refl (s : State) : BeltOnly s s := rfl
theorem BeltOnly.onStr (s : State) (f : Str → Str) : BeltOnly s (s.onStr f) := rfl

theorem BeltOnly.trans {s t u : State} (h : BeltOnly s t) (k : BeltOnly t u) : BeltOnly s u := by
  unfold BeltOnly at *; rw [k]; simp only; rw [h]

theorem ZonesOnly.belt {s t : State} (h : ZonesOnly s t) : BeltOnly s t := by
  unfold ZonesOnly BeltOnly at *; rw [h]

theorem beltOnly_cutCheck (s : State) : BeltOnly s s.cutCheck := by
  unfold State.cutCheck; split
  · split <;> rfl
  · rfl

theorem beltOnly_beltConsequences (s : State) : BeltOnly s s.beltConsequences :=
  (((BeltOnly.onStr s _).trans (zonesOnly_handOverAdvance _).belt).trans (zonesOnly_switchTest _).belt).trans
    (beltOnly_cutCheck _)

theorem beltOnly_beltDone {s t : State} (h : s.beltDone = some t) : BeltOnly s t := by
  unfold State.beltDone at h; split at h
  · cases h; exact (BeltOnly.onStr s _).trans (beltOnly_beltConsequences _)
  · cases h

theorem beltOnly_stopBelt (s : State) (moved : Nat) : BeltOnly s (s.stopBelt moved) := by
  unfold State.stopBelt; dsimp only; split
  · exact .onStr ..
  · exact (BeltOnly.onStr s _).trans (beltOnly_beltConsequences _)

/-! ## Everything but SLM and HLP -/

/-- `t` is `s` with other blocks of the line: SEQ, FCA, WTR, STR, ZSV, RCU and EVU. -/
def UnitsOnly (s t : State) : Prop :=
  t = { s with seq := t.seq, fca := t.fca, wtr := t.wtr, str := t.str, zsv := t.zsv, rcu := t.rcu, evu := t.evu }

theorem UnitsOnly.refl (s : State) : UnitsOnly s s := rfl
theorem UnitsOnly.onSeq (s : State) (f : Seq → Seq) : UnitsOnly s (s.onSeq f) := rfl
theorem UnitsOnly.onRcu (s : State) (f : Rcu → Rcu) : UnitsOnly s (s.onRcu f) := rfl
theorem UnitsOnly.onUnwind (s : State) (u : UnwindId) (f : Unwind → Unwind) : UnitsOnly s (s.onUnwind u f) := rfl
theorem UnitsOnly.raise (s : State) (c : EventClass) : UnitsOnly s (s.raise c) := rfl

theorem UnitsOnly.trans {s t u : State} (h : UnitsOnly s t) (k : UnitsOnly t u) : UnitsOnly s u := by
  unfold UnitsOnly at *; rw [k]; simp only; rw [h]

theorem LineOnly.units {s t : State} (h : LineOnly s t) : UnitsOnly s t := by
  unfold LineOnly UnitsOnly at *; rw [h]

theorem ZonesAndNotices.units {s t : State} (h : ZonesAndNotices s t) : UnitsOnly s t := h.line.units

theorem WebOnly.units {s t : State} (h : WebOnly s t) : UnitsOnly s t := by
  unfold WebOnly UnitsOnly at *; rw [h]

theorem BeltOnly.units {s t : State} (h : BeltOnly s t) : UnitsOnly s t := by
  unfold BeltOnly UnitsOnly at *; rw [h]

theorem unitsOnly_writeReport (s : State) (r : Report) : UnitsOnly s (s.writeReport r) := by
  unfold State.writeReport; dsimp only; split <;> rfl

theorem unitsOnly_cutDone {s t : State} (h : s.cutDone = some t) : UnitsOnly s t := by
  unfold State.cutDone at h; split at h
  · cases h; exact ((BeltOnly.onStr s _).trans (beltOnly_cutCheck _)).units
  · rename_i g _ _ _
    cases h
    have k : UnitsOnly s (s.finishSegment g) := by
      unfold State.finishSegment
      exact (unitsOnly_writeReport s _).trans (BeltOnly.onStr _ _).units
    exact k.trans
      (((zonesOnly_handOverOccupancy _).belt.trans (zonesOnly_switchTest _).belt).trans (beltOnly_cutCheck _)).units
  · cases h

theorem unitsOnly_feedAdvance (s : State) (counts : Nat) : UnitsOnly s (s.feedAdvance counts) := by
  unfold State.feedAdvance; dsimp only; split
  · exact ((UnitsOnly.onSeq s _).trans (LineOnly.onOpenSegment _ _).units).trans (webOnly_takeAdvance _).units
  · exact (UnitsOnly.onSeq s _).trans (webOnly_takeAdvance _).units

theorem unitsOnly_webEnd (s : State) : UnitsOnly s s.webEnd := by
  unfold State.webEnd; split
  · rfl
  · rfl
  · rfl
  · rfl
  · exact ((lineOnly_endWork s).trans (lineOnly_enterFault _ _)).units

theorem unitsOnly_guardStop (s : State) (fed moved : Nat) : UnitsOnly s (s.guardStop fed moved) := by
  unfold State.guardStop; dsimp only
  refine UnitsOnly.trans (t := if s.feeding then s.feedAdvance fed else s) ?_
    (((UnitsOnly.onSeq _ _).trans (beltOnly_stopBelt _ _).units).trans
      ((lineOnly_endWork _).trans (lineOnly_enterFault _ _)).units)
  split
  · exact unitsOnly_feedAdvance s fed
  · exact .refl s

/-! ## The rolls -/

theorem unitsOnly_revertChange (s : State) (c : Change) (cause : ChangeCause) : UnitsOnly s (s.revertChange c cause) := by
  unfold State.revertChange; split <;> rfl

theorem unitsOnly_failChange (s : State) (cause : ChangeCause) : UnitsOnly s (s.failChange cause) := rfl

theorem unitsOnly_breakChange (s : State) (cause : ChangeCause) : UnitsOnly s (s.breakChange cause) := by
  unfold State.breakChange; split
  · rfl
  · split <;> first | exact unitsOnly_revertChange .. | exact unitsOnly_failChange ..

theorem unitsOnly_rollEnd (s : State) (u : UnwindId) : UnitsOnly s (s.rollEnd u) := by
  unfold State.rollEnd; split
  · unfold State.activeRollEnd; split
    · exact unitsOnly_webEnd s
    · split
      · split
        · exact (UnitsOnly.trans (t := (s.endChange .failed (some .rollEnd)).raise .changeAbort) rfl (unitsOnly_webEnd _))
        · rfl
      · split
        · exact (unitsOnly_failChange s _).trans (unitsOnly_webEnd _)
        · rfl
  · rfl

theorem unitsOnly_rollRemoved (s : State) (u : UnwindId) : UnitsOnly s (s.rollRemoved u) := by
  unfold State.rollRemoved; split
  · rfl
  · rfl
  · rfl
  · refine UnitsOnly.trans ?_ (.onUnwind ..)
    unfold State.standbyRemoved; split
    · split
      · exact unitsOnly_breakChange ..
      · rfl
    · rfl
  · exact unitsOnly_rollEnd s u

theorem unitsOnly_unwindCode (s : State) (u : UnwindId) (code : Nat) : UnitsOnly s (s.unwindCode u code) := by
  unfold State.unwindCode; split
  · unfold State.rollLoaded; split <;> rfl
  · split
    · exact unitsOnly_rollRemoved s u
    · split
      · exact unitsOnly_rollEnd s u
      · rfl

theorem unitsOnly_unwindNotice (s : State) (u : UnwindId) (c : Condition) : UnitsOnly s (s.unwindNotice u c) := by
  unfold State.unwindNotice; dsimp only; split
  · rfl
  · exact (UnitsOnly.onUnwind s u _).trans (unitsOnly_breakChange ..)
  · rfl

theorem unitsOnly_unwindStatus (s : State) (u : UnwindId) (rs : RunState) : UnitsOnly s (s.unwindStatus u rs) := by
  unfold State.unwindStatus; dsimp only; split
  · rfl
  · split
    · rfl
    · split <;> rfl

theorem unitsOnly_tryAuto (s : State) (u : UnwindId) : UnitsOnly s (s.tryAuto u) := by
  unfold State.tryAuto; split
  · refine UnitsOnly.trans (t := s.startChange true) ?_ (.onUnwind ..)
    unfold State.startChange; split <;> rfl
  · split <;> rfl

theorem unitsOnly_unwindReading (s : State) (u : UnwindId) (remaining : Nat) : UnitsOnly s (s.unwindReading u remaining) := by
  unfold State.unwindReading; split
  · dsimp only; split
    · exact (UnitsOnly.onUnwind s u _).trans (unitsOnly_tryAuto ..)
    · rfl
  · rfl

theorem unitsOnly_unwindResponse (s : State) (u : UnwindId) (fresh : Bool) (rs : RunState) (newCode : Option Nat)
    (remaining : Nat) : UnitsOnly s (s.unwindResponse u fresh rs newCode remaining) := by
  have h (t : State) : UnitsOnly t (if fresh then t.unwindReading u remaining else t) := by
    cases fresh
    · exact .refl t
    · exact unitsOnly_unwindReading ..
  unfold State.unwindResponse; dsimp only
  cases newCode
  · exact (unitsOnly_unwindStatus s u rs).trans (h _)
  · exact ((unitsOnly_unwindStatus s u rs).trans (unitsOnly_unwindCode ..)).trans (h _)

theorem unitsOnly_tableNotice (s : State) (c : Condition) : UnitsOnly s (s.tableNotice c) := by
  unfold State.tableNotice; split <;> first | exact unitsOnly_breakChange .. | rfl

theorem unitsOnly_tableStatus (s : State) (st : TableStatus) : UnitsOnly s (s.tableStatus st) := by
  unfold State.tableStatus; split
  · rfl
  · split
    · exact (webOnly_makeSplice s _).units.trans rfl
    · rfl
    · rfl

theorem unitsOnly_tableResponse (s : State) (st : TableStatus) (code : Nat) : UnitsOnly s (s.tableResponse st code) := by
  unfold State.tableResponse; dsimp only; split
  · exact (unitsOnly_tableStatus s st).trans (unitsOnly_breakChange ..)
  · exact unitsOnly_tableStatus s st

theorem unitsOnly_accumulatorNotice (s : State) (c : Condition) : UnitsOnly s (s.accumulatorNotice c) := by
  unfold State.accumulatorNotice; dsimp only; split
  · exact (UnitsOnly.onRcu s _).trans (unitsOnly_breakChange ..)
  · rfl

theorem unitsOnly_accumulatorReading (s : State) (stock tension : Nat) :
    UnitsOnly s (s.accumulatorReading stock tension) := by
  have h (t : State) : UnitsOnly t (t.fillingTest stock) := by
    unfold State.fillingTest; split
    · split <;> rfl
    · rfl
  have k (t : State) : UnitsOnly t (t.deliverTension tension) := by
    unfold State.deliverTension; split <;> rfl
  exact (((UnitsOnly.onRcu s _).trans (k _)).trans (.onRcu ..)).trans (h _)

/-! ## What SLM delivers -/

theorem unitsOnly_notifyOwner (s : State) (n : Nat) (c : Condition) : UnitsOnly s (s.notifyOwner n c) := by
  unfold State.notifyOwner; split
  · split
    · exact (zonesAndNotices_zoneNotice s n c).units
    · rfl
  · exact unitsOnly_unwindNotice ..
  · exact unitsOnly_tableNotice ..
  · exact unitsOnly_accumulatorNotice ..
  · rfl

theorem unitsOnly_noticeIfChanged (s : State) (n : Nat) (before : Condition) :
    UnitsOnly s (s.noticeIfChanged n before) := by
  unfold State.noticeIfChanged; split
  · rfl
  · exact unitsOnly_notifyOwner ..

theorem unitsOnly_deliver (s : State) (n : Nat) (r : Response) (newCode : Option Nat) :
    UnitsOnly s (s.deliver n r newCode) := by
  unfold State.deliver; dsimp only; split
  · split
    · exact (zonesAndNotices_zoneResponse ..).units
    · rfl
  · exact unitsOnly_unwindResponse ..
  · exact unitsOnly_tableResponse ..
  · split
    · exact unitsOnly_accumulatorReading ..
    · rfl
  · rfl

/-- `t` is `s` with other blocks of the line and another SLM. -/
def StationsOnly (s t : State) : Prop :=
  t = { s with
    seq := t.seq, fca := t.fca, wtr := t.wtr, str := t.str, zsv := t.zsv, rcu := t.rcu, evu := t.evu, slm := t.slm }

theorem StationsOnly.refl (s : State) : StationsOnly s s := rfl
theorem StationsOnly.onSlm (s : State) (f : Slm → Slm) : StationsOnly s (s.onSlm f) := rfl
theorem StationsOnly.onStation (s : State) (n : Nat) (f : Station → Station) : StationsOnly s (s.onStation n f) := rfl

theorem StationsOnly.trans {s t u : State} (h : StationsOnly s t) (k : StationsOnly t u) : StationsOnly s u := by
  unfold StationsOnly at *; rw [k]; simp only; rw [h]

theorem UnitsOnly.stations {s t : State} (h : UnitsOnly s t) : StationsOnly s t := by
  unfold UnitsOnly StationsOnly at *; rw [h]

theorem stationsOnly_goodResponse (s : State) (n : Nat) (r : Response) : StationsOnly s (s.goodResponse n r) := by
  have q (t : State) : StationsOnly t (t.queueRequest n r.code) := by
    unfold State.queueRequest; split <;> rfl
  unfold State.goodResponse; dsimp only
  refine StationsOnly.trans ?_ (.onStation ..)
  refine StationsOnly.trans ?_ ((unitsOnly_noticeIfChanged ..).trans (unitsOnly_deliver ..)).stations
  split
  · exact (StationsOnly.onStation s n _).trans (q _)
  · exact .onStation ..

theorem stationsOnly_stationMiss (s : State) (n : Nat) (crc : Bool) : StationsOnly s (s.stationMiss n crc) := by
  unfold State.stationMiss; dsimp only
  refine StationsOnly.trans ?_ (unitsOnly_noticeIfChanged ..).stations
  split <;> rfl

theorem stationsOnly_sendPoll (s : State) : StationsOnly s s.sendPoll := by
  unfold State.sendPoll; split <;> rfl

theorem stationsOnly_startCycle (s : State) : StationsOnly s s.startCycle :=
  (StationsOnly.onSlm s _).trans (stationsOnly_sendPoll _)

theorem stationsOnly_endCycle (s : State) : StationsOnly s s.endCycle := by
  unfold State.endCycle; dsimp only
  refine StationsOnly.trans (t := s.scanCompletion.onRcu fun r => { r with brakeSpent := false }) rfl ?_
  split
  · exact stationsOnly_sendPoll _
  · exact stationsOnly_startCycle _
  · split
    · exact (StationsOnly.onSlm _ _).trans (stationsOnly_sendPoll _)
    · exact (StationsOnly.onSlm _ _).trans (stationsOnly_startCycle _)

theorem stationsOnly_nextPoll (s : State) : StationsOnly s s.nextPoll := by
  unfold State.nextPoll; dsimp only; split
  · exact (StationsOnly.onSlm s _).trans (stationsOnly_endCycle _)
  · exact (StationsOnly.onSlm s _).trans (stationsOnly_sendPoll _)

/-! ## What a poll's outcome does (R163, R167, R168, R170) -/

/-- The notice of a changed condition goes to the station's owner. -/
theorem State.noticeIfChanged_eq (s : State) {n : Nat} (before : Condition) (h : 1 ≤ n) (h' : n ≤ 16) :
    s.noticeIfChanged n before = s.told n before := by
  unfold State.noticeIfChanged State.told State.notifyOwner roleOf
  dsimp only
  by_cases hc : (s.station n).condition = before
  · simp [hc]
  · simp only [hc, if_false]
    interval_cases n <;> simp

/-- A good response is booked, its owner told, its items delivered, and its code stored last. -/
theorem State.goodResponse_eq (s : State) {n : Nat} (r : Response) (h : 1 ≤ n) (h' : n ≤ 16) :
    s.goodResponse n r = (((s.booked n r).told n (s.station n).condition).deliver n r
      (if r.code ≠ (s.station n).lastCode then some r.code else none)).onStation n
        fun st => { st with lastCode := r.code } := by
  unfold State.goodResponse State.booked
  dsimp only
  rw [State.noticeIfChanged_eq _ _ h h']

/-- A miss is booked and its owner told. -/
theorem State.stationMiss_eq (s : State) {n : Nat} (crc : Bool) (h : 1 ≤ n) (h' : n ≤ 16) :
    s.stationMiss n crc = (s.missBooked n crc).told n (s.station n).condition := by
  unfold State.stationMiss State.missBooked
  dsimp only
  rw [State.noticeIfChanged_eq _ _ h h']

end Sys2Proof.Machine
end

