-- ==== Sys2Proof/Tests/Slice0.lean ====
section
/-! SUPPORT. Tests of the model against the manual's own examples and tables, smoke tests of WellFormed, and the witnesses: for
every statement of Obligations.lean that has hypotheses, a state and operands that meet them, clause by clause. A `test_` theorem
names the place of the manual its expected values come from. -/

namespace Sys2Proof.Tests

open Sys2Proof Sys2Proof.Machine

set_option Elab.async false

/-! ## Small states -/

/-- The state an outcome goes on with. -/
def after (o : Host.Outcome State Fault Refusal) : State :=
  match o with
  | .next s => s
  | _ => State.reset

/-- The line of the examples: R 250,000, L_t 6,000,000, four zones, clearance 100 mm, offsets 800, 1,200 and 3,000 mm. -/
def lineA : LineConfig :=
  { resolution := 250000, tunnel := 6000000, zones := 4, entry := 1000000, cut := 8000000, clearance := 100
    headOffset := 800, inspectOffset := 1200, tableOffset := 3000 }

/-- Profile 3 of the examples. -/
def profile3 : Profile :=
  { setTemp := 13500, bandHalf := 200, standbyDrop := 2000, shrink := 18000, refTension := 500, elasticity := 25
    minDwell := 40000, maxDwell := 90000 }

/-- Profile 5 of the examples. -/
def profile5 : Profile := { profile3 with setTemp := 12000, bandHalf := 150, standbyDrop := 1500 }

def form (kind : StepKind) (f d : Nat) (graded : Bool) (confirm : Confirm) : StepRecord :=
  { kind := kind, graded := graded, confirm := confirm, face := some f, depth := some d, loopTarget := none, loopCount := none }

def loop (target count : Nat) : StepRecord :=
  { kind := .loopBack, graded := false, confirm := .stop, face := none, depth := none, loopTarget := some target
    loopCount := some count }

def fin : StepRecord :=
  { kind := .panelEnd, graded := false, confirm := .stop, face := none, depth := none, loopTarget := none, loopCount := none }

def knife : StepRecord := form .knife 12000 9000 true .stop
def box : StepRecord := form .box 40000 15000 true .retry
def gap : StepRecord := form .spacer 30000 0 true .stop

/-- Pattern 12 of the example of Chapter 1. -/
def pattern12 : List StepRecord :=
  [gap, knife, knife, loop 1 9, form .spacer 20000 0 false .stop, box, form .spacer 10000 0 true .stop, loop 5 3, loop 4 1
  , gap, fin]

/-- A short pattern: knife, box, spacer, END. -/
def short : List StepRecord := [knife, box, gap, fin]

def entryOf (steps : List StepRecord) : PatternEntry :=
  { state := .valid, profileId := some 3, steps := steps, stepCount := steps.length, failure := none }

def job41 : Job := { jobId := 41, patternId := 7, panelCount := 12, grade := 10000, panelsDone := 4, cancelPending := false }

/-- A configured part: profiles 3 and 5, pattern 12 as in the manual, the short pattern as 7, pattern 9 LOADING. -/
def base : State :=
  { State.reset with
    line := some lineA
    pst := (((((State.reset.pst.setProfile 3 profile3).setProfile 5 profile5).setPattern 12 (entryOf pattern12)).setPattern 7
      (entryOf short)).setPattern 9 { entryOf [knife] with state := .loading, stepCount := 0 }) }

def withSeq (f : Seq → Seq) : State := base.onSeq f

/-- The open segment of panel 5 of job 41. -/
def openSeg : Segment :=
  { jobId := 41, panelNumber := 5, patternId := 7, profileId := 3, finished := 82000, b0 := 0, b1 := none, strokes := 1
    retries := 0, foldsMissed := 0, rawCounts := 0, flags := PanelFlags.none, leadNeeded := true, credit := 0
    exposure := 0, minTemp := none, maxTemp := none }

/-- SEQ in a mode with job 41 at the head, its panel open at step 1. -/
def running (m : SeqMode) : State :=
  { (withSeq fun q =>
      { q with
        mode := m, jobs := [job41], openPanel := some { number := 5, pointer := 1, counters := [] }
        step := some { graded := 40000, interval := 305, stroked := true, retries := 0 }
        triggers := { q.triggers with source := .pace } }) with
    rcu := { base.rcu with acc := { base.rcu.acc with starved := false } }
    fca := { base.fca with panelLp := some 82000 }
    str := { base.str with
      segments := [openSeg]
      panelsBegun := 1 } }

/-- SEQ in a mode of WASTE with job 41 at the head and a chunk of 12,500 counts. -/
def wasting (m : SeqMode) : State :=
  { (withSeq fun q =>
      { q with
        mode := m, jobs := [job41], chunk := some { counts := 12500, index := 50000, interval := 334 }
        wasteTarget := some 1329000, triggers := { q.triggers with source := .pace } }) with
    rcu := { base.rcu with acc := { base.rcu.acc with starved := false } } }

/-- Zone 2 as given, under zone profile 3, the scan running. -/
def zoneTwo (z : Zone) : State :=
  { base with
    slm := { base.slm with mode := .continuous }
    zsv := { base.zsv with zones := modifyAt base.zsv.zones 2 fun _ => z, profile := some 3 } }

def freshStation : Station := { Station.powerOn with state := .online, misses := 0 }

/-- A heating zone of profile 3 with no timer. -/
def warmZone (st : ZoneState) : Zone :=
  { Zone.powerOn with
    state := st, setpoint := some 13500, limit := some 14300, corrected := some 13480, lastRaw := some 13480 }

def markAt (kind : MarkKind) (coord stop : Int) : Mark := { kind := kind, coord := coord, stop := stop, reached := false }

/-! ## WellFormed: what cannot arrive is refused -/

theorem test_wellFormed_refuses_long_payload :
    (Instr.go 0#16 (List.replicate 1025 0#8)).wellFormed = false
      ∧ (Instr.go 0#16 (List.replicate 1024 0#8)).wellFormed = true := by decide +kernel

theorem test_wellFormed_refuses_high_and_known_kinds :
    (Instr.unknownKindRequest 0x80#8 0#16 []).wellFormed = false
      ∧ (Instr.unknownKindRequest 0x24#8 0#16 []).wellFormed = false
      ∧ (Instr.unknownKindRequest 0x7F#8 0#16 (List.replicate 1025 0#8)).wellFormed = false
      ∧ (Instr.unknownKindRequest 0x7F#8 0#16 []).wellFormed = true := by decide +kernel

theorem test_wellFormed_refuses_zone_numbers :
    (Instr.settleExpiry 0).wellFormed = false ∧ (Instr.purgeDeadline 9).wellFormed = false
      ∧ (Instr.forceTime 0).wellFormed = false ∧ (Instr.purgeEndTime 9).wellFormed = false
      ∧ (Instr.calibrationDue 0).wellFormed = false ∧ (Instr.calibrationDue 8).wellFormed = true := by decide +kernel

theorem test_wellFormed_refuses_empty_response :
    (Instr.stationResponse []).wellFormed = false ∧ (Instr.stationResponse [1#8]).wellFormed = true := by decide +kernel

/-! ## Frames and arithmetic -/

/-- The check value of the CRC with polynomial 0x1021 and initial value 0xFFFF (R204) over the digits 1 to 9. -/
theorem test_crc_of_digits :
    crc16 [0x31#8, 0x32#8, 0x33#8, 0x34#8, 0x35#8, 0x36#8, 0x37#8, 0x38#8, 0x39#8] = 0x29B1#16 := by decide +kernel

/-- R204, R207: a READ STATUS of tag 0x0102 with clear counters no, byte by byte but for the CRC. -/
theorem test_read_status_frame :
    (frameOf (.readStatus 0x0102#16 [0#8])).map (fun f => f.take 7)
      = some [0x5A#8, 0x00#8, 0x01#8, 0x02#8, 0x01#8, 0x02#8, 0x00#8] := by decide +kernel

/-- R190: a sound frame is its request, one with a wrong CRC a CRC error, a length of 1,025 a length error; bytes with no start
byte bring nothing about. -/
theorem test_receiver_judges :
    let go : List Byte := [0x5A#8, 0x00#8, 0x00#8, 0x24#8, 0x00#8, 0x07#8]
    commandsOf (go ++ crcBytes [0x00#8, 0x00#8, 0x24#8, 0x00#8, 0x07#8]) = [.go 7#16 []]
      ∧ commandsOf (go ++ [0x00#8, 0x00#8]) = [.frameCrcError] ∧ commandsOf [0x5A#8, 0x04#8, 0x01#8] = [.frameLengthError]
      ∧ commandsOf [0x00#8, 0xA5#8] = [] := by decide +kernel

/-- R190: after a gap of more than 2 ms the late byte is itself hunted: a start byte that ends a gap begins the next frame. -/
theorem test_receiver_resumes :
    let go : List Byte := hostFrame 0x24#8 7#16 []
    (Receiver.hunting.receive ([Arrival.plain 0x5A#8, Arrival.plain 0x00#8]
        ++ { byte := 0x5A#8, late := true, noStop := false } :: go.tail.map Arrival.plain)).2 = [.interByteGap, .go 7#16 []]
      ∧ commandsOf ([0x11#8, 0x5A#8, 0xFF#8, 0xFF#8] ++ go) = [.frameLengthError, .go 7#16 []] := by decide +kernel

/-- R207: one kind of each group. -/
theorem test_kinds :
    commandOf 0x07#8 1#16 [] = .lineReset 1#16 [] ∧ commandOf 0x16#8 1#16 [] = .readSteps 1#16 []
      ∧ commandOf 0x28#8 1#16 [] = .stopLine 1#16 [] ∧ commandOf 0x30#8 1#16 [] = .reportDefect 1#16 []
      ∧ commandOf 0x38#8 1#16 [] = .readSegments 1#16 [] ∧ commandOf 0x41#8 1#16 [] = .readZones 1#16 []
      ∧ commandOf 0x52#8 1#16 [] = .changeRoll 1#16 [] ∧ commandOf 0x62#8 1#16 [] = .takeRequests 1#16 []
      ∧ commandOf 0x6B#8 1#16 [] = .setNotices 1#16 [] ∧ commandOf 0x08#8 1#16 [] = .unknownKindRequest 0x08#8 1#16 []
      ∧ commandOf 0x81#8 1#16 [] = .strayFrame := by decide +kernel

/-- R38, R204, R206: QUEUE JOB of job 0x0029, pattern 12, 12 panels, grade 10,000, in its field order. -/
theorem test_queue_job_fields :
    fieldAt [0x00#8, 0x29#8, 0x0C#8, 0x00#8, 0x0C#8, 0x27#8, 0x10#8] 0 2 = 41
      ∧ fieldAt [0x00#8, 0x29#8, 0x0C#8, 0x00#8, 0x0C#8, 0x27#8, 0x10#8] 5 2 = 10000 := by decide +kernel

/-- The worked case of Chapter 2: the interval example and the table of pattern 12. -/
theorem test_intervals :
    minInterval 40000 12420 (6000000 - 420000) = 90 ∧ minInterval 40000 12000 5260000 = 92
      ∧ minInterval 40000 40000 5260000 = 305 ∧ minInterval 40000 30000 5260000 = 229
      ∧ minInterval 40000 20000 5260000 = 153 ∧ minInterval 40000 10000 5260000 = 77 := by decide +kernel

/-- The worked case of R34 and R35, with the second feed of 2,000 counts. -/
theorem test_waste_chunks :
    wasteChunk 25000 237000 0 = (11850, 50000, 0) ∧ wasteChunk 1300 237000 0 = (1300, 5485, 55000)
      ∧ wasteChunk 2000 237000 55000 = (2000, 8439, 12000) ∧ minInterval 40000 50000 6000000 = 334
      ∧ minInterval 40000 5485 6000000 = 37 := by decide +kernel

/-- Chapter 2's prediction for pattern 12: Lp, P and the span (R30, R32, R33). -/
theorem test_pattern12_prediction :
    finishedLength pattern12 10000 = 740000 ∧ (expanded pattern12).length = 40
      ∧ prediction pattern12 1020500 250000 10000 = 403098 ∧ lookAheadSpan 403098 25000 = 436159 := by decide +kernel

/-- The example of Chapter 1: pattern 12 passes every check; with profile 3 EMPTY it fails PROFILE at 0. -/
theorem test_pattern12_closes :
    patternFailures base.pst (entryOf pattern12) = []
      ∧ patternFailures State.reset.pst (entryOf pattern12) = [(0, .profile)] := by decide +kernel

/-- R20: an END too early and a loop count of 0 give the lowest index, and END before RANGE. -/
theorem test_failure_order :
    chooseFailure (patternFailures base.pst (entryOf [fin, loop 0 0])) = some (0, .noEnd) := by decide +kernel

/-- R24, R26, R27: half up at grade 10,001; the two clamps of T; the clamp of G. -/
theorem test_stage_clamps :
    (form .knife 15000 1000 true .stop).gradedFace 10001 = 15002 ∧ tensionCorrection 10000 profile3 = 20000
      ∧ tensionCorrection 0 { profile3 with elasticity := 200 } = -20000 ∧ tensionCorrection 600 profile3 = 2500
      ∧ compFactor 150000 1 = (1150000, true) ∧ compFactor 150000 0 = (1150000, false) := by decide +kernel

/-- R206: a step record of 16 bytes, BOX, graded, RETRY, F 40,000, D 15,000, as sent. -/
theorem test_step_record_bytes :
    box.toBytes = [0x02#8, 0x01#8, 0x03#8, 0x00#8, 0x00#8, 0x00#8, 0x9C#8, 0x40#8, 0x00#8, 0x00#8, 0x3A#8, 0x98#8, 0xFF#8
                  , 0xFF#8, 0x00#8, 0x00#8] := by decide +kernel

/-! ## One command each -/

/-- R193, R196: GO is not in the table of R196; the reply is UNCONFIGURED, 0x0B. -/
theorem test_unconfigured_go :
    (after (exec (.go 5#16 []) State.reset)).hlp.buffer = [{ kind := 0x24#8, tag := 5#16, reply := [0x0B#8] }] := by
  decide +kernel

/-- R200: READ STATUS is answered OK and clears MARK pending after the reply has taken it. -/
theorem test_read_status_clears_mark :
    (after (exec (.readStatus 1#16 [0#8]) (withSeq fun q => { q with markPending := true }))).seq.markPending = false := by
  decide +kernel

/-- R46: a stroke period of 20 ms is stored as 60 and the reply is CLAMPED with the settings as stored. -/
theorem test_set_pace_clamps :
    ((after (exec (.setPace 1#16 [2#8, 0#8, 0#8, 0x03#8, 0xE8#8, 1#8, 2#8, 0#8, 0#8, 0#8, 20#8]) base)).hlp.buffer.map
      Answered.reply) = [[0x01#8, 2#8, 0#8, 0#8, 0x03#8, 0xE8#8, 1#8, 2#8, 0#8, 0#8, 0#8, 60#8]] := by decide +kernel

/-- R14: CLOSE PATTERN of a lone KNIFE fails END at its index 0: INVALID with reason 1, index 0. -/
theorem test_close_pattern_invalid :
    ((after (exec (.closePattern 1#16 [9#8]) base)).hlp.buffer.map Answered.reply) = [[0x09#8, 1#8, 0#8]] := by
  decide +kernel

/-- R13: LOAD STEPS outside LOADING is refused STATE. -/
theorem test_load_steps_state :
    ((after (exec (.loadSteps 1#16 (12#8 :: knife.toBytes)) base)).hlp.buffer.map Answered.reply) = [[0x02#8]] := by
  decide +kernel

/-- R38: the job of the example joins the queue as its one job; the reply carries 1. -/
theorem test_queue_job :
    ((after (exec (.queueJob 1#16 [0#8, 41#8, 12#8, 0#8, 12#8, 0x27#8, 0x10#8]) base)).hlp.buffer.map Answered.reply)
      = [[0x00#8, 1#8]] := by decide +kernel

/-- R12, R22 of the locked pattern: OPEN PATTERN is refused IN_USE while a queued job names it (R11). -/
theorem test_open_locked_pattern :
    ((after (exec (.openPattern 1#16 [7#8, 3#8]) (running .runWait))).hlp.buffer.map Answered.reply) = [[0x04#8]] := by
  decide +kernel

/-- The example of Chapter 3: HOLD in the WAIT of RUNNING gives HOLDING with return point RUNNING, WAIT and SEQ_HOLD. -/
theorem test_hold_in_wait :
    (after (exec (.hold 1#16 []) (running .runWait))).seq.mode = .holding .runWait
      ∧ (after (exec (.hold 1#16 []) (running .runWait))).evu.pendingSet = 8#16 := by decide +kernel

/-- The same example: at stroke-done with one FOLD edge of two, under RETRY, SEQ waits for the retry. -/
theorem test_retry_follows :
    (after (exec .strokeDone
      ((running .runStroke).onSeq fun q =>
        { q with bladePort := some .pairedOut, foldEdges := 1, lastStrokeStart := some 45000 }))).seq.mode = .runWait := by
  decide +kernel

/-- The example of Chapter 3, chunk 26 to 27: 4,000 counts remain, index 16,000 µm, interval 107 ms. -/
theorem test_last_chunk :
    (after (exec .wasteWaitEnd
      ((wasting .wasteWait).onSeq fun q => { q with feedTotal := 1525000 }))).seq.chunk
      = some { counts := 4000, index := 16000, interval := 107 } := by decide +kernel

/-- The state at which the example of Chapter 4 stands at 9,807,654. -/
def webExample : State :=
  { base with
    seq := { base.seq with feedTotal := 10007654, mode := .runFeed, feedPort := some 7654 }
    wtr := { base.wtr with
      marks := [markAt (.defect none true) 10300000 10307654, markAt (.splice 5) 12750000 12775000]
      headFabric := some 3, defectActive := true } }

/-- The example of Chapter 4: an inactive edge during a feed is a close pending; the feed-done closes the mark. -/
theorem test_close_pending_and_feed_done :
    (after (exec .defectInactiveEdge webExample)).wtr.closePending = true
      ∧ (after (exec .feedDone (after (exec .defectInactiveEdge webExample)))).wtr.marks
        = [markAt (.defect none false) 10300000 10315308, markAt (.splice 5) 12750000 12775000] := by decide +kernel

/-- The example of Chapter 4: the region touches the sensor mark; the reply carries 10,300,000 and 17,308. -/
theorem test_report_defect_merges :
    ((after (exec (.reportDefect 1#16 (beBytes 4 500000 ++ beBytes 6 2000 ++ beBytes 2 77))
      { webExample with
        seq := { webExample.seq with feedTotal := 10015308, mode := .runWait, feedPort := none }
        rcu := { base.rcu with acc := { base.rcu.acc with stock := 8000 } }
        wtr := { webExample.wtr with
          marks := [markAt (.defect none false) 10300000 10315308, markAt (.splice 5) 12750000 12775000] } })).hlp.buffer.map
      Answered.reply) = [0x00#8 :: (beBytes 8 10300000 ++ beBytes 6 17308)] := by decide +kernel

/-- The example of Chapter 5: at the scan completion of 148,000 the span is 6,260,000..7,000,000, wholly inside, and the
segment overlaps zone 4 alone. -/
theorem test_tunnel_geometry :
    let g : Segment := { openSeg with b0 := 20000000, b1 := some 20740000 }
    g.near 27000000 = 6260000 ∧ g.far 27000000 = 7000000 ∧ g.whollyInside 27000000 1000000 6000000 = true
      ∧ (List.range' 1 4).filter (g.overlaps 27000000 1000000 6000000 4) = [4]
      ∧ g.whollyInside 27000001 1000000 6000000 = false := by decide +kernel

/-- The example of Chapter 5: at the cut-done 39,080 < 40,000 sets SET_SHORT and the verdict is REJECT. -/
theorem test_tail_cut_verdict :
    let g : Segment := { openSeg with credit := 39080, exposure := 53920 }
    (g.settled (some profile3)).flags.setShort = true ∧ (g.settled (some profile3)).flags.setOver = false
      ∧ (g.settled (some profile3)).report.verdict = .reject
      ∧ (({ g with credit := 42080 } : Segment).settled (some profile3)).report.verdict = .good := by decide +kernel

/-- The example of R107: the switch to profile 5, then the delivery at 12,140. -/
theorem test_limits_at_switch :
    ((warmZone .ready).switched profile5).limit = some 14300 ∧ ((warmZone .ready).switched profile5).lowering = true
      ∧ ((warmZone .ready).switched profile5).state = .warming
      ∧ ({ (warmZone .ready).switched profile5 with corrected := some 12140 }.lowerLimit 150).limit = some 12600
      ∧ ({ (warmZone .ready).switched profile5 with corrected := some 12900 }.lowerLimit 150).limit = some 14300 := by
  decide +kernel

/-- The warm-up example: WARM on a cold OFF zone: setpoint 13,500, limit 14,300, timer STOPPED, deadline one interval on. -/
theorem test_warm_from_off :
    let t := (after (exec (.zoneCommand 1#16 [2#8, 1#8])
      ((zoneTwo { Zone.powerOn with corrected := some 2150, lastRaw := some 2150 }).onStation 2 fun _ => freshStation))).zone 2
    t.state = .warming ∧ t.setpoint = some 13500 ∧ t.limit = some 14300 ∧ t.lowering = false ∧ t.settle = .stopped
      ∧ t.purgeDeadline = some 300000 := by decide +kernel

/-- The example of Chapter 7: a READY zone that is occupied at its deadline waits with a force time of 120 s. -/
theorem test_purge_waits_for_gap :
    let t := (after (exec (.purgeDeadline 2)
      { zoneTwo { warmZone .ready with purgeDeadline := some 1020000, occupied := true, purgeCount := 18 } with
        clock := 1020000 })).zone 2
    t.state = .ready ∧ t.purgePending = true ∧ t.forceTime = some 1140000 ∧ t.purgeCount = 18 := by decide +kernel

/-- The example of Chapter 7: the compare of zone 4, and the clamp. -/
theorem test_compare_offsets :
    compareOffset 10470 10510 = (40, false) ∧ compareOffset 13560 12900 = (-500, true) ∧ compareOffset 13320 13385 = (65, false) := by
  decide +kernel

/-- The example of Chapter 8: at 519,700 the table reports SPLICED; the SPLICE stands at 42,827,500 with extent 25,000. -/
theorem test_splice_mark :
    let s : State :=
      { base with
        clock := 519700
        seq := { base.seq with feedTotal := 40000000 }
        rcu := { base.rcu with
          acc := { base.rcu.acc with stock := 8310 }
          unwindB := { base.rcu.unwindB with state := .ready, profileId := some 5 }
          change := some { phase := .splicing, old := .a, new := .b, deadline := 521100, automatic := true } } }
    (s.tableResponse .spliced 0).wtr.marks = [markAt (.splice 5) 42827500 42852500]
      ∧ ((s.tableResponse .spliced 0).rcu.change.map fun c => (c.phase, c.deadline)) = some (.cutting, 521700) := by
  decide +kernel

/-- The example of Chapter 9: the polls of scans 104 and 108 to 109. -/
theorem test_station_counts :
    (let st := Station.miss 3 false { freshStation with state := .missing, misses := 2, missCounter := 19, crcErrors := 5 }
     st.state = .lost ∧ st.misses = 3 ∧ st.missCounter = 20 ∧ st.crcErrors = 5)
      ∧ ({ Station.powerOn with recovery := 1 } : Station).answered.recovery = 2
      ∧ ({ Station.powerOn with recovery := 2 } : Station).answered.state = .online := by decide +kernel

/-- R208: a zone's response of 10 bytes, raw 13,310 and reference 13,385, renewal 7, code 0, is good. -/
theorem test_zone_response :
    let body := [2#8, 0x81#8, 7#8, 0#8, 0x33#8, 0xFE#8, 0x34#8, 0x49#8]
    judge 0 2 (body ++ crcBytes body)
      = .good { status := 0x81#8, renewal := 7, code := 0, readings := .zone 13310 13385 } := by decide +kernel

/-- R208, R162: the poll of a WARMING zone of setpoint 13,500 is address, HEAT, setpoint, no compare kind. -/
theorem test_zone_poll :
    ((zoneTwo (warmZone .warming)).pollFrame 2).take 5 = [2#8, 2#8, 0x34#8, 0xBC#8, 0xFF#8] := by decide +kernel

/-- Reports as the example of Chapter 10 has them before its overrun. -/
def ringExample : Evu :=
  let r (n : Nat) : Option Report := some { openSeg.report with sequence := n }
  { Evu.powerOn with
    slots := [r 104, r 105, r 106, r 107, r 100, r 101, r 102, r 103], writePos := 4, filled := 8, nextSeq := 108 }

/-- The example of Chapter 10: the overrun, and the release that named 100. -/
theorem test_report_overrun :
    let e := ringExample.write (openSeg.report)
    e.reportsInOrder.map Report.sequence = [101, 102, 103, 104, 105, 106, 107, 108] ∧ e.overrun = 1 ∧ e.writePos = 5
      ∧ (e.release 4).reportsInOrder.map Report.sequence = [105, 106, 107, 108]
      ∧ ((after (exec (.releaseReports 1#16 [4#8, 0#8, 100#8]) { base with evu := e })).hlp.buffer.map Answered.reply)
        = [[0x0A#8, 1#8, 0#8, 101#8]] := by decide +kernel

/-- The example of Chapter 10: PANEL_REPORT, enabled and not pending, calls for a notice; a class not enabled does not. -/
theorem test_notice_calls :
    ({ Evu.powerOn with enables := 0x51#16, pendingSet := 4#16 }.raise .panelReport).noticeWanted = true
      ∧ ({ Evu.powerOn with enables := 0x51#16, pendingSet := 5#16 }.raise .panelReport).noticeWanted = false
      ∧ ({ Evu.powerOn with enables := 0x51#16 }.raise .calDone).pendingSet = 0x100#16 := by decide +kernel

/-- R204, R207: the notice frame begins with kind 0xF0 and tag 0 and carries the pending set. -/
theorem test_notice_frame :
    ((after (exec .noticeBegin { base with evu := { base.evu with noticeWanted := true, pendingSet := 5#16 } })).hlp.transmitter)
      = .notice ([0x5A#8, 0#8, 2#8, 0xF0#8, 0#8, 0#8, 0#8, 5#8] ++ crcBytes [0#8, 2#8, 0xF0#8, 0#8, 0#8, 0#8, 5#8]) := by
  decide +kernel

/-- R43, R195: a silence expiry outside IDLE puts SILENT in the hold reason set and restarts the timer. -/
theorem test_silence :
    let t := after (exec .silenceTimeout
      { running .runFeed with hlp := { base.hlp with silenceTimeout := 500, silenceTimer := some 500 } })
    t.seq.silentHold = true ∧ t.hlp.silenceTimer = some 1000 ∧ t.seq.mode = .runFeed := by decide +kernel

/-- R202: LINE RESET leaves a configured part IDLE with an empty queue, its configuration kept. -/
theorem test_line_reset :
    let t := after (exec (.lineReset 1#16 []) (running .runStroke))
    t.seq.mode = .idle ∧ t.seq.jobs = [] ∧ t.str.segments = [] ∧ t.line = some lineA := by decide +kernel

/-- R189, R201: both straps high give 1,843,200 bit/s. -/
theorem test_power_on :
    (after (exec (.powerOnReset true true false false) base)).hlp.linkRate = 1843200
      ∧ (after (exec (.powerOnReset true true false false) base)).line = none := by decide +kernel

/-! ## Witnesses: a state and operands for the hypotheses of each statement, clause by clause -/

def answered : Answered := { kind := 0x24#8, tag := 1#16, reply := [0#8] }
def withBuffer (n : Nat) : State := base.onHlp fun h => { h with buffer := List.replicate n answered }

theorem witness_StepRunsFrontOrTicks_front :
    ({ base with pending := [.hold 1#16 [], .guardClose] } : State).pending = .hold 1#16 [] :: [.guardClose] := rfl

/-- Nothing due, one event due at its very time, two due. -/
theorem witness_StepRunsFrontOrTicks_clock :
    let one : State := base.onHlp fun h => { h with silenceTimer := some 0 }
    let two : State := one.onEvu fun e => { e with noticeWanted := true }
    base.pending = [] ∧ base.due = [] ∧ one.pending = [] ∧ one.due = [.silenceTimeout] ∧ two.pending = []
      ∧ 2 ≤ two.due.length := by decide +kernel

theorem witness_EveryCommandCompletes : ∀ a b g d, Instr.guardClose ≠ .powerOnReset a b g d := by
  intro a b g d h
  cases h

/-- Four requests in the buffer, and three. -/
theorem witness_LinkEventsCounted_full :
    requestOf (.go 5#16 [0xFF#8]) = some (0x24#8, 5#16, [0xFF#8]) ∧ 4 ≤ (withBuffer 4).hlp.buffer.length
      ∧ (withBuffer 3).room := by
  unfold State.room
  decide +kernel

/-- The first and the last refused kind of R196, and a payload of 1,024 bytes. -/
theorem witness_RefusedByLinkOrLength_unconfigured :
    let long : List Byte := List.replicate 1024 0#8
    (Instr.lineReset 5#16 long).wellFormed = true ∧ requestOf (.lineReset 5#16 long) = some (0x07#8, 5#16, long)
      ∧ (0x07#8 : Byte).toNat ∈ refusedKinds ∧ requestOf (.setNotices 5#16 []) = some (0x6B#8, 5#16, [])
      ∧ (0x6B#8 : Byte).toNat ∈ refusedKinds ∧ State.reset.line = none ∧ State.reset.room := by
  unfold State.room
  decide +kernel

/-- One byte short and one byte over, for SET PACE; no byte and one byte, for GO. -/
theorem witness_RefusedByLinkOrLength_length :
    (Instr.setPace 5#16 (List.replicate 10 1#8)).wellFormed = true ∧ payloadLength 0x23 = some 11
      ∧ (List.replicate 10 (1#8 : Byte)).length ≠ 11 ∧ (List.replicate 12 (1#8 : Byte)).length ≠ 11
      ∧ (Instr.go 5#16 [0#8]).wellFormed = true ∧ payloadLength 0x24 = some 0 ∧ ([0#8] : List Byte).length ≠ 0
      ∧ (withBuffer 3).taken := by
  unfold State.taken State.room
  decide +kernel

theorem witness_LinkEventsCounted : (withBuffer 3).room := by
  unfold State.room
  decide +kernel

/-- The transmitter idle, sending a reply, sending a notice, each with and without a notice wanted and replies waiting. -/
theorem witness_RepliesInOrderNoticeFirst :
    let sends (x : Transmitter) (n : Nat) (w : Bool) : State :=
      ((withBuffer n).onHlp fun h => { h with transmitter := x }).onEvu fun e => { e with noticeWanted := w }
    (sends (.reply []) 1 false).hlp.transmitter ≠ .idle
      ∧ ((sends .idle 0 true).hlp.transmitter = .idle ∧ (sends .idle 0 true).evu.noticeWanted = true)
      ∧ ((sends .idle 0 false).hlp.transmitter = .idle ∧ (sends .idle 0 false).evu.noticeWanted = false
          ∧ (sends .idle 0 false).hlp.buffer = [])
      ∧ ((sends (.reply []) 1 true).hlp.transmitter = .reply [] ∧ (sends (.reply []) 1 true).hlp.buffer = [answered])
      ∧ ((sends (.notice []) 1 true).hlp.transmitter = .notice [] ∧ (sends (.notice []) 1 true).hlp.buffer = [answered])
      ∧ ((sends (.notice []) 0 true).hlp.buffer = [] ∧ (sends (.notice []) 0 true).evu.noticeWanted = true)
      ∧ ((sends (.notice []) 0 false).hlp.buffer = [] ∧ (sends (.notice []) 0 false).evu.noticeWanted = false) := by
  decide +kernel

theorem witness_SilenceHoldsLine :
    let timed (s : State) : State := s.onHlp fun h => { h with silenceTimeout := 100, silenceTimer := some 100 }
    base.hlp.silenceTimer = none
      ∧ ((timed base).hlp.silenceTimer = some 100 ∧ (timed base).seq.mode = .idle)
      ∧ ((timed (running .runWait)).hlp.silenceTimer = some 100 ∧ (timed (running .runWait)).seq.mode ≠ .idle) := by
  decide +kernel

/-- A payload of 3 bytes; the timeouts 0, 1, 99, 100, 10,000 and 10,001. -/
theorem witness_ConfigureLinkSetsTimeout :
    State.reset.room ∧ (beBytes 3 0).length ≠ 4 ∧ (beBytes 4 0).length = 4 ∧ fieldAt (beBytes 4 0) 0 4 = 0
      ∧ fieldAt (beBytes 4 1) 0 4 = 1 ∧ fieldAt (beBytes 4 99) 0 4 = 99 ∧ fieldAt (beBytes 4 100) 0 4 = 100
      ∧ fieldAt (beBytes 4 10000) 0 4 = 10000 ∧ fieldAt (beBytes 4 10001) 0 4 = 10001 := by
  unfold State.room
  decide +kernel

def changing (p : ChangePhase) : Change := { phase := p, old := .a, new := .b, deadline := 30000, automatic := false }
def withChange (p : ChangePhase) : State := base.onRcu fun r => { r with change := some (changing p) }

/-- Zones OFF, in FAULT, purge pending, and steady; a change before and after its splice; none. -/
theorem witness_LineResetClears :
    base.taken ∧ (base.zone 2).state = .off ∧ ((zoneTwo { warmZone .ready with purgePending := true }).zone 2).state ≠ .off
      ∧ ((zoneTwo { warmZone .ready with purgePending := true }).zone 2).state ≠ .fault
      ∧ ((zoneTwo { warmZone .ready with purgePending := true }).zone 2).purgePending = true
      ∧ 2 ≤ (zoneTwo (warmZone .ready)).zoneCount ∧ ((zoneTwo (warmZone .ready)).zone 2).purgePending = false
      ∧ (zoneTwo (warmZone .ready)).taken
      ∧ (withChange .stopping).rcu.change = some (changing .stopping) ∧ (withChange .stopping).taken
      ∧ (withChange .splicing).rcu.change = some (changing .splicing) ∧ base.rcu.change = none := by
  unfold State.taken State.room
  decide +kernel

def lineBytes (c : LineConfig) : List Byte :=
  beBytes 4 c.resolution ++ beBytes 4 c.tunnel ++ beBytes 1 c.zones ++ beBytes 4 c.entry ++ beBytes 4 c.cut
    ++ beBytes 4 c.clearance ++ beBytes 4 c.headOffset ++ beBytes 4 c.inspectOffset ++ beBytes 4 c.tableOffset

def lineLow : LineConfig :=
  { resolution := 100000, tunnel := 1000000, zones := 2, entry := 0, cut := 1000000, clearance := 0, headOffset := 0
    inspectOffset := 0, tableOffset := 0 }

def lineHigh : LineConfig :=
  { resolution := 500000, tunnel := 12000000, zones := 8, entry := 10000000, cut := 40000000, clearance := 500
    headOffset := 3000, inspectOffset := 10000, tableOffset := 20000 }

def job12 : Job := { job41 with patternId := 12 }
def idleWith (j : Job) : State := withSeq fun q => { q with jobs := [j] }

/-- The lowest and the highest parameters are in range, one below is not; a busy part; a queued job that fails the new length
checks, and one that passes them. -/
theorem witness_LineConfigured :
    base.room ∧ (lineBytes lineLow).length = 33 ∧ LineConfig.ofBytes (lineBytes lineLow) = lineLow
      ∧ LineConfig.ofBytes (lineBytes lineHigh) = lineHigh ∧ lineLow.inRange = true ∧ lineHigh.inRange = true
      ∧ LineConfig.ofBytes (lineBytes { lineLow with resolution := 99999 }) = { lineLow with resolution := 99999 }
      ∧ ((running .runWait).line ≠ none ∧ (running .runWait).seq.mode ≠ .idle)
      ∧ ((idleWith job12).seq.mode = .idle ∧ (idleWith job12).slm.mode = .stopped
          ∧ (∀ i ∈ (idleWith job12).zoneNumbers, ((idleWith job12).zone i).state = .off)
          ∧ (idleWith job12).rcu.unwindA.state ≠ .active ∧ (idleWith job12).rcu.unwindB.state ≠ .active)
      ∧ lineLow.tunnel < 2 * finishedLength ((idleWith job12).pst.pattern 12).steps 10000
      ∧ 2 * finishedLength ((idleWith job12).pst.pattern 12).steps 10000 ≤ lineHigh.tunnel
      ∧ lineHigh.cut ≤ 60 * finishedLength ((idleWith job12).pst.pattern 12).steps 10000
      ∧ (idleWith job12).sized := by
  unfold State.room State.sized
  decide +kernel

def zoneBytesOf (a b c d e : Nat) : List Byte := beBytes 4 a ++ beBytes 4 b ++ beBytes 4 c ++ beBytes 4 d ++ beBytes 4 e

def rollBytes (r : RollSettings) : List Byte :=
  beBytes 4 r.capacity ++ beBytes 4 r.lowLimit ++ beBytes 4 r.resumeLevel ++ beBytes 4 r.spliceLevel
    ++ beBytes 4 r.threshold ++ [yesNo r.auto] ++ beBytes 4 r.fillingS ++ beBytes 4 r.stoppingS ++ beBytes 4 r.splicingS
    ++ beBytes 4 r.cuttingS ++ beBytes 4 r.restartingS ++ beBytes 4 r.spliceLength

def rollsLow : RollSettings :=
  { capacity := 1000, lowLimit := 0, resumeLevel := 1, spliceLevel := 1, threshold := 1, auto := true, fillingS := 1
    stoppingS := 1, splicingS := 1, cuttingS := 1, restartingS := 1, spliceLength := 20 }

/-- The lowest and highest zone settings and the recalibration intervals 0, 599 and 600; the lowest roll settings, and the
same with low limit and resume level equal. -/
theorem witness_SettingsStored :
    base.room ∧ (zoneBytesOf 1000 60 2 10 0).length = 20 ∧ fieldAt (zoneBytesOf 1000 60 2 10 0) 0 4 = 1000
      ∧ fieldAt (zoneBytesOf 60000 900 30 600 86400) 16 4 = 86400 ∧ fieldAt (zoneBytesOf 1000 60 2 10 599) 16 4 = 599
      ∧ fieldAt (zoneBytesOf 1000 60 2 10 600) 16 4 = 600 ∧ (zoneBytesOf 1000 60 2 10 0).tail.length ≠ 20
      ∧ (rollBytes rollsLow).length = 45 ∧ RollSettings.ofBytes (rollBytes rollsLow) = some rollsLow
      ∧ rollsLow.inRange = true ∧ (rollBytes { rollsLow with lowLimit := 1 }).length = 45
      ∧ ({ rollsLow with lowLimit := 1 } : RollSettings).inRange = false ∧ (rollBytes rollsLow).tail.length ≠ 45 := by
  unfold State.room
  decide +kernel

theorem witness_FramesRoundTrip :
    let long : List Byte := List.replicate 1024 0x5A#8
    (Instr.unknownKindRequest 0x7F#8 0xFFFF#16 long).wellFormed = true
      ∧ frameOf (.unknownKindRequest 0x7F#8 0xFFFF#16 long) = some (hostFrame 0x7F#8 0xFFFF#16 long)
      ∧ (Instr.go 5#16 []).wellFormed = true ∧ frameOf (.go 5#16 []) = some (hostFrame 0x24#8 5#16 []) :=
  ⟨by decide +kernel, rfl, by decide +kernel, rfl⟩

def profileLow : Profile :=
  { setTemp := 9000, bandHalf := 50, standbyDrop := 500, shrink := 0, refTension := 0, elasticity := 0, minDwell := 1000
    maxDwell := 1000 }

def withFabric (id : Nat) : State := base.onWtr fun w => { w with headFabric := some id }

/-- The lowest record for ids 1 and 16, and for 0 and 17; a field below its range; a profile in use by HEAD; one free. -/
theorem witness_ProfileLoadsAndReads_load :
    base.room ∧ base.pst.profiles.length = 16 ∧ (3#8 :: profileLow.toBytes).length = 23
      ∧ Profile.ofBytes profileLow.toBytes = profileLow ∧ profileLow.inRange = true
      ∧ fieldAt (16#8 :: profileLow.toBytes) 0 1 = 16 ∧ fieldAt (17#8 :: profileLow.toBytes) 0 1 = 17
      ∧ fieldAt (0#8 :: profileLow.toBytes) 0 1 = 0 ∧ fieldAt (1#8 :: profileLow.toBytes) 0 1 = 1
      ∧ fieldAt (3#8 :: { profileLow with setTemp := 8999 }.toBytes) 1 2 = 8999 ∧ profileLow.toBytes.length ≠ 23
      ∧ ((withFabric 3).room ∧ (withFabric 3).pst.profiles.length = 16 ∧ ((withFabric 3).pst.profile 3).isSome = true
          ∧ (withFabric 3).wtr.headFabric = some 3)
      ∧ (base.references 3).any = false := by
  unfold State.room
  decide +kernel

theorem witness_ProfileLoadsAndReads_read :
    base.room ∧ ([] : List Byte).length ≠ 1 ∧ fieldAt [0#8] 0 1 = 0 ∧ fieldAt [17#8] 0 1 = 17
      ∧ (fieldAt [3#8] 0 1 = 3 ∧ base.pst.profile 3 = some profile3)
      ∧ (fieldAt [16#8] 0 1 = 16 ∧ base.pst.profile 16 = none) ∧ base.pst.profile 1 = none := by
  unfold State.room
  decide +kernel

/-- Pattern ids 0, 1, 32 and 33, profile ids 0, 1, 16 and 17; a locked pattern and an open one. -/
theorem witness_PatternOpensOrEmpties :
    (running .runWait).room ∧ (running .runWait).pst.patterns.length = 32 ∧ ([7#8] : List Byte).length ≠ 2
      ∧ fieldAt [0#8, 1#8] 0 1 = 0 ∧ fieldAt [33#8, 1#8] 0 1 = 33 ∧ fieldAt [1#8, 0#8] 1 1 = 0
      ∧ fieldAt [1#8, 17#8] 1 1 = 17 ∧ fieldAt [32#8, 16#8] 0 1 = 32 ∧ fieldAt [32#8, 16#8] 1 1 = 16
      ∧ (∃ j ∈ (running .runWait).seq.jobs, j.patternId = 7) ∧ (∀ j ∈ (running .runWait).seq.jobs, j.patternId ≠ 32)
      ∧ (∀ j ∈ (running .runWait).seq.jobs, j.patternId ≠ 1) ∧ ([7#8, 3#8] : List Byte).length ≠ 1 := by
  unfold State.room
  decide +kernel

def loadingWith (n : Nat) : State :=
  base.onPst fun p => p.setPattern 9 { entryOf (List.replicate n knife) with state := .loading, stepCount := 0 }

def records (id : Byte) (n : Nat) : List Byte := id :: (List.replicate n knife.toBytes).flatten

/-- One record and sixteen; a payload of no whole record; an id of 33; a kind of 7 and a confirm mode of 0; a pattern not in
LOADING; load indexes 127 and 128, and 112 with sixteen records. -/
theorem witness_StepsAppend :
    base.room ∧ base.pst.patterns.length = 32
      ∧ (∀ n, n ≤ 16 → 1 ≤ n → ((records 9#8 1).dropLast).length ≠ 1 + 16 * n)
      ∧ (records 9#8 1).length = 1 + 16 * 1 ∧ (records 9#8 16).length = 1 + 16 * 16
      ∧ fieldAt (records 33#8 1) 0 1 = 33 ∧ (base.pst.pattern 7).state ≠ .loading ∧ (base.pst.pattern 9).state = .loading
      ∧ StepRecord.ofBytes (((records 9#8 16).drop (1 + 16 * 15)).take 16) = some knife
      ∧ StepRecord.ofBytes (7#8 :: knife.toBytes.tail) = none
      ∧ StepRecord.ofBytes (knife.toBytes.take 2 ++ 0#8 :: knife.toBytes.drop 3) = none
      ∧ ((loadingWith 127).pst.pattern 9).steps.length + 1 = 128
      ∧ ((loadingWith 112).pst.pattern 9).steps.length + 16 = 128
      ∧ 128 < ((loadingWith 128).pst.pattern 9).steps.length + 1 ∧ (loadingWith 128).room
      ∧ (loadingWith 128).pst.patterns.length = 32 := by
  unfold State.room
  decide +kernel

/-- The bytes of a KNIFE, a REPEAT and an END; records of each shape, a field at its greatest value. -/
theorem witness_StepRecordStored :
    (knife.toBytes.length = 16 ∧ StepRecord.ofBytes knife.toBytes = some knife)
      ∧ ((loop 255 255).toBytes.length = 16 ∧ StepRecord.ofBytes (loop 255 255).toBytes = some (loop 255 255))
      ∧ (fin.toBytes.length = 16 ∧ StepRecord.ofBytes fin.toBytes = some fin)
      ∧ (fin.kind = .panelEnd ∧ fin.face = none ∧ fin.depth = none ∧ fin.loopTarget = none ∧ fin.loopCount = none)
      ∧ ((form .box 4294967295 4294967295 true .skip).face = some 4294967295 ∧ 4294967295 < 4294967296) := by
  decide +kernel

/-- Ids 0, 33 and 32; a VALID pattern; LOADING patterns with no failure and with some. -/
theorem witness_CloseJudges :
    base.room ∧ base.pst.patterns.length = 32 ∧ (0#8 : Byte).toNat = 0 ∧ (33#8 : Byte).toNat = 33
      ∧ ((32#8 : Byte).toNat = 32 ∧ (base.pst.pattern 32).state ≠ .loading)
      ∧ ((base.pst.pattern 9).state = .loading ∧ patternFailures base.pst (base.pst.pattern 9) ≠ [])
      ∧ (let s := base.onPst fun p => p.setPattern 1 { entryOf short with state := .loading, stepCount := 0 }
         (s.room ∧ s.pst.patterns.length = 32) ∧ (s.pst.pattern 1).state = .loading
           ∧ patternFailures s.pst (s.pst.pattern 1) = []) := by
  unfold State.room
  decide +kernel

/-- One forming record taken twice, 126 taken 256 times, and none. -/
theorem witness_LoopRunsItsBody :
    (List.replicate 126 knife).length ≤ 126 ∧ (∀ r ∈ List.replicate 126 knife, r.kind ≠ .loopBack ∧ r.kind ≠ .panelEnd)
      ∧ (loop 0 1).kind = .loopBack ∧ (loop 0 1).loopTarget = some 0 ∧ (loop 0 1).loopCount = some 1
      ∧ (loop 0 255).loopCount = some 255 ∧ fin.kind = .panelEnd := by decide +kernel

/-- Graded and not; F and the grade at their bounds; a head job. -/
theorem witness_FaceGradedHalfUp :
    (form .knife 2000 1000 false .stop).face = some 2000 ∧ (form .knife 2000 1000 false .stop).graded = false
      ∧ (form .knife 80000 1000 true .stop).face = some 80000 ∧ (form .knife 80000 1000 true .stop).graded = true
      ∧ (form .knife 2000 1000 true .stop).gradedFace 9000 = 1800
      ∧ (form .knife 80000 1000 true .stop).gradedFace 11000 = 88000 ∧ (running .runFeed).headJob = some job41 := by
  decide +kernel

/-- No head job; a head job with its profile, T at its bounds, the sum at the limit and one above it. -/
theorem witness_FactorClampedAndTensionHeld :
    base.headJobProfile = none ∧ (running .runFeed).headJobProfile = some profile3
      ∧ (let s : State := (running .runFeed).onFca fun f => { f with tension := -20000 }
         s.headJobProfile = some profile3 ∧ -20000 ≤ s.fca.tension ∧ (0 : Int) ≤ 1000000 + profile3.shrink + s.fca.tension)
      ∧ (let s : State := (running .runFeed).onFca fun f => { f with tension := 132000 }
         s.headJobProfile = some profile3 ∧ (1000000 + profile3.shrink + s.fca.tension : Int) = 1150000)
      ∧ (let s : State := (running .runFeed).onFca fun f => { f with tension := 132001 }
         s.headJobProfile = some profile3 ∧ (1150000 : Int) < 1000000 + profile3.shrink + s.fca.tension) := by
  decide +kernel

theorem witness_FeedCountsExact_step :
    (running .runFeed).headJob = some job41 ∧ (running .runFeed).headJobProfile = some profile3 := by decide +kernel

theorem witness_FeedCountsExact_prediction :
    (idleWith job12).headJob = some job12 ∧ (idleWith job12).headJobProfile = some profile3
      ∧ (idleWith job12).line = some lineA := by decide +kernel

/-- R and w at their bounds; a minimum interval of 1 µm. -/
theorem witness_FeedCountsExact_chunks :
    100000 ≤ 100000 ∧ 500000 ≤ 500000 ∧ 0 < 100000 ∧ 499999 < 500000 ∧ 0 < 1 := by decide

def jobBytes (id pattern count grade : Nat) : List Byte := beBytes 2 id ++ beBytes 1 pattern ++ beBytes 2 count ++ beBytes 2 grade

def manyJobs (n : Nat) : State :=
  withSeq fun q => { q with jobs := (List.range n).map fun k => { job12 with jobId := k + 1 } }

def withTunnel (c : LineConfig) : State := { base with line := some c }

/-- Parameters at their bounds and beyond; a job id in the queue; a pattern that is not VALID; a depth that fits the face at
10,000 and not at 9,000; the two length checks; sixteen jobs queued, fifteen, and none. -/
theorem witness_JobQueued :
    base.taken ∧ (jobBytes 1 1 1 9000).length = 7 ∧ fieldAt (jobBytes 65535 32 9999 11000) 0 2 = 65535
      ∧ fieldAt (jobBytes 65535 32 9999 11000) 3 2 = 9999 ∧ fieldAt (jobBytes 65535 32 9999 11000) 5 2 = 11000
      ∧ fieldAt (jobBytes 0 1 1 9000) 0 2 = 0 ∧ fieldAt (jobBytes 1 1 1 8999) 5 2 = 8999
      ∧ ((running .runWait).taken ∧ ∃ j ∈ (running .runWait).seq.jobs, j.jobId = 41)
      ∧ (base.seq.jobs = [] ∧ (base.pst.pattern 9).state ≠ .valid ∧ (base.pst.pattern 12).state = .valid)
      ∧ (form .knife 12000 11000 true .stop).gradedFace 9000 < 11000
      ∧ (let s := base.onPst fun p => p.setPattern 7 (entryOf [form .knife 12000 11000 true .stop, fin])
         s.taken ∧ (s.pst.pattern 7).state = .valid
           ∧ (s.pst.pattern 7).steps[0]? = some (form .knife 12000 11000 true .stop))
      ∧ ((withTunnel { lineA with tunnel := 1479999 }).taken
          ∧ (withTunnel { lineA with tunnel := 1479999 }).tunnel < 2 * finishedLength (base.pst.pattern 12).steps 10000)
      ∧ 2 * finishedLength (base.pst.pattern 12).steps 10000 ≤ (withTunnel { lineA with tunnel := 1480000 }).tunnel
      ∧ ((withTunnel { lineA with cut := 44400001 }).taken
          ∧ 60 * finishedLength (base.pst.pattern 12).steps 10000 < (withTunnel { lineA with cut := 44400001 }).cutDistance)
      ∧ (depthFailure 10000 (base.pst.pattern 12).steps = none)
      ∧ ((manyJobs 16).taken ∧ 16 ≤ (manyJobs 16).seq.jobs.length ∧ ∀ j ∈ (manyJobs 16).seq.jobs, j.jobId ≠ 41)
      ∧ ((manyJobs 15).taken ∧ (manyJobs 15).seq.jobs.length < 16 ∧ (manyJobs 15).seq.jobs ≠ []) := by
  unfold State.taken State.room
  decide +kernel

def job42 : Job := { job41 with jobId := 42 }

/-- An id not queued; a job behind the head; the head with its panel open and SEQ at rest; in the FEED of WASTE; with no panel
in each state named, alone and with a job behind it; in HOLDING with return point WASTE, WAIT. -/
theorem witness_JobCancelled :
    let idle2 : State := withSeq fun q => { q with jobs := [job41, job42] }
    let armed2 : State :=
      (wasting .armed).onSeq fun q => { q with jobs := [job41, job42], chunk := none, wasteTarget := none }
    let held2 : State := (idle2.onSeq fun q => { q with mode := .holding .armed, hostHold := true })
    let heldWaste : State := (wasting (.holding .wasteWait)).onSeq fun q => { q with hostHold := true }
    (idle2.taken ∧ fieldAt (beBytes 2 7) 0 2 = 7 ∧ (∀ j ∈ idle2.seq.jobs, j.jobId ≠ 7))
      ∧ (idle2.seq.jobs = [job41, job42] ∧ job41.jobId ≠ 42 ∧ ∃ k ∈ [job42], k.jobId = 42)
      ∧ ((running .runFeed).taken ∧ (running .runFeed).seq.openPanel ≠ none ∧ (running .runFeed).atRest = true
          ∧ (running .runFeed).seq.jobs = [job41])
      ∧ ((wasting .wasteFeed).taken ∧ (wasting .wasteFeed).seq.mode = .wasteFeed)
      ∧ (idle2.seq.openPanel = none ∧ idle2.seq.mode.inWaste = false ∧ [job42] ≠ [] ∧ idle2.seq.mode = .idle)
      ∧ (armed2.taken ∧ armed2.seq.openPanel = none ∧ armed2.seq.mode = .armed ∧ armed2.held = false
          ∧ armed2.seq.triggers.source ≠ .command)
      ∧ (held2.taken ∧ held2.seq.mode = .holding .armed ∧ held2.held = true)
      ∧ ((idleWith job41).taken ∧ (idleWith job41).seq.jobs = [job41] ∧ (idleWith job41).seq.openPanel = none
          ∧ (idleWith job41).seq.mode.inWaste = false)
      ∧ (heldWaste.taken ∧ heldWaste.seq.openPanel = none ∧ heldWaste.seq.mode = .holding .wasteWait ∧ heldWaste.held = true) := by
  unfold State.taken State.room
  decide +kernel

def paceBytes (source pace mark fold stroke : Nat) : List Byte :=
  beBytes 1 source ++ beBytes 4 pace ++ beBytes 1 mark ++ beBytes 1 fold ++ beBytes 4 stroke

/-- Outside IDLE; sources 0, 1, 3 and 4; pace periods 999, 1,000, 600,000 and 600,001; stroke periods 59, 60, 2,000, 2,001. -/
theorem witness_PaceSet :
    ((running .runWait).taken ∧ (running .runWait).seq.mode ≠ .idle) ∧ (base.taken ∧ base.seq.mode = .idle)
      ∧ (paceBytes 1 1000 1 2 59).length = 11 ∧ (paceBytes 0 1000 1 2 60).getD 0 0#8 = 0#8
      ∧ (paceBytes 4 1000 1 2 60).getD 0 0#8 = 4#8 ∧ (paceBytes 1 1000 1 2 60).getD 0 0#8 = 1#8
      ∧ (paceBytes 3 1000 1 2 60).getD 0 0#8 = 3#8 ∧ fieldAt (paceBytes 1 999 1 2 60) 1 4 = 999
      ∧ fieldAt (paceBytes 1 1000 1 2 60) 1 4 = 1000 ∧ fieldAt (paceBytes 1 600000 1 2 60) 1 4 = 600000
      ∧ fieldAt (paceBytes 1 600001 1 2 60) 1 4 = 600001 ∧ (paceBytes 1 1000 1 2 60).getD 5 0#8 = 1#8
      ∧ (paceBytes 1 1000 1 2 60).getD 6 0#8 = 2#8 ∧ (paceBytes 1 1000 3 2 60).getD 5 0#8 = 3#8
      ∧ fieldAt (paceBytes 1 1000 1 2 59) 7 4 = 59 ∧ fieldAt (paceBytes 1 1000 1 2 60) 7 4 = 60
      ∧ fieldAt (paceBytes 1 1000 1 2 2000) 7 4 = 2000 ∧ fieldAt (paceBytes 1 1000 1 2 2001) 7 4 = 2001 := by
  unfold State.taken State.room
  decide +kernel

/-- A line ready to start: job 41 queued, A ACTIVE on profile 3, every zone READY on it, the head fabric its own. -/
def readyLine : State :=
  { (withSeq fun q => { q with jobs := [job41] }) with
    rcu := { base.rcu with
      acc := { base.rcu.acc with starved := false }
      unwindA := { base.rcu.unwindA with state := .active, profileId := some 3 } }
    wtr := { base.wtr with headFabric := some 3 }
    zsv := { base.zsv with zones := List.replicate 8 (warmZone .ready), profile := some 3 } }

/-- Each cause of refusal; held; not held with the arm conditions unmet; not held with them met. -/
theorem witness_GoStarts :
    let unfit : State := readyLine.onWtr fun w => { w with headFabric := some 5 }
    let held : State := readyLine.onSeq fun q => { q with hostHold := true }
    ((running .runWait).taken ∧ (running .runWait).seq.mode ≠ .idle) ∧ (base.taken ∧ base.seq.jobs = [])
      ∧ ((idleWith job41).rcu.unwindA.state ≠ .active ∧ (idleWith job41).rcu.unwindB.state ≠ .active)
      ∧ (readyLine.taken ∧ readyLine.seq.mode = .idle ∧ readyLine.seq.jobs ≠ [] ∧ readyLine.rcu.unwindA.state = .active
          ∧ readyLine.seq.guardIsOpen = false)
      ∧ (held.taken ∧ held.held = true) ∧ (unfit.taken ∧ unfit.held = false ∧ unfit.armMet = false)
      ∧ (readyLine.held = false ∧ readyLine.seq.triggers.source = .command ∧ readyLine.armMet = true) := by
  unfold State.taken State.room
  decide +kernel

theorem witness_HoldTaken : (running .runWait).taken ∧ base.taken := by
  unfold State.taken State.room
  decide +kernel

/-- The record under the step pointer of `running` is the BOX, the next the SPACER. -/
theorem running_records :
    (running .runWait).currentRecord = some box ∧ (running .runWait).headJobSteps[2]? = some gap ∧ gap.kind ≠ .loopBack
      ∧ gap.kind ≠ .panelEnd := by decide +kernel

theorem witness_ResumeReleases :
    let held (m : SeqMode) : State := (running m).onSeq fun q => { q with hostHold := true, lastStrokeStart := some 0 }
    let starved (m : SeqMode) : State := (held m).onRcu fun r => { r with acc := { r.acc with starved := true } }
    let waste : State := (wasting (.holding .wasteWait)).onSeq fun q => { q with hostHold := true, lastStrokeStart := some 0 }
    let done : State := withSeq fun q => { q with mode := .fault .guard }
    let next (s : State) : State := { s.restartSilence with seq := { s.seq with
      hostHold := false, silentHold := false, rollHold := if s.rcu.change = none then false else s.seq.rollHold } }
    ((running .runWait).onSeq fun q => { q with guardIsOpen := true }).taken
      ∧ ((held .runFeed).taken ∧ (held .runFeed).seq.guardIsOpen = false ∧ (held .runFeed).seq.mode.moving = true)
      ∧ ((starved (.holding .runWait)).taken ∧ (next (starved (.holding .runWait))).held = true)
      ∧ ((held (.holding .runWait)).taken ∧ (next (held (.holding .runWait))).held = false
          ∧ (held (.holding .runWait)).seq.step = some { graded := 40000, interval := 305, stroked := true, retries := 0 }
          ∧ (held (.holding .runWait)).clock < 0 + max (held (.holding .runWait)).seq.triggers.strokePeriod 305)
      ∧ (waste.taken ∧ (next waste).held = false
          ∧ waste.seq.chunk = some { counts := 12500, index := 50000, interval := 334 }
          ∧ waste.clock < 0 + max waste.seq.triggers.strokePeriod 334)
      ∧ ((held (.holding .armed)).seq.jobs ≠ [] ∧ (held (.holding .armed)).seq.triggers.source ≠ .command)
      ∧ ((held (.holding .runFeed)).taken ∧ (held (.holding .runFeed)).currentRecord = some box)
      ∧ (done.taken ∧ done.seq.openPanel = none ∧ done.seq.jobs = [])
      ∧ (let s : State := (wasting (.fault .guard)).onSeq fun q => { q with chunk := none, wasteTarget := none }
         s.taken ∧ s.seq.openPanel = none ∧ s.seq.jobs ≠ [] ∧ (next s).held = false
           ∧ s.seq.triggers.source ≠ .command)
      ∧ ((held (.fault .fold)).taken ∧ (held (.fault .fold)).seq.openPanel = some { number := 5, pointer := 1, counters := [] }
          ∧ (held (.fault .fold)).headJobSteps[1 + 1]? = some gap ∧ (next (held (.fault .fold))).held = false)
      ∧ ((starved (.fault .fold)).taken ∧ (next (starved (.fault .fold))).held = true) := by
  unfold State.taken State.room
  decide +kernel

/-- The WAIT of a step of `running` whose last stroke began at 0 has not run. -/
theorem witness_waiting :
    ((running .runWait).onSeq fun q => { q with lastStrokeStart := some 0 }).waiting 305 := by
  change (0 : Nat) < 0 + max 200 305
  decide

theorem witness_PanelAbortedLineStopped_abort :
    let held : State := (running (.holding .runWait)).onSeq fun q => { q with hostHold := true }
    (base.taken ∧ base.seq.mode = .idle)
      ∧ (let s : State := withSeq fun q => { q with mode := .fault .guard }
         s.taken ∧ s.seq.openPanel = none ∧ s.seq.mode = .fault .guard)
      ∧ ((running .runStroke).taken ∧ (running .runStroke).seq.mode.moving = true)
      ∧ (held.taken ∧ held.seq.mode = .holding .runWait ∧ held.seq.openPanel ≠ none ∧ held.held = true)
      ∧ ((running (.fault .fold)).taken ∧ (running (.fault .fold)).seq.openPanel ≠ none)
      ∧ ((running .runWait).taken ∧ (running .runWait).held = false ∧ (running .runWait).seq.triggers.source ≠ .command) := by
  unfold State.taken State.room
  decide +kernel

theorem witness_PanelAbortedLineStopped_stop :
    (base.taken ∧ base.seq.mode = .idle) ∧ ((running .runFeed).taken ∧ (running .runFeed).seq.mode.moving = true)
      ∧ ((running .runWait).taken ∧ (running .runWait).seq.mode ≠ .idle ∧ (running .runWait).seq.mode.moving = false
          ∧ (running .runWait).seq.openPanel ≠ none ∧ (running .runWait).seq.jobs = [job41])
      ∧ ((wasting .wasteWait).taken ∧ (wasting .wasteWait).seq.openPanel = none
          ∧ (wasting .wasteWait).seq.mode.inWaste = true ∧ (wasting .wasteWait).seq.jobs = [job41])
      ∧ (let s : State := withSeq fun q => { q with mode := .armed }
         s.taken ∧ s.seq.mode ≠ .idle ∧ s.seq.mode.moving = false ∧ s.seq.openPanel = none
           ∧ s.seq.mode.inWaste = false) := by
  unfold State.taken State.room
  decide +kernel

theorem witness_TriggersTakenOrIgnored :
    let source (m : SeqMode) (t : TriggerSource) : State :=
      readyLine.onSeq fun q => { q with mode := m, paceTimer := some 10000, triggers := { q.triggers with source := t } }
    (source .armed .pace).seq.triggers.source ≠ .mark
      ∧ ((source .armed .mark).seq.triggers.source = .mark ∧ (source .armed .mark).seq.triggers.markEdge = .rising
          ∧ (source .armed .mark).seq.mode = .armed ∧ (source .armed .mark).armMet = true)
      ∧ (source .idle .mark).seq.mode ≠ .armed ∧ base.seq.paceTimer = none
      ∧ ((source .armed .pace).seq.paceTimer = some 10000 ∧ (source .armed .pace).armMet = true)
      ∧ (source .runFeed .pace).seq.mode ≠ .armed := by decide +kernel

theorem witness_ArmConditions :
    readyLine.headJob = some job41 ∧ (readyLine.pst.pattern job41.patternId).profileId = some 3 ∧ readyLine.armMet = true
      ∧ readyLine.newTarget = none
      ∧ (readyLine.onWtr fun w => { w with marks := [markAt (.defect none false) (-200000) (-199999)] }).newTarget
          = some (-174999) := by decide +kernel

theorem witness_PanelStartActs :
    ((readyLine.onWtr fun w => { w with marks := [markAt (.defect none false) (-200000) (-199999)] }).newTarget
        = some (-174999))
      ∧ readyLine.newTarget = none ∧ readyLine.held = false ∧ readyLine.headJob = some job41
      ∧ readyLine.headJobProfileId = some 3 ∧ readyLine.headJobSteps[0]? = some knife ∧ knife.kind ≠ .loopBack
      ∧ knife.kind ≠ .panelEnd := by decide +kernel

/-- `running` and `wasting` in their FEED, with a count fed. -/
def feedingRun : State := (running .runFeed).onSeq fun q => { q with feedPort := some 7654, lastStrokeStart := some 0 }
def feedingWaste : State := (wasting .wasteFeed).onSeq fun q => { q with feedPort := some 12500, lastStrokeStart := some 0 }

theorem witness_FeedCompletes :
    let held (s : State) : State := s.onSeq fun q => { q with hostHold := true }
    let stopping : State := feedingRun.onSeq fun q => { q with ending := { q.ending with stop := true } }
    base.seq.feedPort = none
      ∧ (feedingRun.seq.feedPort = some 7654 ∧ feedingRun.seq.ending.any = false
          ∧ feedingRun.seq.step = some { graded := 40000, interval := 305, stroked := true, retries := 0 }
          ∧ feedingRun.seq.mode = .runFeed ∧ feedingRun.held = false
          ∧ feedingRun.clock < 0 + max feedingRun.seq.triggers.strokePeriod 305)
      ∧ (held feedingRun).held = true
      ∧ (feedingWaste.seq.feedPort = some 12500 ∧ feedingWaste.seq.ending.any = false
          ∧ feedingWaste.seq.chunk = some { counts := 12500, index := 50000, interval := 334 }
          ∧ feedingWaste.seq.mode = .wasteFeed ∧ feedingWaste.headCancelPending = false
          ∧ feedingWaste.clock < 0 + max feedingWaste.seq.triggers.strokePeriod 334 ∧ feedingWaste.seq.openPanel = none)
      ∧ (held feedingWaste).held = true
      ∧ (stopping.seq.ending.any = true ∧ stopping.seq.mode = .runFeed ∧ stopping.seq.openPanel ≠ none
          ∧ stopping.seq.ending.stop = true) := by decide +kernel

/-- A SPLICE just reached, one just not reached, a DEFECT just passed; in RUNNING and in WASTE. -/
theorem witness_AdvanceReachesMarks :
    let list : List Mark :=
      [markAt (.defect none false) (-195000) (-192346), markAt (.splice 5) (-192346) (-167346), markAt (.splice 3) (-192345) 0]
    let s : State := feedingRun.onWtr fun w => { w with marks := list }
    s.seq.feedPort = some 7654 ∧ s.wtr.closePending = false ∧ (∀ m ∈ s.wtr.marks, m.isOpen = false)
      ∧ (((s.seq.feedTotal + 7654 : Nat) : Int) - s.headOffsetCounts = -192346)
      ∧ (list.filter fun m => !m.reached && decide (m.coord ≤ -192346))
          = [markAt (.defect none false) (-195000) (-192346)] ++ markAt (.splice 5) (-192346) (-167346) :: []
      ∧ s.seq.mode = .runFeed ∧ s.seq.openPanel ≠ none
      ∧ (∀ m ∈ feedingRun.wtr.marks, m.isSplice = false)
      ∧ (feedingWaste.seq.mode = .wasteFeed ∧ feedingWaste.seq.openPanel = none ∧ feedingWaste.wtr.closePending = false
          ∧ ∀ m ∈ feedingWaste.wtr.marks, m.isOpen = false) := by decide +kernel

/-- A first stroke and a retry of a BOX; a SPACER with a KNIFE next; a chunk short of its target by one count. -/
theorem witness_WaitsEnd :
    let spacer : State :=
      ((running .runWait).onPst fun p => p.setPattern 7 (entryOf [knife, gap, knife, fin])).onSeq fun q =>
        { q with step := some { graded := 30000, interval := 229, stroked := false, retries := 0 } }
    let waste : State := (wasting .wasteWait).onSeq fun q => { q with feedTotal := 1528999 }
    base.seq.mode ≠ .runWait ∧ base.seq.mode ≠ .wasteWait
      ∧ ((running .runWait).seq.mode = .runWait ∧ (running .runWait).held = false
          ∧ (running .runWait).currentRecord = some box ∧ box.kind = .box
          ∧ (running .runWait).seq.openPanel = some { number := 5, pointer := 1, counters := [] })
      ∧ (spacer.seq.mode = .runWait ∧ spacer.held = false ∧ spacer.currentRecord = some gap ∧ gap.kind = .spacer
          ∧ spacer.seq.openPanel = some { number := 5, pointer := 1, counters := [] }
          ∧ spacer.headJobSteps[1 + 1]? = some knife ∧ knife.kind ≠ .loopBack ∧ knife.kind ≠ .panelEnd)
      ∧ (waste.seq.mode = .wasteWait ∧ waste.held = false
          ∧ waste.seq.chunk = some { counts := 12500, index := 50000, interval := 334 }
          ∧ waste.seq.wasteTarget = some 1329000 ∧ waste.headCoord < 1329000) := by decide +kernel

/-- A stroke of `running` under a confirm mode with some FOLD edges seen. -/
def stroking (c : Confirm) (edges retries : Nat) : State :=
  ((running .runStroke).onPst fun p => p.setPattern 7 (entryOf [knife, { box with confirm := c }, gap, fin])).onSeq fun q =>
    { q with
      bladePort := some .pairedOut, foldEdges := edges, lastStrokeStart := some 0
      step := some { graded := 40000, interval := 305, stroked := true, retries := retries } }

/-- One edge of two under STOP, RETRY after 1 and 2 retries, SKIP and IGNORE; two edges; the edge of the other direction. -/
theorem witness_FoldsChecked :
    base.seq.bladePort = none ∧ (stroking .stop 1 0).seq.triggers.foldEdge = .rising
      ∧ (stroking .stop 1 0).seq.bladePort ≠ none ∧ (stroking .stop 1 0).seq.mode = .runStroke
      ∧ (stroking .stop 1 0).seq.ending.any = false ∧ (stroking .stop 1 0).currentRecord = some { box with confirm := .stop }
      ∧ (stroking .stop 1 0).seq.foldEdges = 1 ∧ (stroking .stop 2 0).seq.foldEdges = 2
      ∧ (stroking .stop 1 0).seq.openPanel = some { number := 5, pointer := 1, counters := [] }
      ∧ ((stroking .retry 1 1).currentRecord = some { box with confirm := .retry } ∧ (stroking .retry 1 1).held = false
          ∧ (stroking .retry 1 1).seq.step = some { graded := 40000, interval := 305, stroked := true, retries := 1 }
          ∧ (stroking .retry 1 1).clock < 0 + max (stroking .retry 1 1).seq.triggers.strokePeriod 305)
      ∧ (stroking .retry 1 2).seq.step = some { graded := 40000, interval := 305, stroked := true, retries := 2 }
      ∧ (stroking .skip 1 0).currentRecord = some { box with confirm := .skip }
      ∧ (stroking .ignore 1 0).currentRecord = some { box with confirm := .ignore }
      ∧ (stroking .skip 1 0).headJobSteps[1 + 1]? = some gap ∧ gap.kind ≠ .loopBack ∧ gap.kind ≠ .panelEnd
      ∧ ((stroking .skip 1 0).onSeq fun q => { q with hostHold := true }).held = true := by decide +kernel

theorem witness_GuardStopsAll :
    base.seq.mode = .idle ∧ (feedingRun.seq.mode ≠ .idle ∧ feedingRun.seq.mode ≠ .fault .guard
      ∧ feedingRun.seq.openPanel ≠ none ∧ feedingRun.seq.jobs = [job41]) := by decide +kernel

/-- The bounds of READ STEPS, READ MARKS and READ SEGMENTS on both sides, and a flag byte of 0, 1 and 2. -/
theorem witness_ReadsAnswer :
    base.room ∧ (1 ≤ (1#8 : Byte).toNat ∧ (32#8 : Byte).toNat ≤ 32 ∧ (127#8 : Byte).toNat ≤ 127 ∧ (16#8 : Byte).toNat ≤ 16)
      ∧ (¬(33#8 : Byte).toNat ≤ 32 ∧ ¬(128#8 : Byte).toNat ≤ 127 ∧ ¬(17#8 : Byte).toNat ≤ 16 ∧ ¬1 ≤ (0#8 : Byte).toNat)
      ∧ ((63#8 : Byte).toNat ≤ 63 ∧ ¬(64#8 : Byte).toNat ≤ 63 ∧ (32#8 : Byte).toNat ≤ 32)
      ∧ (2#8 : Byte) ≠ 0#8 ∧ (2#8 : Byte) ≠ 1#8 := by
  unfold State.room
  decide +kernel

/-- 60 DEFECTs apart from each other, ahead of the inspection coordinate; 59 of them. -/
def manyDefects (n : Nat) : List Mark :=
  (List.range n).map fun k => markAt (.defect none false) (1000000 + 10 * (k : Int)) (1000005 + 10 * (k : Int))

def withMarks (l : List Mark) : State := base.onWtr fun w => { w with marks := l }

def defectBytes (offset extent tag : Nat) : List Byte := beBytes 4 offset ++ beBytes 6 extent ++ beBytes 2 tag

theorem witness_DefectsEnter :
    (60 ≤ ((withMarks (manyDefects 60)).wtr.marks.countP fun m => !m.isSplice)
        ∧ (∀ m ∈ manyDefects 60, ¬((300000 : Int) ≤ m.endAt 300000 ∧ m.coord ≤ 300001) ∧ m.isOpen = false))
      ∧ ((withMarks (manyDefects 59)).wtr.marks.countP (fun m => !m.isSplice) = 59 ∧ (manyDefects 59).length = 59)
      ∧ base.inspectCoord = 300000 ∧ base.headCoord = -200000 ∧ base.tableCoord = 750000
      ∧ feedingRun.seq.feedPort ≠ none ∧ (base.seq.feedPort = none ∧ ∀ m ∈ base.wtr.marks, m.isOpen = false)
      ∧ ((withMarks [markAt (.defect none true) 300000 300001]).seq.feedPort = none
          ∧ ∃ m ∈ (withMarks [markAt (.defect none true) 300000 300001]).wtr.marks, m.isOpen = true)
      ∧ ((withMarks (manyDefects 60)).taken ∧ (defectBytes 0 1 7).length = 12 ∧ fieldAt (defectBytes 0 1 7) 4 6 = 1
          ∧ fieldAtSigned (defectBytes 950000 1000000 7) 0 4 = 950000 ∧ fieldAt (defectBytes 0 1000000 7) 4 6 = 1000000
          ∧ fieldAt (defectBytes 0 1000001 7) 4 6 = 1000001 ∧ fieldAt (defectBytes 0 0 7) 4 6 = 0
          ∧ fieldAtSigned (defectBytes 950001 1 7) 0 4 = 950001 ∧ fieldAtSigned (defectBytes 4294967295 1 7) 0 4 = -1) := by
  unfold State.taken State.room
  decide +kernel

/-- A list in order and apart, with a SPLICE and the one open mark, and a closed region that touches two of its marks. -/
theorem witness_RegionsKeptApart :
    let l : List Mark :=
      [markAt (.defect none false) 10 20, markAt (.splice 3) 25 30, markAt (.defect (some 7) false) 30 40
      , markAt (.defect none true) 50 60]
    (l.Pairwise fun a b => a.isSplice = false → b.isSplice = false → a.endAt 60 < b.coord ∨ b.endAt 60 < a.coord)
      ∧ (l.Pairwise fun a b => a.coord < b.coord ∨ (a.coord = b.coord ∧ ¬(a.isSplice = false ∧ b.isSplice = true)))
      ∧ (∀ m ∈ l, m.coord < m.endAt 60) ∧ l.countP Mark.isOpen ≤ 1
      ∧ (markAt (.defect (some 9) false) 20 30).isSplice = false
      ∧ (markAt (.defect (some 9) false) 20 30).isOpen = false
      ∧ ((markAt (.defect none true) 60 61).isOpen = true ∧ ∀ m ∈ l.take 3, m.isOpen = false) := by decide +kernel

def belted : State :=
  base.onStr fun t => { t with pendingIdx := [12000, 40000], moving := true, segments := [{ openSeg with b0 := 0 }] }

def cuttingWith (c : Cutter) (filled : Nat) : State :=
  { base with
    str := { base.str with belt := 28740000, segments := [{ openSeg with b0 := 20000000, b1 := some 20740000 }], cutter := c }
    evu := { base.evu with filled := filled } }

/-- No index in motion; one; a lead and a tail cut; a free slot left, and none. -/
theorem witness_BeltAndCutter :
    base.str.moving = false ∧ (belted.str.moving = true ∧ belted.str.pendingIdx = 12000 :: [40000] ∧ belted.sized
        ∧ belted.zoneCount ≤ 8 ∧ belted.seq.mode.stands = true)
      ∧ base.str.cutter = .idle
      ∧ ((cuttingWith (.cutting .lead 0) 7).str.cutter = .cutting .lead 0
          ∧ (cuttingWith (.cutting .lead 0) 7).str.segments = [{ openSeg with b0 := 20000000, b1 := some 20740000 }])
      ∧ ((cuttingWith (.cutting .tail 0) 7).str.cutter = .cutting .tail 0
          ∧ (cuttingWith (.cutting .tail 0) 7).pst.profile 3 = some profile3
          ∧ (cuttingWith (.cutting .tail 0) 7).evu.filled < 8 ∧ 8 ≤ (cuttingWith (.cutting .tail 0) 8).evu.filled
          ∧ (cuttingWith (.cutting .tail 0) 7).seq.mode.stands = true) := by
  unfold State.sized
  decide +kernel

/-- The closed segment of the example of Chapter 5 at the first and the last moment wholly inside, every zone READY and fresh. -/
def tunnelAt (belt : Nat) : State :=
  { readyLine with
    clock := 148000
    str := { base.str with
      belt := belt, segments := [{ openSeg with b0 := 20000000, b1 := some 20740000 }], lastAccrual := some 147980 }
    slm := { base.slm with stations := List.replicate 16 freshStation } }

theorem witness_DwellAccrued :
    let g : Segment := { openSeg with b0 := 20000000, b1 := some 20740000 }
    let wholly (s : State) : Prop := g.b1 ≠ none ∧ s.entryDistance ≤ s.str.belt - 20740000
      ∧ s.str.belt - 20000000 ≤ s.entryDistance + s.tunnel
    let ready (s : State) (i : Nat) : Prop := (s.zone i).state = .ready ∧ (s.station i).condition = .fresh
      ∧ (s.zone i).corrected = some 13480 ∧ (s.zone i).setpoint = some 13500 ∧ s.band = 200
    (tunnelAt 21740000).str.segments[0]? = some g ∧ wholly (tunnelAt 21740000) ∧ wholly (tunnelAt 27000000)
      ∧ (∀ i ∈ (tunnelAt 27000000).zoneNumbers, ready (tunnelAt 27000000) i)
      ∧ ¬((tunnelAt 27000001).str.belt - 20000000 ≤ (tunnelAt 27000001).entryDistance + (tunnelAt 27000001).tunnel)
      ∧ (tunnelAt 27000001).str.segments[0]? = some g
      ∧ (21000000 - 20000000 ≤ (tunnelAt 21000000).entryDistance ∧ (tunnelAt 21000000).str.segments[0]? = some g) := by
  decide +kernel

/-- Zone numbers 4 (Z) and 5; action bytes 0, 5 and 6; the scan STOPPED; ALL; and, for one zone, each kind of outcome. -/
theorem witness_ZoneCommandTable :
    let one (z : Zone) : State := (zoneTwo z).onStation 2 fun _ => freshStation
    let queued : State := (one (warmZone .ready)).onZsv fun v =>
      { v with calQueue := [2], reference := some { zone := 3, kind := .long, deadline := 40000, asked := false } }
    let behind : State := queued.onZsv fun v => { v with calQueue := [] }
    (base.taken ∧ (6#8 : Byte).toNat = 6 ∧ base.zoneCount < (5#8 : Byte).toNat ∧ (4#8 : Byte).toNat ≤ base.zoneCount
        ∧ base.slm.mode = .stopped)
      ∧ ((one (warmZone .ready)).taken ∧ (one (warmZone .ready)).slm.mode ≠ .stopped ∧ (one (warmZone .ready)).sized
          ∧ 1 ≤ (2#8 : Byte).toNat ∧ (2#8 : Byte).toNat ≤ (one (warmZone .ready)).zoneCount
          ∧ (one (warmZone .ready)).seq.mode.stands = true)
      ∧ ((one Zone.powerOn).zoneProfile = some profile3 ∧ ((one Zone.powerOn).station 2).state ≠ .lost
          ∧ ((one Zone.powerOn).zone 2).state = .off ∧ (one Zone.powerOn).zsv.calQueue = [])
      ∧ ((one { warmZone .purging with ret := some .ready }).zone 2).ret = some .ready
      ∧ ((one { warmZone .warming with purgePending := true }).zone 2).purgePending = true
      ∧ (2 ∈ queued.zsv.calQueue ∧ queued.zsv.reference ≠ none) ∧ (2 ∉ behind.zsv.calQueue ∧ behind.zsv.reference ≠ none)
      ∧ behind.zsv.reference.map RefOwner.zone ≠ some 2
      ∧ ((one (warmZone .ready)).zsv.reference = none ∧ ((one (warmZone .ready)).zone 2).occupied = false)
      ∧ ((one { warmZone .standby with occupied := true }).zone 2).occupied = true := by
  unfold State.taken State.room State.sized
  decide +kernel

theorem witness_ZoneTimers :
    let s (z : Zone) : State := zoneTwo z
    let owner (z : Zone) : State := (s z).onZsv fun v => { v with reference := some { zone := 2, kind := .long, deadline := 40000, asked := false } }
    let pend : Zone := { warmZone .ready with purgePending := true, forceTime := some 1140000 }
    (s (warmZone .ready)).sized ∧ (s (warmZone .ready)).seq.mode.stands = true
      ∧ ((s { warmZone .warming with settle := .running 10000 }).zone 2).settle = .running 10000
      ∧ ((s { warmZone .warming with settle := .running 10000, calibrated := true }).zone 2).purgePending = false
      ∧ 2 ∉ (s (warmZone .ready)).zsv.calQueue ∧ 2 ≤ (s (warmZone .ready)).zoneCount
      ∧ ((s (warmZone .ready)).zone 2).purgeDeadline = none
      ∧ (((s { warmZone .ready with purgeDeadline := some 300000 }).zone 2).purgeDeadline = some 300000
          ∧ ((s { warmZone .ready with purgeDeadline := some 300000 }).zone 2).occupied = false)
      ∧ ((s { warmZone .calibrating with purgeDeadline := some 300000, ret := some .ready }).zone 2).state = .calibrating
      ∧ (((s pend).zone 2).forceTime = some 1140000 ∧ ((s pend).zone 2).purgePending = true)
      ∧ ((owner { pend with state := .calibrating, ret := some .warming }).zone 2).ret = some .warming
      ∧ (((s { warmZone .purging with ret := some .warming, purgeEnd := some 10000 }).zone 2).purgeEnd = some 10000)
      ∧ ((s (warmZone .ready)).zsv.reference = none)
      ∧ ((owner { warmZone .calibrating with ret := some .ready }).zsv.reference.map RefOwner.zone = some 2
          ∧ ((owner { warmZone .calibrating with ret := some .ready }).zone 2).occupied = false)
      ∧ ((owner { warmZone .calibrating with ret := some .ready, occupied := true }).zone 2).occupied = true
      ∧ ((s { warmZone .ready with calibrationDue := some 600000 }).zone 2).calibrationDue = some 600000
      ∧ ((s { Zone.powerOn with calibrationDue := some 600000 }).zone 2).state = .off := by
  unfold State.sized
  decide +kernel

/-- A reading at the limit and one above it; at the top of the band with a lowering pending and one above it; inside the band
and outside, calibrated and not. -/
theorem witness_ReadingsActOnZones :
    let s (z : Zone) : State := (zoneTwo z).onStation 2 fun _ => freshStation
    (s (warmZone .ready)).sized ∧ ((s (warmZone .ready)).zone 2).limit = some 14300
      ∧ max (0 : Int) (min (14300 + ((s (warmZone .ready)).zone 2).offset) 25000) = 14300
      ∧ (14300 : Int) < max 0 (min (14301 + ((s (warmZone .ready)).zone 2).offset) 25000)
      ∧ ((s { warmZone .warming with lowering := true }).zone 2).lowering = true
      ∧ (13700 : Int) ≤ 13500 + ((s (warmZone .warming)).band : Int)
      ∧ ¬(13701 : Int) ≤ 13500 + ((s (warmZone .warming)).band : Int)
      ∧ ((s (warmZone .warming)).station 2).condition = .fresh ∧ ((s (warmZone .warming)).zone 2).calibrated = false
      ∧ (s (warmZone .warming)).zsv.reference = none ∧ (s (warmZone .warming)).zsv.calQueue = []
      ∧ ((s { warmZone .warming with calibrated := true }).zone 2).calibrated = true
      ∧ ((s Zone.powerOn).zone 2).state = .off := by
  unfold State.sized
  decide +kernel

/-- Unwind A LOADED, B READY, the scan running and every station ONLINE; a change in each phase. -/
def threaded (a b : UnwindState) : State :=
  { base with
    slm := { base.slm with mode := .continuous, stations := List.replicate 16 freshStation }
    rcu := { base.rcu with
      unwindA := { base.rcu.unwindA with state := a, profileId := some 3, declared := some 1800 }
      unwindB := { base.rcu.unwindB with state := b, profileId := some 5, declared := some 1800 } } }

def rollRequest (u profile len : Nat) : List Byte := beBytes 1 u ++ (beBytes 1 profile ++ beBytes 4 77 ++ beBytes 4 len)

theorem witness_RollsChange :
    let t := threaded .active .ready
    let inPhase (p : ChangePhase) : State := t.onRcu fun r => { r with change := some (changing p) }
    let full : State := t.onWtr fun w =>
      { w with marks := (List.range 4).map fun k => markAt (.splice 3) (1000 + (k : Int)) (2000 + (k : Int)) }
    ((threaded .loaded .ready).taken ∧ (rollRequest 1 3 20000).tail.length = 9 ∧ fieldAt (rollRequest 1 16 20000).tail 0 1 = 16
        ∧ fieldAt (rollRequest 1 3 20000).tail 5 4 = 20000 ∧ fieldAt (rollRequest 1 3 20001).tail 5 4 = 20001
        ∧ fieldAt (rollRequest 1 3 0).tail 5 4 = 0 ∧ (threaded .loaded .ready).rcu.unwindA.state = .loaded
        ∧ (threaded .loaded .ready).pst.profile 3 ≠ none ∧ (threaded .loaded .ready).pst.profile 16 = none)
      ∧ (t.taken ∧ t.rcu.unwindA.state = .active)
      ∧ ((threaded .ready .empty).slm.mode ≠ .stopped ∧ (threaded .ready .empty).rcu.change = none
          ∧ (threaded .ready .empty).seq.mode = .idle ∧ (threaded .ready .empty).rcu.unwindA.state = .ready
          ∧ (threaded .ready .empty).wtr.marks = [] ∧ ((threaded .ready .empty).station 9).state ≠ .lost)
      ∧ (t.rcu.activeUnwind = some .a ∧ (t.rcu.unwind UnwindId.a.other).state = .ready ∧ t.rcu.change = none
          ∧ (∀ n ∈ [9, 10, 11, 12], (t.station n).state ≠ .lost) ∧ t.wtr.spliceCount < 4)
      ∧ (full.taken ∧ 4 ≤ full.wtr.spliceCount ∧ full.rcu.activeUnwind = some .a)
      ∧ ((inPhase .splicing).taken ∧ (inPhase .splicing).rcu.change = some (changing .splicing)
          ∧ ((inPhase .splicing).rcu.unwind .a).state = .active ∧ ((inPhase .splicing).station 9).state ≠ .lost)
      ∧ ((inPhase .cutting).taken ∧ (inPhase .cutting).rcu.change = some (changing .cutting))
      ∧ ((withChange .filling).taken ∧ ((withChange .filling).rcu.unwind .a).state ≠ .active) := by
  unfold State.taken State.room
  decide +kernel

def scanBytes (last threshold window : Nat) : List Byte := beBytes 1 last ++ beBytes 1 threshold ++ beBytes 4 window

/-- The bounds of the three values on both sides; the refusals; a threshold kept and one changed; counts 0, 1, 16 and 17. -/
theorem witness_ScanSetRequestsTaken :
    let t := threaded .active .ready
    let away (n : Nat) : State := base.onSlm fun m =>
      { m with stations := List.replicate 16 { freshStation with state := .missing, misses := n } }
    (base.taken ∧ (scanBytes 12 1 50).length = 6 ∧ fieldAt (scanBytes 16 6 500) 0 1 = 16
        ∧ fieldAt (scanBytes 16 6 500) 1 1 = 6 ∧ fieldAt (scanBytes 16 6 500) 2 4 = 500 ∧ fieldAt (scanBytes 11 3 200) 0 1 = 11
        ∧ fieldAt (scanBytes 17 3 200) 0 1 = 17 ∧ fieldAt (scanBytes 12 7 200) 1 1 = 7 ∧ fieldAt (scanBytes 12 3 49) 2 4 = 49
        ∧ fieldAt (scanBytes 12 3 501) 2 4 = 501 ∧ (4#8 : Byte).toNat = 4 ∧ (0#8 : Byte).toNat = 0)
      ∧ (t.taken ∧ t.slm.mode ≠ .stopped ∧ fieldAt (scanBytes 12 2 200) 1 1 ≠ t.slm.lossThreshold)
      ∧ ((t.onSeq fun q => { q with mode := .armed }).taken ∧ (t.onSeq fun q => { q with mode := .armed }).seq.mode ≠ .idle)
      ∧ (fieldAt (scanBytes 12 3 200) 1 1 = base.slm.lossThreshold ∧ base.slm.mode = .stopped ∧ base.slm.toPoll = []
          ∧ base.atRest = true)
      ∧ (base.sized ∧ (base.station 1).state = .lost) ∧ ((away 1).taken ∧ (away 1).sized ∧ (away 1).slm.toPoll = [])
      ∧ (((away 1).station 16).state = .missing ∧ ((away 1).station 16).misses < 2)
      ∧ (((away 2).station 16).state = .missing ∧ 2 ≤ ((away 2).station 16).misses)
      ∧ ((0#8 : Byte).toNat = 0 ∧ (1#8 : Byte).toNat = 1 ∧ (16#8 : Byte).toNat = 16 ∧ (17#8 : Byte).toNat = 17) := by
  unfold State.taken State.room State.sized
  decide +kernel

def polling (st : Station) (toPoll : List Nat) : State :=
  { base with slm := { base.slm with mode := .continuous, toPoll := toPoll, stations := List.replicate 16 st } }

def response (renewal code : Byte) : List Byte :=
  let body := [2#8, 1#8, renewal, code, 0x33#8, 0xFE#8, 0x34#8, 0x49#8]
  body ++ crcBytes body

/-- No poll; a poll of station 2 with one behind it and as the last; each state of the record; a good response, one cut short,
one with another address, one with its CRC wrong; a new code, 31 and 32 requests queued. -/
theorem witness_StationsJudged :
    base.slm.toPoll = [] ∧ ((polling freshStation [2, 3]).slm.toPoll = 2 :: [3] ∧ (polling freshStation [2, 3]).sized)
      ∧ ((polling freshStation [16]).slm.toPoll = 16 :: [])
      ∧ ((polling { freshStation with misses := 1 } [2]).station 2).misses + 1 < 3
      ∧ ¬((polling { freshStation with misses := 2 } [2]).station 2).misses + 1 < 3
      ∧ ((polling Station.powerOn [2]).station 2).state = .lost
      ∧ (crcCorrect (response 15#8 0#8) = true ∧ ((response 15#8 0#8).getD 0 0#8).toNat = 2
          ∧ (response 15#8 0#8).length = (roleOf 2).responseLength ∧ ((response 15#8 0#8).getD 2 0#8).toNat ≤ 15)
      ∧ ((response 15#8 0#8).getD 0 0#8).toNat ≠ 16
      ∧ (crcCorrect ([2#8] ++ crcBytes [2#8]) = true ∧ ([2#8] ++ crcBytes [2#8]).length ≠ (roleOf 2).responseLength)
      ∧ crcCorrect (response 15#8 0#8).dropLast ≠ true
      ∧ (((response 15#8 7#8).getD 3 0#8).toNat ≠ 0 ∧ ((response 15#8 7#8).getD 3 0#8).toNat ≠ freshStation.lastCode)
      ∧ (List.replicate 31 0).length < 32 ∧ 32 ≤ (List.replicate 32 0).length := by
  unfold State.sized
  decide +kernel

/-- A sound ring of eight reports, one of none, and release counts 0, 1, 8 and 9. -/
theorem witness_ReportsAndEvents :
    let s : State := { base with evu := ringExample }
    (s.evu.slots.length = 8 ∧ s.evu.writePos < 8 ∧ s.evu.filled ≤ 8
        ∧ ∀ k, k < 8 → ((s.evu.slots.getD ((s.evu.oldest + k) % 8) none).isSome = true ↔ k < s.evu.filled))
      ∧ base.ringSound ∧ s.taken
      ∧ s.evu.reportsInOrder.head?.map Report.sequence = some ((0#8 : Byte).toNat * 256 + (100#8 : Byte).toNat)
      ∧ (0#8 : Byte).toNat < 1 ∧ 8 < (9#8 : Byte).toNat ∧ (8#8 : Byte).toNat ≤ s.evu.filled
      ∧ base.evu.filled < (1#8 : Byte).toNat ∧ base.configured = true := by
  unfold State.taken State.room State.ringSound
  decide +kernel

/-- With nothing due and nothing waiting the configured part ticks. -/
theorem base_ticks : step base = .next { base with clock := 1 } := by
  have h : base.pending = [] := rfl
  have hd : base.due = [] := by decide +kernel
  unfold step State.tick
  rw [h, hd]
  rfl

theorem witness_StepKeepsLineSound :
    step base = .next { base with clock := 1 } ∧ base.panelsBalance ∧ base.residueBounded ∧ base.jobsSound := by
  refine ⟨base_ticks, rfl, ?_, ?_, ?_⟩
  · unfold State.residueBounded
    decide
  · intro id h
    by_cases hid : id < 33
    · have all : ∀ k < 33, (base.pst.pattern k).state = .valid →
          ((base.pst.pattern k).profileId.bind base.pst.profile).isSome = true := by decide +kernel
      exact all id hid h
    · obtain ⟨k, rfl⟩ : ∃ k, id = k + 1 := ⟨id - 1, by omega⟩
      have hl : base.pst.patterns.length = 32 := by decide +kernel
      have hn : base.pst.patterns[k]? = none := List.getElem?_eq_none (by omega)
      simp only [Pst.pattern, entryAt, hn, Option.getD_none, PatternEntry.empty] at h
      cases h
  · intro j hj
    cases hj

theorem witness_StepKeepsUnitsSound :
    step base = .next { base with clock := 1 } ∧ base.referenceSound ∧ base.oneActive ∧ base.stationsSound
      ∧ base.ringSound ∧ base.sized := by
  refine ⟨base_ticks, ?_, ⟨by decide, fun c h => by cases h⟩, ?_, ?_, ?_⟩
  · intro i
    have hz : (base.zone i).state = .off := by
      by_cases hi : i < 9
      · have all : ∀ k < 9, (base.zone k).state = .off := by decide +kernel
        exact all i hi
      · obtain ⟨k, rfl⟩ : ∃ k, i = k + 1 := ⟨i - 1, by omega⟩
        have hl : base.zsv.zones.length = 8 := by decide +kernel
        have hn : base.zsv.zones[k]? = none := List.getElem?_eq_none (by omega)
        simp only [State.zone, entryAt, hn, Option.getD_none, Zone.powerOn]
    have hr : base.zsv.reference = none := rfl
    simp [hz, hr]
  · unfold State.stationsSound
    decide +kernel
  · unfold State.ringSound
    decide +kernel
  · unfold State.sized
    decide +kernel

/-- The next record a forming step, and the END; a REPEAT met unloaded, with a count above 1, and with a count of 1; a STROKE_DONE
under IGNORE, and with the folds seen; a spacer in its WAIT. -/
theorem witness_PanelRunsToEnd :
    let last : State := (running .runWait).onSeq fun q => { q with openPanel := some { number := 5, pointer := 2, counters := [] } }
    let spacer : State := last.onSeq fun q =>
      { q with step := some { graded := 30000, interval := 229, stroked := false, retries := 0 } }
    ((running .runWait).seq.openPanel = some { number := 5, pointer := 1, counters := [] }
        ∧ WalksTo (running .runWait).headJobSteps 0 (1 + 1) [] (.forming 2 gap []))
      ∧ (last.seq.openPanel = some { number := 5, pointer := 2, counters := [] }
          ∧ WalksTo last.headJobSteps 0 (2 + 1) [] (.ended 3))
      ∧ WalksTo pattern12 1 3 [] (.forming 1 knife (setCounter [] 3 9))
      ∧ WalksTo pattern12 1 3 [(3, 2)] (.forming 1 knife (setCounter [(3, 2)] 3 (2 - 1)))
      ∧ WalksTo pattern12 1 3 [(3, 1)] (.forming (3 + 1) (form .spacer 20000 0 false .stop) (clearCounter [(3, 1)] 3))
      ∧ ((stroking .ignore 0 0).seq.bladePort ≠ none ∧ (stroking .ignore 0 0).seq.ending.any = false
          ∧ (stroking .ignore 0 0).currentRecord = some { box with confirm := .ignore })
      ∧ ((stroking .stop 2 0).currentRecord = some { box with confirm := .stop } ∧ (stroking .stop 2 0).seq.foldEdges = 2)
      ∧ (spacer.seq.mode = .runWait ∧ spacer.held = false ∧ spacer.currentRecord = some gap ∧ gap.kind = .spacer
          ∧ spacer.seq.step = some { graded := 30000, interval := 229, stroked := false, retries := 0 }) := by
  refine ⟨⟨rfl, .takes rfl ⟨?_, ?_⟩⟩, ⟨rfl, .stops (r := fin) rfl rfl⟩, .loads (r := loop 1 9) rfl rfl rfl (.takes rfl ⟨?_, ?_⟩),
    .repeats (r := loop 1 9) rfl rfl rfl ?_ (.takes rfl ⟨?_, ?_⟩),
    .unloads (r := loop 1 9) (k := 1) rfl rfl rfl rfl (.takes rfl ⟨?_, ?_⟩), ?_⟩
  all_goals decide +kernel

/-- The head at the target; the panel start given up for each cause, and not, with a new target and with none. -/
theorem witness_WasteRechecked :
    let atTarget : State := (wasting .wasteWait).onSeq fun q => { q with feedTotal := 1529000 }
    let fits : State := readyLine.onSeq fun q => { q with mode := .wasteWait }
    let others (n : Nat) : State := fits.onWtr fun w => { w with headFabric := some n }
    (atTarget.seq.mode = .wasteWait ∧ atTarget.held = false
        ∧ atTarget.seq.chunk = some { counts := 12500, index := 50000, interval := 334 }
        ∧ atTarget.seq.wasteTarget = some 1329000 ∧ atTarget.headCoord = 1329000)
      ∧ (fits.headJob = some job41 ∧ (fits.pst.pattern job41.patternId).profileId = some 3)
      ∧ ((∀ i ∈ fits.zoneNumbers, (fits.zone i).state = .ready) ∧ fits.zsv.profile = some 3 ∧ fits.str.segments.length < 64
          ∧ job41.cancelPending = false ∧ fits.wtr.headFabric = some 3 ∧ fits.newTarget = none)
      ∧ (fits.onWtr fun w => { w with marks := [markAt (.defect none false) (-200000) (-199999)] }).newTarget = some (-174999)
      ∧ ¬(∀ i ∈ atTarget.zoneNumbers, (atTarget.zone i).state = .ready)
      ∧ 64 ≤ (fits.onStr fun t => { t with segments := List.replicate 64 openSeg }).str.segments.length
      ∧ (fits.onSeq fun q => { q with jobs := [{ job41 with cancelPending := true }] }).headJob
          = some { job41 with cancelPending := true }
      ∧ ((others 5).wtr.headFabric ≠ some 3 ∧ ∀ m ∈ (others 5).wtr.marks, m.kind = .splice 3 → m.coord ≤ (others 5).headCoord) := by
  decide +kernel

/-- Zone 2 CALIBRATING for a return to WARMING, its reference asked for or not. -/
def comparing (asked : Bool) (z : Zone) : State :=
  ((zoneTwo z).onStation 2 fun _ => freshStation).onZsv fun v =>
    { v with reference := some { zone := 2, kind := .long, deadline := 40000, asked := asked } }

/-- Compare done asked for, not asked for, and of a zone that owns nothing; a reading above the limit and at it; a completion with
no purge to begin, differences at and beyond the clamp; codes 0, 1 and 2. -/
theorem witness_CalibrationCompletes :
    let z : Zone := { warmZone .calibrating with ret := some .warming }
    let s := comparing true z
    (s.sized ∧ (0x80#8 : Byte).getLsbD 7 = true ∧ (0x7F#8 : Byte).getLsbD 7 = false
        ∧ s.zsv.reference = some { zone := 2, kind := .long, deadline := 40000, asked := true } ∧ (s.zone 2).limit = some 14300)
      ∧ ((14300 : Int) < max 0 (min (14301 + (s.zone 2).offset) 25000) ∧ max (0 : Int) (min (14300 + (s.zone 2).offset) 25000) = 14300)
      ∧ (comparing false z).zsv.reference.map RefOwner.asked = some false
      ∧ (zoneTwo z).zsv.reference = none
      ∧ ((s.zone 2).ret = some .warming ∧ 2 ∉ s.zsv.calQueue ∧ (s.zone 2).purgePending = false ∧ s.zsv.calQueue = [])
      ∧ (¬(13980 - 13480 : Int) > 500 ∧ (13981 - 13480 : Int) > 500 ∧ ¬(12980 - 13480 : Int) < -500)
      ∧ (((0#8 : Byte).toNat ≠ 1 ∧ (0#8 : Byte).toNat ≠ 2) ∧ (1#8 : Byte).toNat = 1 ∧ (2#8 : Byte).toNat = 2) := by
  unfold State.sized
  decide +kernel

/-- R132, R135 (log 31): a late compare done that comes before the owner's first poll changes no calibration; after it, it does. -/
theorem test_compare_done_of_the_owner :
    let z : Zone := { warmZone .calibrating with ret := some .warming }
    ((comparing false z).zoneReadings 2 false 0x80#8 13480 13510).evu.pendingSet = 0#16
      ∧ (((comparing true z).zoneReadings 2 false 0x80#8 13480 13510).zone 2).offset = 30 := by decide +kernel

/-- The zone profile 5, the head job's 3; four zones of given records, and the one segment of profile 5. -/
def switching (zones : List Zone) (b1 : Option Nat) (belt : Nat) : State :=
  { readyLine with
    zsv := { readyLine.zsv with profile := some 5, zones := zones ++ List.replicate 4 Zone.powerOn }
    str := { base.str with belt := belt, segments := [{ openSeg with profileId := 5, b1 := b1 }] } }

/-- The segment of the old profile just past the tunnel exit, one micrometre short of it, and open; zones of each kind. -/
theorem witness_ProfileSwitches :
    let due (zones : List Zone) : State := switching zones (some 82000) 7082000
    let a := due [Zone.powerOn, warmZone .warming, warmZone .ready, warmZone .standby]
    let b := due [{ Zone.powerOn with state := .fault }, { warmZone .purging with ret := some .standby }
      , { warmZone .calibrating with ret := some .ready }, { warmZone .purging with ret := some .warming }]
    (base.headJobProfileId = none ∧ a.headJobProfileId = some 3 ∧ a.pst.profile 3 = some profile3 ∧ a.zsv.profile ≠ some 3)
      ∧ (∀ g ∈ a.str.segments, g.b1 = some 82000 ∧ 82000 + a.entryDistance + a.tunnel ≤ a.str.belt)
      ∧ (∃ g ∈ (switching [] (some 82000) 7081999).str.segments, g.profileId = 5
          ∧ ¬82000 + a.entryDistance + a.tunnel ≤ (switching [] (some 82000) 7081999).str.belt)
      ∧ (∃ g ∈ (switching [] none 7082000).str.segments, g.profileId = 5 ∧ g.b1 = none)
      ∧ (a.zoneCount = 4 ∧ [1, 2, 3, 4].map (fun i => (a.zone i).state) = [.off, .warming, .ready, .standby])
      ∧ [1, 2, 3, 4].map (fun i => ((b.zone i).state, (b.zone i).ret))
          = [(.fault, none), (.purging, some .standby), (.calibrating, some .ready), (.purging, some .warming)] := by
  decide +kernel

/-- A change in each phase that matters, between the unwinds in either part; every state of an unwind record; an automatic change
tried and allowed, not allowed, and not tried at one micrometre more; SEQ in IDLE, in motion, in WAIT and in ARMED. -/
theorem witness_UnwindsDeliver :
    let t := threaded .active .ready
    let inPhase (p : ChangePhase) : State := t.onRcu fun r => { r with change := some (changing p) }
    let auto : State := t.onRcu fun r => { r with settings := { r.settings with auto := true } }
    let idleScan : State := auto.onSlm fun m => { m with mode := .stopped }
    (t.rcu.change = none ∧ (inPhase .stopping).rcu.change = some (changing .stopping)
        ∧ (inPhase .restarting).rcu.change = some (changing .restarting) ∧ (changing .stopping).old = .a
        ∧ (changing .restarting).new = .b)
      ∧ ((threaded .empty .empty).rcu.unwind .a).state = .empty ∧ ((threaded .loaded .empty).rcu.unwind .a).state = .loaded
      ∧ ((threaded .spent .empty).rcu.unwind .a).state = .spent
      ∧ ((t.rcu.unwind .a).state = .active ∧ (t.rcu.unwind .b).state = .ready)
      ∧ ((inPhase .filling).rcu.unwind (changing .filling).new).state = .ready
      ∧ (t.rcu.activeUnwind = some .a ∧ t.rcu.settings.auto = false)
      ∧ (auto.rcu.activeUnwind = some .a ∧ auto.rcu.settings.auto = true ∧ auto.rcu.change = none ∧ auto.seq.rollHold = false
          ∧ (auto.rcu.unwind .a).autoStarted = false ∧ 100000 ≤ auto.rcu.settings.threshold * 1000
          ∧ ¬100001 ≤ auto.rcu.settings.threshold * 1000)
      ∧ (auto.slm.mode ≠ .stopped ∧ (auto.rcu.unwind UnwindId.a.other).state = .ready
          ∧ (∀ n ∈ List.range' 9 4, (auto.station n).state ≠ .lost) ∧ auto.wtr.spliceCount < 4)
      ∧ (idleScan.slm.mode = .stopped ∧ (idleScan.rcu.unwind .a).lowRaised = false)
      ∧ (base.seq.mode = .idle ∧ (running .runFeed).seq.mode.moving = true)
      ∧ ((running .runWait).seq.mode.moving = false ∧ (running .runWait).seq.openPanel ≠ none)
      ∧ ((wasting .armed).seq.openPanel = none ∧ (wasting .armed).seq.mode.inWaste = false)
      ∧ ((wasting .wasteWait).seq.mode.inWaste = true ∧ (wasting .wasteWait).seq.jobs = [job41]) := by decide +kernel

/-- Each phase the table drives, at a free splice table coordinate and with SPLICEs at and beyond it. -/
theorem witness_SpliceTableDrives :
    let inPhase (p : ChangePhase) : State := (threaded .active .ready).onRcu fun r => { r with change := some (changing p) }
    let beyond : State := (inPhase .splicing).onWtr fun w =>
      { w with marks := [markAt (.splice 3) 750000 775000, markAt (.splice 3) 750001 775001] }
    (threaded .active .ready).rcu.change = none
      ∧ ((inPhase .splicing).rcu.change = some (changing .splicing)
          ∧ ((inPhase .splicing).rcu.unwind (changing .splicing).new).profileId = some 5 ∧ (inPhase .splicing).tableCoord = 750000)
      ∧ (beyond.tableCoord = 750000 ∧ ((beyond.tableStatus .spliced).wtr.marks.map Mark.coord) = [750000, 750001, 750002])
      ∧ (inPhase .cutting).rcu.change = some (changing .cutting)
      ∧ ¬((changing .filling).phase = .splicing ∧ TableStatus.spliced = .spliced) := by decide +kernel

/-- SEQ held for each of the five reasons; a stock at each of the three levels. -/
theorem witness_AccumulatorTaken :
    let calm := running .runWait
    calm.held = false
      ∧ (calm.onSeq fun q => { q with hostHold := true }).held = true
      ∧ (calm.onSeq fun q => { q with silentHold := true }).held = true
      ∧ (calm.onSeq fun q => { q with rollHold := true }).held = true
      ∧ (calm.onRcu fun r => { r with acc := { r.acc with starved := true } }).held = true
      ∧ (calm.onZone 2 fun z => { z with state := .fault }).held = true
      ∧ ((calm.accumulatorReading 1500 0).rcu.acc.starved = true ∧ (calm.accumulatorReading 1501 0).rcu.acc.starved = false)
      ∧ (let dry : State := calm.onRcu fun r => { r with acc := { r.acc with starved := true } }
         (dry.accumulatorReading 2999 0).rcu.acc.starved = true ∧ (dry.accumulatorReading 3000 0).rcu.acc.starved = false)
      ∧ (let filling := withChange .filling
         (filling.accumulatorReading 8999 0).rcu.change.map Change.phase = some .filling
           ∧ (filling.accumulatorReading 9000 0).rcu.change.map Change.phase = some .stopping) := by decide +kernel

/-- A change in RESTARTING between the unwinds in given parts, a scan cycle in progress or not. -/
def restarting (new : UnwindState) (rest : List Nat) : State :=
  (((threaded .spent new).onRcu fun r => { r with change := some (changing .restarting) }).onSlm fun m =>
    { m with mode := .continuous, toPoll := rest })

/-- Zones in each mode of a poll, stations 8 and 9, 12 and 13; unwinds that run and do not; a change in each phase, and one whose
new unwind LINE RESET has made SPENT, in that scan cycle and after it; one poll to send, a last one, and none. -/
theorem witness_PollsCarry :
    let inPhase (p : ChangePhase) : State := (threaded .active .ready).onRcu fun r => { r with change := some (changing p) }
    let z (st : ZoneState) : State := zoneTwo (warmZone st)
    ((z .off).zone 2).state = .off ∧ ((z .standby).zone 2).state = .standby ∧ ((z .purging).zone 2).state = .purging
      ∧ (((comparing true (warmZone .calibrating)).zone 2).state = .calibrating
          ∧ (comparing true (warmZone .calibrating)).zsv.reference
              = some { zone := 2, kind := .long, deadline := 40000, asked := true })
      ∧ ((threaded .active .ready).rcu.change = none ∧ ((threaded .active .ready).rcu.unwind .a).state = .active
          ∧ (threaded .active .ready).seq.rollHold = false ∧ ((threaded .active .ready).rcu.unwind .b).state ≠ .active)
      ∧ ((inPhase .restarting).rcu.change = some (changing .restarting) ∧ (changing .restarting).new = .b)
      ∧ ((inPhase .stopping).rcu.change = some (changing .stopping) ∧ (inPhase .splicing).rcu.change = some (changing .splicing)
          ∧ (inPhase .cutting).rcu.change = some (changing .cutting) ∧ (inPhase .filling).rcu.change = some (changing .filling))
      ∧ (let spent (b : Bool) : State := (restarting .spent [10]).onRcu fun r => { r with brakeSpent := b }
         (∀ b, (spent b).rcu.change = some (changing .restarting) ∧ (changing .restarting).new = .b
             ∧ ((spent b).rcu.unwind .b).state = .spent)
           ∧ (spent true).rcu.brakeSpent = true ∧ (spent false).rcu.brakeSpent = false)
      ∧ base.slm.toPoll = [] ∧ (polling freshStation [2, 3]).slm.toPoll = 2 :: [3] ∧ (polling freshStation [16]).slm.toPoll = 16 :: [] := by
  decide +kernel

/-- R176, R147, R158 (log 29): a LINE RESET in RESTARTING that finds a scan cycle in progress has the new unwind, station 10, polled
with BRAKE (2) to the end of that cycle; the next cycle, or a reset between two cycles, finds it polled with RUN (1). -/
theorem test_reset_brakes_to_cycle_end :
    let reset (rest : List Nat) : State := after (exec (.lineReset 1#16 []) (restarting .active rest))
    ((reset [9, 10]).pollFrame 10).take 2 = [10#8, 2#8]
      ∧ ((reset [9, 10]).endCycle.pollFrame 10).take 2 = [10#8, 1#8]
      ∧ ((reset []).pollFrame 10).take 2 = [10#8, 1#8] := by decide +kernel

/-- R147, R153, R155: a change begun while ROLL stands gives its old unwind RUN (1) in FILLING (log 32); reverted, BRAKE (2) while
ROLL stands (log 33). -/
theorem test_change_while_roll_stands :
    let held : State := ((threaded .active .ready).onRcu fun r => { r with change := some (changing .filling) }).onSeq fun q =>
      { q with rollHold := true }
    (held.pollFrame 9).take 2 = [9#8, 1#8] ∧ ((held.breakChange .command).pollFrame 9).take 2 = [9#8, 2#8] := by
  decide +kernel

/-- A response of each role, made of its bytes after the renewal count. -/
def answerOf (n : Nat) (status renewal code : Byte) (rest : List Byte) : List Byte :=
  let body := [BitVec.ofNat 8 n, status, renewal, code] ++ rest
  body ++ crcBytes body

/-- A wrong CRC; another station's response; renewal counts at 15; a response of each role, of zone 4 (Z) and of zone 5. -/
theorem witness_OwnersTold :
    let good (n : Nat) (status : Byte) (rest : List Byte) : Prop :=
      let bytes := answerOf n status 15#8 1#8 rest
      (polling freshStation [n, 3]).slm.toPoll = n :: [3] ∧ crcCorrect bytes = true ∧ (bytes.getD 0 0#8).toNat = n
        ∧ bytes.length = (roleOf n).responseLength ∧ (bytes.getD 2 0#8).toNat ≤ 15
    (crcCorrect (answerOf 2 0#8 15#8 0#8 [0#8]).dropLast = false
        ∧ crcCorrect (answerOf 2 0#8 15#8 0#8 [0#8]) = true ∧ (answerOf 2 0#8 15#8 0#8 [0#8]).length ≠ (roleOf 2).responseLength)
      ∧ good 4 0x80#8 [0x34#8, 0x49#8, 0x34#8, 0x49#8] ∧ good 5 0#8 [0#8, 0#8, 0#8, 0#8]
      ∧ good 9 RunState.running.code [0#8, 0#8, 0#8, 1#8] ∧ good 10 RunState.stopped.code [1#8, 0x31#8, 0x2D#8, 0#8]
      ∧ good 11 5#8 [] ∧ good 12 0#8 [0#8, 0#8, 0xEA#8, 0x60#8, 0x27#8, 0x10#8]
      ∧ good 13 0#8 (List.replicate 8 0#8) ∧ good 16 0#8 (List.replicate 8 0#8)
      ∧ base.zoneCount = 4 ∧ freshStation.lastCode = 0 := by decide +kernel

/-- Every shape of byte run: a start byte among the noise is none; a late byte and one with no stop bit; a body with a
wrong CRC; the greatest length and the first too great; a frame cut after its start byte. -/
theorem witness_FramesRoundTrip_receiver :
    let body : List Byte := [0x00#8, 0x01#8, 0x24#8, 0x00#8, 0x05#8, 0x5A#8]
    (∀ a ∈ [Arrival.plain 0x59#8, { byte := 0#8, late := true, noStop := false }], a.byte ≠ 0x5A#8 ∧ a.noStop = false)
      ∧ (body.length = fieldAt body 0 2 + 5 ∧ [0#8, 0#8] ≠ crcBytes body)
      ∧ fieldAt [0x04#8, 0x00#8] 0 2 = 1024 ∧ 1024 < (0x04#8 : Byte).toNat * 256 + (0x01#8 : Byte).toNat ∧ 0x80 ≤ (0x80#8 : Byte).toNat
      ∧ 1 < (hostFrame 0x24#8 5#16 []).length := by decide +kernel

/-- Zones stood by and purged at a LINE RESET: at the standby setpoint already, away from it, with no zone profile, above Z. -/
theorem witness_LineResetClears_zones :
    let at_ (z : Zone) : State := zoneTwo z
    let fifth : State := base.onZone 5 fun _ => { warmZone .purging with ret := some .ready }
    ((at_ { warmZone .standby with setpoint := some 11500 }).zoneProfile = some profile3
        ∧ ((at_ { warmZone .standby with setpoint := some 11500 }).zone 2).setpoint = some ((13500 : Int) - 2000)
        ∧ ((at_ (warmZone .ready)).zone 2).setpoint ≠ some ((13500 : Int) - 2000))
      ∧ ((fifth.zone 5).state = .purging ∧ ¬5 ≤ fifth.zoneCount ∧ fifth.zoneProfile = none ∧ fifth.taken) := by
  unfold State.taken State.room
  decide +kernel

/-- R54, R79: a mark of the window and, beyond it, the nearest SPLICE of the job's profile: the greater end gives the target. -/
theorem witness_ArmConditions_ends :
    let s : State := readyLine.onWtr fun w =>
      { w with headFabric := some 5
               marks := [markAt (.defect none false) (-199999) (-199990), markAt (.splice 3) 5000000 5025000
                        , markAt (.splice 3) 6000000 6025000] }
    let m := markAt (.splice 3) 5000000 5025000
    s.wtr.headFabric ≠ some 3
      ∧ (s.wtr.marks = [markAt (.defect none false) (-199999) (-199990)] ++ m :: [markAt (.splice 3) 6000000 6025000]
          ∧ m.kind = .splice 3 ∧ s.headCoord < m.coord
          ∧ ∀ k ∈ [markAt (.defect none false) (-199999) (-199990)], ¬(k.kind = .splice 3 ∧ s.headCoord < k.coord))
      ∧ (s.wtr.marks.Pairwise fun a b => a.coord ≤ b.coord) ∧ s.newTarget = some (5025000 + 25000) := by decide +kernel

/-- A cycle in progress and none, an ACTIVE unwind and none: each part of what LINE RESET marks (R176). -/
theorem witness_LineResetClears_cycle :
    (restarting .active [9, 10]).taken
      ∧ (((restarting .active [9, 10]).rcu.unwindB.state == .active) && !(restarting .active [9, 10]).slm.toPoll.isEmpty) = true
      ∧ (restarting .active []).slm.toPoll.isEmpty = true
      ∧ ((restarting .spent [9]).rcu.unwindA.state = .spent ∧ (restarting .spent [9]).rcu.unwindB.state = .spent) := by
  unfold State.taken State.room
  decide +kernel

/-- A chunk's feed with an abort, a stop, a web end and both waiting, and with a cancel-pending head job; held, and not. -/
theorem witness_FeedCompletes_waste :
    let ends (a st w : Bool) : State := feedingWaste.onSeq fun q => { q with ending := { abort := a, stop := st, webEnd := w } }
    let cancelled : State := feedingWaste.onSeq fun q => { q with jobs := [{ job41 with cancelPending := true }] }
    (∀ s ∈ [ends true false false, ends false true false, ends false false true, ends false true true, cancelled],
      s.seq.feedPort = some 12500 ∧ (s.seq.ending.any = true ∨ s.headCancelPending = true) ∧ s.seq.mode = .wasteFeed
        ∧ s.seq.openPanel = none ∧ s.seq.triggers.source ≠ .command)
      ∧ (ends true false false).headCancelPending = false ∧ cancelled.headCancelPending = true
      ∧ (cancelled.held = false ∧ (cancelled.onSeq fun q => { q with hostHold := true }).held = true) := by decide +kernel

/-- One edge of two, and two, under each confirm mode, with an abort, a stop and a web end waiting. -/
theorem witness_FoldsChecked_ending :
    let ends (c : Confirm) (edges : Nat) (a st w : Bool) : State := (stroking c edges 0).onSeq fun q =>
      { q with ending := { abort := a, stop := st, webEnd := w } }
    (∀ c ∈ [Confirm.stop, .retry, .skip, .ignore], ∀ edges ∈ [1, 2],
      ∀ s ∈ [ends c edges true false false, ends c edges false true false, ends c edges false false true],
        s.seq.bladePort ≠ none ∧ s.seq.mode = .runStroke ∧ s.seq.ending.any = true
          ∧ s.currentRecord = some { box with confirm := c } ∧ s.seq.triggers.source ≠ .command ∧ s.seq.foldEdges = edges)
      ∧ ((ends .stop 1 true false false).held = false
          ∧ ((ends .stop 1 true false false).onSeq fun q => { q with hostHold := true }).held = true) := by decide +kernel

/-- An open mark with a DEFECT ahead that it grows into, a close pending and not; the list the advance gives, in the order of R78. -/
theorem witness_AdvanceReachesMarks_open :
    let m := markAt (.defect none true) 290000 300000
    let ahead := markAt (.defect (some 77) false) 307654 310000
    let s : State := feedingRun.onWtr fun w => { w with marks := [] ++ m :: [ahead], closePending := true }
    s.seq.feedPort = some 7654 ∧ s.seq.mode ≠ .idle ∧ s.seq.mode = .runFeed ∧ s.seq.openPanel ≠ none
      ∧ (m.isOpen = true ∧ m.coord < m.stop ∧ ∀ k ∈ [] ++ [ahead], k.isOpen = false)
      ∧ ((s.seq.feedTotal + 7654 : Nat) : Int) + s.inspectOffsetCounts = 307654 ∧ m.endAt 307654 = 307654
      ∧ (placeRegion s.freeCtr 307654 { m with stop := m.endAt 307654 } ([] ++ [ahead])).2
          = [markAt (.defect (some 77) true) 290000 310000]
      ∧ (s.feedAdvance 7654).wtr.marks = [markAt (.defect (some 77) false) 290000 310000] := by decide +kernel

/-- R63, R73: a GUARD stop carries out a pending close at the inspection coordinate that its advance of 5,000 counts gives. -/
theorem test_guard_stop_closes :
    let s : State := feedingRun.onWtr fun w => { w with marks := [markAt (.defect none true) 290000 300000], closePending := true }
    (after (exec (.guardOpen 5000 0) s)).wtr.marks = [markAt (.defect none false) 290000 305000] := by decide +kernel

/-! ## Points of one rule each -/

/-- R68, R203: a SPLICE has no open flag: its byte is 0xFF. -/
theorem test_splice_open_flag_absent : ((markAt (.splice 3) 10 20).toBytes 0).take 4 = [1#8, 1#8, 3#8, 0xFF#8] := by decide +kernel

/-- R19: 50 times N = 120,000 µm is 6,000,000 µm and passes; once more fails LENGTH at the step added. -/
theorem test_length_check :
    patternFailures base.pst (entryOf [form .knife 80000 20000 false .stop, loop 0 49, fin]) = []
      ∧ patternFailures base.pst (entryOf [form .knife 80000 20000 false .stop, loop 0 50, fin]) = [(0, .length)] := by
  decide +kernel

/-- R102, R130: the calibration due time of an OFF zone above Z is an event when the clock reaches it, and is then absent. -/
theorem test_due_time_above_z :
    let s : State := base.onZone 5 fun _ => { Zone.powerOn with calibrationDue := some 0 }
    s.due = [.calibrationDue 5] ∧ ((after (step s)).zone 5).calibrationDue = none := by decide +kernel

/-! ## WAITs that have run, and what the belt and the zones do next -/

/-- `m` with the step of a pleat or a spacer and the WAIT already run: no last stroke start, or one 305 ms ago to the millisecond. -/
def ranWait (m : SeqMode) (start : Option Nat) : State :=
  { (running m).onSeq fun q => { q with
      lastStrokeStart := start, feedPort := some 7654
      step := some { graded := 40000, interval := 305, stroked := false, retries := 0 } } with clock := 305 }

/-- `waiting`, as a test that can be evaluated. -/
theorem waiting_iff (s : State) (n : Nat) :
    s.waiting n ↔ (s.seq.lastStrokeStart.any fun a => decide (s.clock < a + max s.seq.triggers.strokePeriod n)) = true := by
  unfold State.waiting; cases s.seq.lastStrokeStart <;> simp

/-- A pleat and a spacer fed, the WAIT run with no last stroke start and at its last millisecond, and not run one millisecond
before; a chunk likewise, short of its target and at it. -/
theorem witness_FeedCompletes_waitRun :
    let spacer : State := (ranWait .runFeed none).onSeq fun q => { q with
      openPanel := some { number := 5, pointer := 2, counters := [] } }
    let chunk (target : Int) : State := { (wasting .wasteFeed).onSeq fun q => { q with
      feedPort := some 12500, wasteTarget := some target } with clock := 334 }
    (∀ s ∈ [ranWait .runFeed none, ranWait .runFeed (some 0), spacer],
        s.seq.feedPort = some 7654 ∧ s.seq.ending.any = false ∧ s.seq.mode = .runFeed ∧ s.held = false
          ∧ s.seq.step = some { graded := 40000, interval := 305, stroked := false, retries := 0 })
      ∧ (¬(ranWait .runFeed none).waiting 305 ∧ ¬(ranWait .runFeed (some 0)).waiting 305 ∧ (ranWait .runFeed (some 1)).waiting 305)
      ∧ ((ranWait .runFeed none).currentRecord = some box ∧ spacer.currentRecord = some gap)
      ∧ (∀ target ∈ [(1329000 : Int), -187500],
          (chunk target).seq.feedPort = some 12500 ∧ (chunk target).seq.ending.any = false
            ∧ (chunk target).seq.mode = .wasteFeed ∧ (chunk target).headCancelPending = false ∧ (chunk target).held = false
            ∧ (chunk target).seq.chunk = some { counts := 12500, index := 50000, interval := 334 }
            ∧ ¬(chunk target).waiting 334 ∧ (chunk target).seq.wasteTarget = some target)
      ∧ ((chunk 0).feedAdvance 12500).headCoord = -187500 := by
  simp only [waiting_iff]
  decide +kernel

/-- R55, R59 (log 11): with no last stroke start FEED_DONE goes on to the stroke of a BOX, and to a chunk's belt index. -/
theorem test_feed_done_with_wait_run :
    (after (exec .feedDone (ranWait .runFeed none))).seq.mode = .runStroke
      ∧ (after (exec .feedDone (ranWait .runFeed none))).seq.lastStrokeStart = some 305
      ∧ (after (exec .feedDone (ranWait .runFeed none))).str.pendingIdx = [40000]
      ∧ (after (exec .feedDone ((wasting .wasteFeed).onSeq fun q => { q with feedPort := some 12500 }))).str.pendingIdx = [50000] := by
  decide +kernel

/-- HOLDING before a WAIT that has run, of a pleat and of a chunk; ARMED and FAULT with a standing trigger; FAULT with a panel open. -/
theorem witness_ResumeReleases_waitRun :
    let free (s : State) : Bool := ({ s.restartSilence with seq := { s.seq with
      hostHold := false, silentHold := false, rollHold := if s.rcu.change = none then false else s.seq.rollHold } } : State).held
    let pleat : State := (ranWait (.holding .runWait) none).onSeq fun q => { q with feedPort := none, hostHold := true }
    let chunk : State := (wasting (.holding .wasteWait)).onSeq fun q => { q with hostHold := true }
    let stands (m : SeqMode) : State := readyLine.onSeq fun q => { q with
      mode := m, hostHold := true, triggers := { q.triggers with source := .command } }
    (pleat.taken ∧ pleat.seq.guardIsOpen = false ∧ free pleat = false ∧ ¬pleat.waiting 305
        ∧ pleat.seq.step = some { graded := 40000, interval := 305, stroked := false, retries := 0 })
      ∧ (chunk.taken ∧ free chunk = false ∧ ¬chunk.waiting 334
        ∧ chunk.seq.chunk = some { counts := 12500, index := 50000, interval := 334 })
      ∧ (∀ m ∈ [SeqMode.holding .armed, .fault .guard], (stands m).taken ∧ free (stands m) = false ∧ (stands m).seq.jobs ≠ []
          ∧ (stands m).seq.openPanel = none ∧ ¬((stands m).seq.triggers.source ≠ .command ∨ (stands m).armMet = false))
      ∧ (running (.fault .fold)).seq.openPanel ≠ none := by
  unfold State.taken State.room
  simp only [waiting_iff]
  decide +kernel

/-- A retry whose WAIT has run to the millisecond, one with a millisecond left, and one that finds SEQ held. -/
theorem witness_FoldsChecked_retry :
    let at_ (clock : Nat) : State := { stroking .retry 1 1 with clock := clock }
    (at_ 305).seq.bladePort ≠ none ∧ (at_ 305).seq.mode = .runStroke ∧ (at_ 305).seq.ending.any = false
      ∧ (at_ 305).currentRecord = some { box with confirm := .retry } ∧ (at_ 305).seq.foldEdges = 1
      ∧ (at_ 305).seq.step = some { graded := 40000, interval := 305, stroked := true, retries := 1 }
      ∧ (at_ 305).held = false ∧ ¬(at_ 305).waiting 305 ∧ (at_ 304).waiting 305
      ∧ ((at_ 304).onSeq fun q => { q with hostHold := true }).held = true := by
  simp only [waiting_iff]
  decide +kernel

/-- The end of an event: SEQ held, and not, in each state that it can leave there. -/
theorem witness_WaitsEnd_settle :
    let calm (m : SeqMode) : State := (ranWait m (some 0)).onSeq fun q => { q with feedPort := none }
    let held (m : SeqMode) : State := (calm m).onSeq fun q => { q with hostHold := true }
    let waste (m : SeqMode) : State := { wasting m with clock := 334 }
    (∀ m ∈ [SeqMode.armed, .wasteWait, .runWait, .holding .armed], (held m).held = true ∧ (held m).seq.mode = m)
      ∧ (∀ m ∈ [SeqMode.runWait, .armed, .holding .runWait, .holding .wasteWait, .holding .armed, .holding .runFeed],
          (calm m).held = false ∧ (calm m).seq.mode = m)
      ∧ ((calm .runWait).seq.step = some { graded := 40000, interval := 305, stroked := false, retries := 0 }
          ∧ ¬(calm .runWait).waiting 305
          ∧ ((calm .runWait).onSeq fun q => { q with lastStrokeStart := some 1 }).waiting 305)
      ∧ ((waste .wasteWait).seq.chunk = some { counts := 12500, index := 50000, interval := 334 }
          ∧ (waste .wasteWait).held = false ∧ ¬(waste .wasteWait).waiting 334
          ∧ ((waste .wasteWait).onSeq fun q => { q with lastStrokeStart := some 1 }).waiting 334)
      ∧ ((calm (.holding .armed)).seq.jobs ≠ [] ∧ (calm (.holding .runFeed)).currentRecord = some box) := by
  simp only [waiting_iff]
  decide +kernel

/-- ABORT PANEL in the WAIT of WASTE, the head job cancel-pending and not. -/
theorem witness_PanelAbortedLineStopped_waste :
    let s (cancelled : Bool) : State := (wasting .wasteWait).onSeq fun q => { q with
      lastStrokeStart := some 0, jobs := [{ job41 with cancelPending := cancelled }] }
    ∀ b ∈ [true, false], (s b).taken ∧ (s b).seq.openPanel = none ∧ (s b).seq.mode = .wasteWait ∧ (s b).held = false
      ∧ (s b).seq.triggers.source ≠ .command ∧ (s b).seq.jobs = { job41 with cancelPending := b } :: [] := by
  unfold State.taken State.room
  decide +kernel

/-- GUARD opening with an index in motion and with none; in a step's feed and in none; with a panel; in WASTE and with no work. -/
theorem witness_GuardStopsAll_belt :
    let belted : State := feedingRun.onStr fun t => { t with pendingIdx := [40000], moving := true }
    (belted.seq.mode ≠ .idle ∧ belted.str.pendingIdx ≠ [] ∧ belted.seq.mode = .runFeed ∧ belted.seq.feedPort ≠ none
        ∧ belted.seq.openPanel ≠ none ∧ belted.seq.jobs = [job41])
      ∧ feedingRun.str.pendingIdx = [] ∧ (running .runWait).seq.feedPort = none
      ∧ ((wasting .wasteWait).seq.openPanel = none ∧ (wasting .wasteWait).seq.mode.inWaste = true
          ∧ (wasting .wasteWait).seq.jobs = job41 :: [] ∧ job41.cancelPending = false)
      ∧ ((wasting .armed).seq.openPanel = none ∧ (wasting .armed).seq.mode.inWaste = false) := by decide +kernel

/-- R63, R85, R90: GUARD opening in a step's feed with a belt index in motion: the panel's segment takes the counts, is lowered to B
where the drive left it, is closed there and takes ABORTED; the job leaves with JOB_DONE at its last panel. -/
theorem test_guard_stop_closes_segment :
    let s : State := (feedingRun.onStr fun t => { t with
      belt := 100000, pendingIdx := [40000], moving := true, segments := [{ openSeg with b0 := 120000 }] }).onSeq fun q =>
      { q with jobs := [{ job41 with panelsDone := 11 }] }
    let t := after (exec (.guardOpen 5000 15000) s)
    t.str.segments = [{ openSeg with
        b0 := 115000, b1 := some 115000, rawCounts := 5000, flags := { PanelFlags.none with aborted := true } }]
      ∧ t.seq.jobs = [] ∧ t.evu.pendingSet = 0x14#16 := by decide +kernel

/-- R70: a region that joins a SENSOR mark, an open one and two HOST marks: HOST, the tag of the lowest HOST coordinate, open. -/
theorem test_merged_mark_takes_tag :
    let l : List Mark :=
      [markAt (.defect none false) 10 20, markAt (.defect (some 7) false) 25 30, markAt (.defect (some 5) false) 35 40
      , markAt (.defect none true) 45 50]
    placeRegion 0 50 (markAt (.defect (some 9) false) 20 45) l
        = (markAt (.defect (some 9) true) 10 50, [markAt (.defect (some 9) true) 10 50])
      ∧ (placeRegion 0 50 (markAt (.defect none false) 20 45) l).1 = markAt (.defect (some 7) true) 10 50 := by decide +kernel

/-- The region and the absorbed marks of such a merge, with a HOST tag and without one; an open region that touches the open mark. -/
theorem witness_RegionsKeptApart_merged :
    let l : List Mark := [markAt (.defect none false) 10 20, markAt (.splice 3) 22 23, markAt (.defect (some 7) false) 25 30]
    let out := placeRegion 0 50 (markAt (.defect none false) 20 25) l
    (l.filter fun m => !m.isSplice && decide (out.1.coord ≤ m.coord ∧ m.endAt 50 ≤ out.1.endAt 50))
        = [markAt (.defect none false) 10 20, markAt (.defect (some 7) false) 25 30]
      ∧ (∃ m ∈ l, m.hostTag ≠ none) ∧ (∀ m ∈ l.take 2, m.hostTag = none)
      ∧ (let m := markAt (.defect none true) 40 50
         m.isOpen = true ∧ m.coord ≤ (markAt (.defect none true) 50 51).endAt 50
           ∧ (markAt (.defect none true) 50 51).coord ≤ m.endAt 50) := by decide +kernel

/-- Zone 2 owning the reference with a return state, a segment of profile 5 over it or short of it, the head job's profile 3. -/
def owning (k : ZoneReturn) (belt : Nat) : State :=
  let s := comparing true { warmZone .calibrating with ret := some k }
  { s with str := { s.str with belt := belt, segments := [{ openSeg with profileId := 5, b1 := some 82000 }] } }

/-- An owner the advance carries a segment to, for each return state; one it does not reach; no owner. -/
theorem witness_BeltAndCutter_handOver :
    (∀ k ∈ [ZoneReturn.warming, .ready, .standby],
        (owning k 3000000).zsv.reference = some { zone := 2, kind := .long, deadline := 40000, asked := true }
          ∧ ((owning k 3000000).takeOccupancy.zone 2).occupied = true
          ∧ ((owning k 3000000).takeOccupancy.zone 2).ret = some k ∧ (owning k 3000000).sized
          ∧ (owning k 3000000).zoneCount ≤ 8)
      ∧ ((owning .ready 2499999).takeOccupancy.zone 2).occupied = false ∧ belted.zsv.reference = none := by
  unfold State.sized
  decide +kernel

/-- R95, R134: the advance that carries a segment into the owner abandons its calibration: it is READY again, at the queue's tail,
with its offset and no CAL_DONE. -/
theorem test_advance_abandons_calibration :
    let s : State := (owning .ready 2400000).onStr fun t => { t with pendingIdx := [100001], moving := true }
    let t := after (exec .beltDone s)
    (t.zone 2).state = .ready ∧ (t.zone 2).occupied = true ∧ t.zsv.calQueue = [2] ∧ t.zsv.reference = none
      ∧ t.evu.pendingSet = 0#16 := by decide +kernel

/-- A pending purge that can start, READY and STANDBY, and one that cannot; a queue whose second zone may compare, one with none. -/
theorem witness_ZoneCommandTable_starts :
    let z (st : ZoneState) (occ : Bool) : Zone := { warmZone st with purgePending := true, occupied := occ }
    let s : State := (zoneTwo (warmZone .ready)).onZsv fun v => { v with calQueue := [1] ++ 2 :: [3] }
    ((z .ready false).startsPurge ∧ (z .standby false).startsPurge ∧ ¬(z .ready true).startsPurge ∧ ¬(z .warming false).startsPurge)
      ∧ (z .ready false).state = ZoneReturn.ready.state ∧ s.sized ∧ s.zoneCount ≤ 8
      ∧ (s.zsv.reference = none ∧ s.zsv.calQueue = [1] ++ 2 :: [3] ∧ (∀ j ∈ [1], ¬(s.zone j).mayCompare) ∧ (s.zone 2).mayCompare
          ∧ (s.zone 2).state = ZoneReturn.ready.state)
      ∧ (∀ j ∈ base.zsv.calQueue, ¬(base.zone j).mayCompare) := by
  unfold State.sized Zone.startsPurge Zone.mayCompare
  decide +kernel

/-- R107, R112, R115: a WARM from OFF of a hot zone keeps 24,999 with lowering pending; STANDBY of a zone still at its set
temperature keeps its limit with lowering pending. -/
theorem test_limits_at_commands :
    let hot : Zone := { Zone.powerOn with corrected := some 14000, lastRaw := some 14000 }
    let t := after (exec (.zoneCommand 1#16 [2#8, 1#8]) ((zoneTwo hot).onStation 2 fun _ => freshStation))
    let u := after (exec (.zoneCommand 1#16 [2#8, 2#8]) ((zoneTwo (warmZone .ready)).onStation 2 fun _ => freshStation))
    ((t.zone 2).limit = some 24999 ∧ (t.zone 2).lowering = true)
      ∧ ((u.zone 2).setpoint = some 11500 ∧ (u.zone 2).limit = some 14300 ∧ (u.zone 2).lowering = true) := by decide +kernel

/-- The actions on zones of each state that an entry of R110 names, with the reference owned by that zone, another, and none. -/
theorem witness_ZoneCommandTable_actions :
    let one (z : Zone) : State := (zoneTwo z).onStation 2 fun _ => freshStation
    (one (warmZone .standby)).sized ∧ 2 ≤ (one (warmZone .standby)).zoneCount
      ∧ ((one (warmZone .standby)).zone 2).state = .standby ∧ ((one Zone.powerOn).zone 2).state = .off
      ∧ ((one (warmZone .ready)).zone 2).state = .ready
      ∧ (((one { warmZone .purging with ret := some .ready }).zone 2).state = .purging)
      ∧ ((comparing true { warmZone .calibrating with ret := some .ready }).zsv.reference.map RefOwner.zone = some 2)
      ∧ (one (warmZone .ready)).zsv.reference.map RefOwner.zone ≠ some 2 := by
  unfold State.sized
  decide +kernel

/-- A completion in each return state, the zone's purge pending. -/
theorem witness_CalibrationCompletes_purge :
    ∀ k ∈ [ZoneReturn.ready, .standby],
      let s := comparing true { warmZone .calibrating with
        ret := some k, purgePending := true, forceTime := some 0, purgeDeadline := some 0 }
      (s.zone 2).ret = some k ∧ 2 ≤ s.zoneCount ∧ s.zoneCount ≤ 8 ∧ k ≠ .warming ∧ (s.zone 2).purgePending = true
        ∧ (s.zone 2).occupied = false := by decide +kernel

/-- R132, R135 (log 36): a compare done begins the pending purge of a zone that returns to READY; its force time, now past, has gone,
and no PURGE_FORCED is raised; a zone that returns to WARMING has its purge forced. -/
theorem test_compare_done_and_force_time :
    let s (k : ZoneReturn) : State := comparing true { warmZone .calibrating with
      ret := some k, purgePending := true, forceTime := some 0, purgeDeadline := some 0 }
    let both (k : ZoneReturn) : State := after (exec (.forceTime 2) ((s k).completeCalibration 2 13480 13510))
    ((both .ready).zone 2).state = .purging ∧ (both .ready).evu.pendingSet.getLsbD EventClass.purgeForced.bit = false
      ∧ ((both .warming).zone 2).state = .purging ∧ (both .warming).evu.pendingSet.getLsbD EventClass.purgeForced.bit = true := by
  decide +kernel

/-- R66, R76, R77 (log 16): marks that stand at or below the head and are not reached yet, as a CONFIGURE LINE can leave them: the next
region that enters reaches them, and the inactive edge that closes the open mark lets the passed ones leave. -/
theorem test_marks_under_a_new_head :
    let under : Mark := markAt (.splice 5) (-300000) (-275000)
    let s : State := base.onWtr fun w => { w with marks := [under] }
    let t := after (exec .defectActiveEdge s)
    t.wtr.headFabric = some 5 ∧ t.wtr.marks = [{ under with reached := true }, markAt (.defect none true) 300000 300001]
      ∧ (after (exec .defectInactiveEdge t)).wtr.marks = [markAt (.defect none false) 300000 300001] := by decide +kernel

/-- R143, R147 (log 33): START UNWIND accepted while ROLL stands gives BRAKE (2), and RUN (1) once ROLL is gone. -/
theorem test_start_unwind_while_roll_stands :
    let s : State := (((threaded .ready .empty).onSeq fun q => { q with rollHold := true }).onSlm fun m =>
      { m with mode := .continuous }).onStation 9 fun _ => freshStation
    let t := after (exec (.startUnwind 1#16 [1#8]) s)
    t.hlp.buffer.map Answered.reply = [[0x00#8]] ∧ (t.pollFrame 9).take 2 = [9#8, 2#8]
      ∧ ((t.onSeq fun q => { q with rollHold := false }).pollFrame 9).take 2 = [9#8, 1#8] := by decide +kernel

/-- The head job done at a panel's end, and not done; a queue behind it of another profile, for which the zones switch. -/
theorem witness_PanelRunsToEnd_switch :
    let s (done : Nat) : State := (running .runWait).onSeq fun q => { q with
      jobs := [{ job41 with panelsDone := done }], openPanel := some { number := done + 1, pointer := 2, counters := [] } }
    (∀ n ∈ [10, 11], (s n).seq.openPanel = some { number := n + 1, pointer := 2, counters := [] }
        ∧ WalksTo (s n).headJobSteps 0 (2 + 1) [] (.ended 3) ∧ (s n).seq.jobs = { job41 with panelsDone := n } :: [])
      ∧ (10 + 1 ≠ job41.panelCount ∧ 11 + 1 = job41.panelCount) := by
  refine ⟨fun n hn => ?_, by decide⟩
  rcases List.mem_pair.mp hn with rfl | rfl <;> exact ⟨rfl, .stops (r := fin) rfl rfl, rfl⟩

/-- `s` under trigger source COMMAND, the zones READY and the head fabric that of the head job, so that the arm conditions are met
once SEQ is ARMED; or another head fabric, so that they are not. -/
def underCommand (met : Bool) (s : State) : State :=
  { s.onSeq fun q => { q with triggers := { q.triggers with source := .command }, jobs := [job41, job42] } with
    zsv := readyLine.zsv, wtr := { readyLine.wtr with headFabric := some (if met then 3 else 5) } }

/-- Under COMMAND, with the arm conditions met after the end and unmet: ABORT PANEL in both WAITs, an abort that waits for a feed of a
step, for a chunk's and for a stroke, and a cancel-pending head job at a chunk's end. -/
theorem witness_AbortUnderCommand :
    let abort (s : State) : State := s.onSeq fun q => { q with ending := { q.ending with abort := true } }
    let cancelled (s : State) : State := s.onSeq fun q => { q with jobs := [{ job41 with cancelPending := true }, job42] }
    ∀ met ∈ [true, false],
      (let s := underCommand met (running .runWait)
       s.taken ∧ s.held = false ∧ s.seq.openPanel ≠ none ∧ s.seq.triggers.source = .command ∧ s.armMet = met)
      ∧ (let s := underCommand met (wasting .wasteWait)
         s.taken ∧ s.held = false ∧ s.seq.openPanel = none ∧ s.seq.mode = .wasteWait ∧ s.armMet = met
           ∧ s.seq.jobs = job41 :: [job42] ∧ job41.cancelPending = false)
      ∧ (let s := abort (underCommand met feedingRun)
         s.seq.feedPort = some 7654 ∧ s.seq.ending.any = true ∧ s.seq.mode = .runFeed ∧ s.seq.openPanel ≠ none
           ∧ s.armMet = met)
      ∧ (∀ s ∈ [abort (underCommand met feedingWaste), cancelled (underCommand met feedingWaste)],
          s.seq.feedPort = some 12500 ∧ (s.seq.ending.any = true ∨ s.headCancelPending = true) ∧ s.seq.mode = .wasteFeed
            ∧ s.seq.openPanel = none ∧ s.armMet = met)
      ∧ (let s := abort (underCommand met (stroking .skip 1 0))
         s.seq.bladePort ≠ none ∧ s.seq.mode = .runStroke ∧ s.seq.ending.any = true
           ∧ s.currentRecord = some { box with confirm := .skip } ∧ s.armMet = met) := by
  unfold State.taken State.room
  decide +kernel

/-- R47, R52: ABORT PANEL in WAIT under COMMAND: the job's next panel, 6, opens at once where the arm conditions are met; else ARMED. -/
theorem test_abort_under_command :
    let t (met : Bool) := after (exec (.abortPanel 1#16 []) (underCommand met (running .runWait)))
    (t true).seq.mode = .runFeed ∧ (t true).seq.openPanel.map OpenPanel.number = some 6
      ∧ (t false).seq.mode = .armed ∧ (t false).seq.openPanel = none := by decide +kernel

/-- CANCEL JOB of the head job in the WAIT of WASTE: alone; with a job behind it, held, and not held with the arm conditions met and
unmet; and from ARMED with a standing trigger and without. -/
theorem witness_JobCancelled_wasteWait :
    let one : State := wasting .wasteWait
    let two : State := one.onSeq fun q => { q with jobs := [job41, job42] }
    let held : State := two.onSeq fun q => { q with hostHold := true }
    let at_ (met : Bool) (m : SeqMode) : State := underCommand met (wasting m)
    fieldAt (beBytes 2 41) 0 2 = job41.jobId
      ∧ (one.taken ∧ one.seq.openPanel = none ∧ one.seq.mode = .wasteWait ∧ one.seq.jobs = job41 :: [])
      ∧ (held.taken ∧ held.seq.mode = .wasteWait ∧ held.seq.jobs = job41 :: [job42] ∧ held.held = true)
      ∧ (two.taken ∧ two.held = false)
      ∧ ∀ met ∈ [true, false], ∀ m ∈ [SeqMode.wasteWait, .armed],
          (at_ met m).taken ∧ (at_ met m).held = false ∧ (at_ met m).seq.mode = m ∧ (at_ met m).seq.openPanel = none
            ∧ (at_ met m).seq.jobs = job41 :: [job42] ∧ (at_ met m).armMet = met := by
  unfold State.taken State.room
  decide +kernel

/-- R40, R105: CANCEL JOB of the head job in the WAIT of WASTE: JOB_DONE, no belt index of the chunk; IDLE with an empty queue. -/
theorem test_cancel_in_waste_wait :
    let t := after (exec (.cancelJob 1#16 (beBytes 2 41)) (wasting .wasteWait))
    let u := after (exec (.cancelJob 1#16 (beBytes 2 41))
      ((wasting .wasteWait).onSeq fun q => { q with jobs := [job41, job42], hostHold := true }))
    (t.seq.mode = .idle ∧ t.seq.jobs = [] ∧ t.str.pendingIdx = [] ∧ t.evu.pendingSet.getLsbD EventClass.jobDone.bit = true)
      ∧ (u.seq.mode = .holding .armed ∧ u.seq.jobs = [job42] ∧ u.evu.pendingSet.getLsbD EventClass.seqHold.bit = true) := by
  decide +kernel

/-- An idle scan whose stations are MISSING by 1, by 2 and LOST under the threshold 3: SET SCAN with threshold 2 and each mode; the
owners of stations 1, 9, 10 and 12. -/
theorem witness_ScanSetRequestsTaken_threshold :
    let s : State := base.onSlm fun m => { m with
      stations := List.replicate 12 { freshStation with state := .missing, misses := 2 }
        ++ [{ freshStation with state := .missing, misses := 1 }, freshStation, Station.powerOn, Station.powerOn] }
    s.taken ∧ s.sized ∧ s.slm.mode = .stopped ∧ s.slm.toPoll = [] ∧ s.slm.lossThreshold = 3
      ∧ fieldAt (scanBytes 12 2 200) 1 1 = 2 ∧ s.slm.window = 200 ∧ s.zoneCount = 4
      ∧ (∀ n ∈ [1, 9, 10, 12], (s.station n).state = .missing ∧ 2 ≤ (s.station n).misses)
      ∧ ((s.station 13).state = .missing ∧ (s.station 13).misses < 2) ∧ (s.station 14).state = .online
      ∧ (s.station 15).state = .lost := by
  unfold State.taken State.room State.sized
  decide +kernel

/-- R161, R165, R172: SET SCAN CONTINUOUS with a lower threshold from an idle scan: the stations become LOST, their owners are told,
and a cycle starts. -/
theorem test_first_scan_with_new_threshold :
    let s : State := { (base.onSlm fun m => { m with
      stations := List.replicate 16 { freshStation with state := .missing, misses := 2 } }) with
      rcu := { base.rcu with acc := { base.rcu.acc with starved := false, station := .missing } }
      zsv := { base.zsv with zones := List.replicate 8 { Zone.powerOn with corrected := some 2000 } } }
    let t := after (exec (.setScan 1#16 (2#8 :: scanBytes 12 2 200)) s)
    t.hlp.buffer.map Answered.reply = [[0x00#8]] ∧ t.slm.toPoll = [1, 2, 3, 4, 9, 10, 11, 12] ∧ t.slm.scanNumber = 1
      ∧ (t.zone 1).corrected = none ∧ t.rcu.acc.starved = true
      ∧ t.evu.pendingSet.getLsbD EventClass.stationLost.bit = true := by decide +kernel

/-- The last poll of a cycle and one with a poll behind it, a closed segment wholly inside the tunnel: a good response, one with a
wrong CRC and none. -/
def dwelling (toPoll : List Nat) : State :=
  { polling freshStation toPoll with
    clock := 1000
    str := { base.str with
      belt := 1090000, lastAccrual := some 400, segments := [{ openSeg with b1 := some 82000 }] } }

theorem witness_StationsJudged_completion :
    ((dwelling [2]).slm.toPoll = 2 :: [] ∧ (dwelling [2, 9]).slm.toPoll = 2 :: [9] ∧ (dwelling [2]).sized)
      ∧ (crcCorrect (response 15#8 0#8) = true ∧ crcCorrect (response 15#8 0#8).dropLast ≠ true)
      ∧ (dwelling [2]).str.segments.length = 1 := by
  unfold State.sized
  decide +kernel

/-- R91, R161: the judging of a cycle's last poll brings the exposure of the 600 ms since the last accrual; no other poll does. -/
theorem test_last_poll_accrues :
    let exposures (s : State) : List Nat := s.str.segments.map Segment.exposure
    exposures (after (exec (.stationResponse (response 15#8 0#8)) (dwelling [2]))) = [600]
      ∧ exposures (after (exec .responseWindowExpiry (dwelling [2]))) = [600]
      ∧ exposures (after (exec .responseWindowExpiry (dwelling [2, 9]))) = [0]
      ∧ (after (exec .responseWindowExpiry (dwelling [2]))).str.lastAccrual = some 1000 := by decide +kernel

/-- R119, R102 (log 38): READ ZONES before the first CONFIGURE LINE sends Z as 0 and no zone record. -/
theorem test_read_zones_unconfigured :
    let t := after (exec (.readZones 1#16 []) State.reset)
    t.hlp.buffer.map (fun a => a.reply.take 2) = [[0x00#8, 0x00#8]]
      ∧ t.hlp.buffer.map (fun a => a.reply.getLast?) = [some 0x00#8] := by decide +kernel

end Sys2Proof.Tests
end

section
/-! SUPPORT. What no command and no event of the part does: touch the queue of commands that wait, take back a use of a free
value, or turn the line clock back. `KeepsTime` says so of two states; each operation and each request's rule has its lemma, and
the lemmas of Laws/ on how far an operation reaches give most of them. -/

namespace Sys2Proof.Machine

/-- From `s` to `t` the queue stands, free values are only used up and the line clock does not fall. -/
structure KeepsTime (s t : State) : Prop where
  pending : t.pending = s.pending
  freeCtr : s.freeCtr ≤ t.freeCtr
  clock   : s.clock ≤ t.clock

theorem KeepsTime.refl (s : State) : KeepsTime s s := ⟨rfl, le_rfl, le_rfl⟩

theorem KeepsTime.trans {s t u : State} (h : KeepsTime s t) (k : KeepsTime t u) : KeepsTime s u :=
  ⟨k.pending.trans h.pending, h.freeCtr.trans k.freeCtr, h.clock.trans k.clock⟩

theorem KeepsTime.ite {s t u : State} {c : Prop} [Decidable c] (h : KeepsTime s t) (k : KeepsTime s u) :
    KeepsTime s (if c then t else u) := by
  split <;> assumption

/-! ## Updates of the state -/

theorem KeepsTime.onPst (s : State) (f : Pst → Pst) : KeepsTime s (s.onPst f) := ⟨rfl, le_rfl, le_rfl⟩
theorem KeepsTime.onSeq (s : State) (f : Seq → Seq) : KeepsTime s (s.onSeq f) := ⟨rfl, le_rfl, le_rfl⟩
theorem KeepsTime.onWtr (s : State) (f : Wtr → Wtr) : KeepsTime s (s.onWtr f) := ⟨rfl, le_rfl, le_rfl⟩
theorem KeepsTime.onZsv (s : State) (f : Zsv → Zsv) : KeepsTime s (s.onZsv f) := ⟨rfl, le_rfl, le_rfl⟩
theorem KeepsTime.onSlm (s : State) (f : Slm → Slm) : KeepsTime s (s.onSlm f) := ⟨rfl, le_rfl, le_rfl⟩
theorem KeepsTime.onRcu (s : State) (f : Rcu → Rcu) : KeepsTime s (s.onRcu f) := ⟨rfl, le_rfl, le_rfl⟩
theorem KeepsTime.onEvu (s : State) (f : Evu → Evu) : KeepsTime s (s.onEvu f) := ⟨rfl, le_rfl, le_rfl⟩
theorem KeepsTime.onHlp (s : State) (f : Hlp → Hlp) : KeepsTime s (s.onHlp f) := ⟨rfl, le_rfl, le_rfl⟩
theorem KeepsTime.onUnwind (s : State) (u : UnwindId) (f : Unwind → Unwind) : KeepsTime s (s.onUnwind u f) := .onRcu ..
theorem KeepsTime.setLine (s : State) (l : Option LineConfig) : KeepsTime s { s with line := l } := ⟨rfl, le_rfl, le_rfl⟩
theorem KeepsTime.useFree (s : State) : KeepsTime s s.useFree := ⟨rfl, Nat.le_succ _, le_rfl⟩
theorem KeepsTime.reach (s : State) (time : Nat) : KeepsTime s (s.reach time) := ⟨rfl, le_rfl, Nat.le_max_left ..⟩

/-! ## From the reach of an operation -/

/-- Neither the clock, nor the count of free values, nor the queue is a block of the line or of SLM. -/
theorem StationsOnly.keepsTime {s t : State} (h : StationsOnly s t) : KeepsTime s t := by
  unfold StationsOnly at h; rw [h]; exact ⟨rfl, le_rfl, le_rfl⟩

theorem UnitsOnly.keepsTime {s t : State} (h : UnitsOnly s t) : KeepsTime s t := h.stations.keepsTime
theorem LineOnly.keepsTime {s t : State} (h : LineOnly s t) : KeepsTime s t := h.units.keepsTime
theorem ZonesOnly.keepsTime {s t : State} (h : ZonesOnly s t) : KeepsTime s t := h.line.keepsTime
theorem ZonesAndNotices.keepsTime {s t : State} (h : ZonesAndNotices s t) : KeepsTime s t := h.units.keepsTime
theorem WebOnly.keepsTime {s t : State} (h : WebOnly s t) : KeepsTime s t := h.units.keepsTime
theorem BeltOnly.keepsTime {s t : State} (h : BeltOnly s t) : KeepsTime s t := h.units.keepsTime

/-- What an event has done, and then what SEQ does at its end. -/
theorem KeepsTime.settle {s t : State} (h : KeepsTime s t) : KeepsTime s t.settle :=
  h.trans (lineOnly_settle t).keepsTime

/-! ## How far the rules of the requests reach -/

theorem lineOnly_cancelHead (s : State) : LineOnly s s.cancelHead := by
  have cancelled : LineOnly s s.markHeadCancelled := .onSeq ..
  unfold State.cancelHead; split
  · exact cancelled
  · split
    · exact cancelled
    · exact (cancelled.trans (lineOnly_endStay _)).trans (lineOnly_toArmed _)
    · exact (cancelled.trans (lineOnly_endStay _)).trans (.setMode ..)
    · split
      · exact (lineOnly_removeHead s).trans (lineOnly_toIdle _)
      · exact lineOnly_removeHead s

theorem lineOnly_leaveFault (s : State) : LineOnly s s.leaveFault := by
  unfold State.leaveFault; split
  · exact lineOnly_walkOn s
  · exact lineOnly_toArmed s

theorem lineOnly_abortPanel (s : State) : LineOnly s s.abortPanel := by
  unfold State.abortPanel; split
  -- a motion in progress, a WAIT, HOLDING, FAULT, IDLE or ARMED
  case h_1 | h_2 | h_3 => exact .onSeq ..
  case h_4 | h_5 => exact (lineOnly_endWork s).trans (lineOnly_toArmed _)
  case h_6 => exact (lineOnly_endPanel s false).trans (.setMode ..)
  case h_7 => exact lineOnly_endPanel s false
  case h_8 => exact .refl s

theorem lineOnly_stopLine (s : State) : LineOnly s s.stopLine := by
  unfold State.stopLine; split
  -- IDLE, a motion in progress, every other state
  case h_1 => exact .refl s
  case h_2 | h_3 | h_4 => exact .onSeq ..
  case h_5 => exact (lineOnly_endWork s).trans (lineOnly_toIdle _)

theorem unitsOnly_loseMark (s : State) : UnitsOnly s s.loseMark := rfl

theorem unitsOnly_startChange (s : State) (automatic : Bool) : UnitsOnly s (s.startChange automatic) := by
  unfold State.startChange; split <;> rfl

theorem unitsOnly_startUnwind (s : State) (u : UnwindId) : UnitsOnly s (s.startUnwind u) := rfl

theorem unitsOnly_rollsLineReset (s : State) : UnitsOnly s s.rollsLineReset := by
  have braked (t : State) (f : Rcu → Rcu) : UnitsOnly t (t.onRcu f).spendUnwinds := rfl
  unfold State.rollsLineReset; dsimp only; split
  · split
    · exact UnitsOnly.trans (t := (s.endChange .reverted (some .reset)).raise .changeAbort) rfl (braked _ _)
    · exact braked s _
  · exact braked s _

theorem unitsOnly_resetLine (s : State) : UnitsOnly s s.resetLine := by
  have blocks : UnitsOnly s ((((s.onSeq Seq.lineReset).onFca fun _ => Fca.powerOn).onWtr Wtr.lineReset).onStr Str.lineReset) :=
    rfl
  exact (blocks.trans (zonesOnly_zonesLineReset _).line.units).trans (unitsOnly_rollsLineReset _)

theorem stationsOnly_rethreshold (threshold : Nat) (s : State) (n : Nat) : StationsOnly s (s.rethreshold threshold n) := by
  unfold State.rethreshold; dsimp only; split
  · exact (StationsOnly.onStation s n _).trans ((UnitsOnly.raise ..).trans (unitsOnly_notifyOwner ..)).stations
  · exact .onStation ..

theorem StationsOnly.foldl {α : Type} (g : State → α → State) (h : ∀ s a, StationsOnly s (g s a)) (l : List α)
    (s : State) : StationsOnly s (l.foldl g s) := by
  induction l generalizing s with
  | nil => exact .refl s
  | cons a rest ih => exact (h s a).trans (ih _)

theorem stationsOnly_changeThreshold (s : State) (threshold : Nat) : StationsOnly s (s.changeThreshold threshold) := by
  unfold State.changeThreshold; split
  · exact .refl s
  · exact (StationsOnly.onSlm s _).trans (.foldl _ (stationsOnly_rethreshold threshold) _ _)

theorem stationsOnly_setScan (s : State) (mode : ScanMode) (last threshold window : Nat) :
    StationsOnly s (s.setScan mode last threshold window) := by
  have settled : StationsOnly s (((s.changeThreshold threshold).onSlm fun m =>
      { m with mode := mode, lastStation := last, window := window }).settle) :=
    ((stationsOnly_changeThreshold s threshold).trans (.onSlm ..)).trans (lineOnly_settle _).units.stations
  unfold State.setScan; dsimp only; split
  · exact settled.trans (stationsOnly_startCycle _)
  · exact settled

theorem keepsTime_storeLine (s : State) (c : LineConfig) : KeepsTime s (s.storeLine c) :=
  ((KeepsTime.setLine s _).trans (webOnly_growOpenMark _).keepsTime).trans (zonesOnly_handOverOccupancy _).keepsTime

/-! ## The requests: each rule's checks in its order, then what it does (R193) -/

/-- A check that fails answers a status and leaves the state. -/
theorem KeepsTime.check {s : State} {c : Prop} [Decidable c] {reply : List Byte} {r : State × List Byte}
    (h : KeepsTime s r.1) : KeepsTime s (if c then (s, reply) else r).1 := by
  split
  · exact .refl s
  · exact h

/-- The last check passed, the rule acts and answers. -/
theorem KeepsTime.answer {s t : State} (h : KeepsTime s t) {reply : List Byte} : KeepsTime s (t, reply).1 := h

theorem keepsTime_handleIdentify (p : List Byte) (s : State) : KeepsTime s (handleIdentify p s).1 := .check (.refl s)
theorem keepsTime_handleReadJobs (p : List Byte) (s : State) : KeepsTime s (handleReadJobs p s).1 := .check (.refl s)
theorem keepsTime_handleReadZones (p : List Byte) (s : State) : KeepsTime s (handleReadZones p s).1 := .check (.refl s)
theorem keepsTime_handleReadRolls (p : List Byte) (s : State) : KeepsTime s (handleReadRolls p s).1 := .check (.refl s)
theorem keepsTime_handleReadProfile (p : List Byte) (s : State) : KeepsTime s (handleReadProfile p s).1 :=
  .check (.check (.refl s))
theorem keepsTime_handleReadSteps (p : List Byte) (s : State) : KeepsTime s (handleReadSteps p s).1 :=
  .check (.check (.refl s))
theorem keepsTime_handleReadMarks (p : List Byte) (s : State) : KeepsTime s (handleReadMarks p s).1 :=
  .check (.check (.refl s))
theorem keepsTime_handleReadSegments (p : List Byte) (s : State) : KeepsTime s (handleReadSegments p s).1 :=
  .check (.check (.refl s))

theorem keepsTime_handleReadStatus (p : List Byte) (s : State) : KeepsTime s (handleReadStatus p s).1 := by
  refine .check ?_
  split
  · exact .refl s
  · exact .ite ((KeepsTime.onSeq s _).trans (.onHlp ..)) (.onSeq ..)

theorem keepsTime_handleReadStations (p : List Byte) (s : State) : KeepsTime s (handleReadStations p s).1 := by
  refine .check ?_
  split
  · exact .refl s
  · exact .ite (.onSlm ..) (.refl s)

theorem keepsTime_handleReadReports (p : List Byte) (s : State) : KeepsTime s (handleReadReports p s).1 := by
  refine .check ?_
  split
  · exact .refl s
  · exact .ite (.onEvu ..) (.refl s)

theorem keepsTime_handleConfigureLine (p : List Byte) (s : State) : KeepsTime s (handleConfigureLine p s).1 := by
  refine .check (.check (.check ?_))
  split
  · exact .refl s
  · exact (keepsTime_storeLine s _).trans (.useFree _)

theorem keepsTime_handleConfigureZones (p : List Byte) (s : State) : KeepsTime s (handleConfigureZones p s).1 :=
  .check (.check (.onZsv ..))

theorem keepsTime_handleConfigureRolls (p : List Byte) (s : State) : KeepsTime s (handleConfigureRolls p s).1 := by
  refine .check ?_
  split
  · exact .refl s
  · exact .check (.answer (.onRcu ..))

theorem keepsTime_handleConfigureLink (p : List Byte) (s : State) : KeepsTime s (handleConfigureLink p s).1 :=
  .check (.check (.answer ((KeepsTime.onHlp s _).trans (.onHlp ..))))

theorem keepsTime_handleLineReset (p : List Byte) (s : State) : KeepsTime s (handleLineReset p s).1 :=
  .check (unitsOnly_resetLine s).keepsTime

theorem keepsTime_handleLoadProfile (p : List Byte) (s : State) : KeepsTime s (handleLoadProfile p s).1 :=
  .check (.check (.check (.check (.answer (.onPst ..)))))

theorem keepsTime_handleOpenPattern (p : List Byte) (s : State) : KeepsTime s (handleOpenPattern p s).1 :=
  .check (.check (.check (.check (.answer (.onPst ..)))))

theorem keepsTime_handleLoadSteps (p : List Byte) (s : State) : KeepsTime s (handleLoadSteps p s).1 := by
  refine .check (.check (.check ?_))
  split
  · exact .refl s
  · exact .check (.answer (.onPst ..))

theorem keepsTime_handleClosePattern (p : List Byte) (s : State) : KeepsTime s (handleClosePattern p s).1 :=
  .check (.check (.check (.answer (.onPst ..))))

theorem keepsTime_handleDeletePattern (p : List Byte) (s : State) : KeepsTime s (handleDeletePattern p s).1 :=
  .check (.check (.check (.answer (.onPst ..))))

theorem keepsTime_handleQueueJob (p : List Byte) (s : State) : KeepsTime s (handleQueueJob p s).1 := by
  refine .check (.check (.check (.check ?_)))
  split
  · exact .refl s
  · exact .check (.check (.ite ((KeepsTime.onSeq s _).trans (zonesOnly_switchTest _).keepsTime) (.onSeq ..)))

theorem keepsTime_handleCancelJob (p : List Byte) (s : State) : KeepsTime s (handleCancelJob p s).1 := by
  refine .check (.check ?_)
  split
  · exact (lineOnly_cancelHead s).keepsTime.settle
  · exact .answer (.onSeq ..)

theorem keepsTime_handleSetPace (p : List Byte) (s : State) : KeepsTime s (handleSetPace p s).1 := by
  refine .check (.check ?_)
  split
  · exact .refl s
  · exact .check (.answer (.onSeq ..))

theorem keepsTime_handleGo (p : List Byte) (s : State) : KeepsTime s (handleGo p s).1 :=
  .check (.check ((KeepsTime.onSeq s _).trans (lineOnly_toArmed _).keepsTime).settle)

theorem keepsTime_handleHold (p : List Byte) (s : State) : KeepsTime s (handleHold p s).1 :=
  .check (KeepsTime.onSeq s _).settle

theorem keepsTime_handleResume (p : List Byte) (s : State) : KeepsTime s (handleResume p s).1 := by
  have released : KeepsTime s s.releaseHolds := .onSeq ..
  refine .check (.check ?_)
  split
  · exact (released.trans (lineOnly_leaveFault _).keepsTime).settle
  · exact released.settle

theorem keepsTime_handleAbortPanel (p : List Byte) (s : State) : KeepsTime s (handleAbortPanel p s).1 :=
  .check (.check (lineOnly_abortPanel s).keepsTime.settle)

theorem keepsTime_handleStopLine (p : List Byte) (s : State) : KeepsTime s (handleStopLine p s).1 :=
  .check (lineOnly_stopLine s).keepsTime

theorem keepsTime_handleReportDefect (p : List Byte) (s : State) : KeepsTime s (handleReportDefect p s).1 := by
  refine .check (.check (.check (.check ?_)))
  split
  · exact (unitsOnly_loseMark s).keepsTime
  · exact (webOnly_enterRegion s _).keepsTime.trans (.useFree _)

theorem keepsTime_handleZoneCommand (p : List Byte) (s : State) : KeepsTime s (handleZoneCommand p s).1 := by
  refine .check ?_
  split
  · exact .refl s
  · exact .check (.check (zonesOnly_zoneActions _ _ s).keepsTime.settle)

theorem keepsTime_handleDeclareRoll (p : List Byte) (s : State) : KeepsTime s (handleDeclareRoll p s).1 := by
  refine .check ?_
  split
  · exact .refl s
  · exact .check (.check (.check (.onUnwind ..)))

theorem keepsTime_handleStartUnwind (p : List Byte) (s : State) : KeepsTime s (handleStartUnwind p s).1 := by
  refine .check ?_
  split
  · exact .refl s
  · exact .check (unitsOnly_startUnwind s _).keepsTime

theorem keepsTime_handleChangeRoll (p : List Byte) (s : State) : KeepsTime s (handleChangeRoll p s).1 := by
  refine .check ?_
  split
  · exact .refl s
  · exact (unitsOnly_startChange s false).keepsTime

theorem keepsTime_handleAbortChange (p : List Byte) (s : State) : KeepsTime s (handleAbortChange p s).1 := by
  refine .check ?_
  split
  · exact .refl s
  · split
    · exact (unitsOnly_revertChange s _ _).keepsTime.settle
    · exact .refl s

theorem keepsTime_handleSetScan (p : List Byte) (s : State) : KeepsTime s (handleSetScan p s).1 := by
  refine .check ?_
  split
  · exact .refl s
  · exact .check (.check (.check (stationsOnly_setScan s _ _ _ _).keepsTime))

theorem keepsTime_handleTakeRequests (p : List Byte) (s : State) : KeepsTime s (handleTakeRequests p s).1 :=
  .check (.check (.onSlm ..))

theorem keepsTime_handleReleaseReports (p : List Byte) (s : State) : KeepsTime s (handleReleaseReports p s).1 :=
  .check (.check (.check (.check (.onEvu ..))))

theorem keepsTime_handleTakeEvents (p : List Byte) (s : State) : KeepsTime s (handleTakeEvents p s).1 :=
  .check (.answer (.onEvu ..))

theorem keepsTime_handleSetNotices (p : List Byte) (s : State) : KeepsTime s (handleSetNotices p s).1 := .check (.onEvu ..)

/-- The reply joins the buffer, and nothing of the queue, the free values or the clock moves. -/
theorem KeepsTime.pushReply {s t : State} (h : KeepsTime s t) (kind : Byte) (tag : BitVec 16) (reply : List Byte) :
    KeepsTime s (t.pushReply kind tag reply) :=
  h.trans ⟨State.pushReply_pending .., (State.pushReply_freeCtr ..).ge, (State.pushReply_clock ..).ge⟩

/-- A request frame is discarded, refused or judged by its rule: it keeps the time when its rule does. -/
theorem keepsTime_hostRequest {h : List Byte → State → State × List Byte} (keeps : ∀ p s, KeepsTime s (h p s).1)
    (kind : Byte) (a : Availability) (tag : BitVec 16) (p : List Byte) (s : State) :
    KeepsTime s (hostRequest kind a h tag p s) := by
  have restarted : KeepsTime s s.restartSilence := .onHlp ..
  unfold hostRequest
  refine .ite (restarted.trans (.onHlp ..)) (.ite (restarted.pushReply ..) ?_)
  exact (restarted.trans (keeps p _)).pushReply ..

/-! ## The events -/

theorem keepsTime_beginNotice (s : State) : KeepsTime s s.beginNotice := (KeepsTime.onHlp s _).trans (.onEvu ..)
theorem keepsTime_beginReply (s : State) : KeepsTime s s.beginReply := .onHlp ..
theorem keepsTime_countCrcError (s : State) : KeepsTime s s.countCrcError := .onHlp ..
theorem keepsTime_restartSilence (s : State) : KeepsTime s s.restartSilence := .onHlp ..
theorem keepsTime_ignoreTrigger (s : State) : KeepsTime s s.ignoreTrigger := .onSeq ..

/-- `o` answers a next state, one that keeps the time of `s`: neither a fault nor a refusal. -/
def Completes (s : State) (o : Host.Outcome State Fault Refusal) : Prop := ∃ t, o = .next t ∧ KeepsTime s t

theorem KeepsTime.completes {s t : State} (h : KeepsTime s t) : Completes s (.next t) := ⟨t, rfl, h⟩

theorem completes_hostRequest {h : List Byte → State → State × List Byte} (keeps : ∀ p s, KeepsTime s (h p s).1)
    (kind : Byte) (a : Availability) (tag : BitVec 16) (p : List Byte) (s : State) :
    Completes s (.next (hostRequest kind a h tag p s)) :=
  (keepsTime_hostRequest keeps kind a tag p s).completes

theorem completes_execReplyEnd (s : State) : Completes s (execReplyEnd s) := by
  refine KeepsTime.completes ?_
  split
  · have freed := KeepsTime.onHlp s fun h => { h with buffer := h.buffer.tail }
    exact .ite (freed.trans (keepsTime_beginNotice _)) (freed.trans (keepsTime_beginReply _))
  · exact .refl s

theorem completes_execNoticeBegin (s : State) : Completes s (execNoticeBegin s) := by
  refine KeepsTime.completes ?_
  split
  · exact .ite (keepsTime_beginNotice s) (.refl s)
  · exact .refl s

theorem completes_execNoticeEnd (s : State) : Completes s (execNoticeEnd s) := by
  have begun := keepsTime_beginReply s
  refine KeepsTime.completes ?_
  split
  · dsimp only
    split
    · exact .ite (begun.trans (keepsTime_beginNotice _)) begun
    · exact begun
  · exact .refl s

theorem completes_execSilenceTimeout (s : State) : Completes s (execSilenceTimeout s) := by
  refine KeepsTime.completes ?_
  split
  · exact .refl s
  · next e _ =>
    have restarted := (KeepsTime.reach s e).trans (keepsTime_restartSilence _)
    exact .ite restarted ((restarted.trans (UnitsOnly.raise ..).keepsTime).trans (.onSeq ..)).settle

theorem completes_execMarkEdge (edge : Edge) (s : State) : Completes s (execMarkEdge edge s) :=
  (KeepsTime.ite (.ite (lineOnly_startPanel s).keepsTime ((keepsTime_ignoreTrigger s).trans (.onSeq ..)))
    (.refl s)).completes

theorem completes_execPaceExpiry (s : State) : Completes s (execPaceExpiry s) := by
  refine KeepsTime.completes ?_
  split
  · exact .refl s
  · next e _ =>
    have restarted := (KeepsTime.reach s e).trans (.onSeq _ fun q => { q with paceTimer := some (e + q.triggers.pacePeriod) })
    exact .ite (restarted.trans (lineOnly_startPanel _).keepsTime) (restarted.trans (keepsTime_ignoreTrigger _))

theorem completes_execFoldEdge (edge : Edge) (s : State) : Completes s (execFoldEdge edge s) :=
  (KeepsTime.ite (.onSeq ..) (.refl s)).completes

theorem completes_execGuardOpen (fed moved : Nat) (s : State) : Completes s (execGuardOpen fed moved s) := by
  have opened := KeepsTime.onSeq s fun q => { q with guardIsOpen := true }
  exact (KeepsTime.ite opened ((opened.trans (unitsOnly_guardStop _ fed moved).keepsTime).trans (.useFree _))).completes

/-- The feed's end: an ending that waited for it, the end of the stay of a cancelled job, or the WAIT. -/
theorem completes_execFeedDone (s : State) : Completes s (execFeedDone s) := by
  refine KeepsTime.completes ?_
  split
  · exact .refl s
  · next c _ =>
    have advanced := (unitsOnly_feedAdvance s c).keepsTime
    refine KeepsTime.trans (KeepsTime.settle (.ite ?_ (.ite (.ite ?_ ?_) ?_))) (.useFree _)
    · exact advanced.trans (lineOnly_finishEnding _).keepsTime
    · exact advanced.trans ((lineOnly_endStay _).trans (lineOnly_toArmed _)).keepsTime
    · exact advanced.trans (.onSeq ..)
    · exact advanced.trans (.onSeq ..)

theorem completes_execStrokeDone (s : State) : Completes s (execStrokeDone s) := by
  refine KeepsTime.completes ?_
  split
  · next r _ _ =>
    have rested := KeepsTime.onSeq s fun q => { q with bladePort := none }
    refine KeepsTime.settle (.ite ?_ ?_)
    · exact rested.trans ((lineOnly_lastFoldCheck _ r).trans (lineOnly_finishEnding _)).keepsTime
    · exact rested.trans (lineOnly_foldCheck ..).keepsTime
  · exact .refl s

theorem completes_execWaitEnd (s : State) : Completes s (execWaitEnd s) :=
  (KeepsTime.ite (KeepsTime.reach s _).settle (.refl s)).completes

theorem completes_execWasteWaitEnd (s : State) : Completes s (execWasteWaitEnd s) :=
  (KeepsTime.ite (KeepsTime.reach s _).settle (.refl s)).completes

theorem completes_execDefectActiveEdge (s : State) : Completes s (execDefectActiveEdge s) := by
  have seen := KeepsTime.onWtr s fun w => { w with defectActive := true, closePending := false }
  exact (KeepsTime.ite (seen.trans (unitsOnly_loseMark _).keepsTime)
    (seen.trans (webOnly_enterRegion _ _).keepsTime)).completes

theorem completes_execDefectInactiveEdge (s : State) : Completes s (execDefectInactiveEdge s) := by
  have seen := KeepsTime.onWtr s fun w => { w with defectActive := false }
  refine (KeepsTime.ite (seen.trans (.onWtr ..)) (.ite (seen.trans ?_) seen)).completes
  exact ((webOnly_closeOpenMark _).trans (webOnly_passMarks _)).keepsTime

/-- An event that does not arise changes nothing; one that arises is followed by what SEQ does. -/
theorem completes_thenSettle {s : State} {o : Option State} (h : ∀ t, o = some t → KeepsTime s t) :
    Completes s (.next (s.thenSettle o)) := by
  cases o with
  | none => exact (KeepsTime.refl s).completes
  | some t => exact (h t rfl).settle.completes

theorem keepsTime_settleExpiry {s t : State} {i : Nat} (h : s.settleExpiry i = some t) : KeepsTime s t := by
  unfold State.settleExpiry at h; split at h
  · next e _ _ =>
    cases h
    have reached := KeepsTime.reach s e
    refine .ite (reached.trans ?_) (reached.trans (ZonesOnly.onZone ..).keepsTime)
    exact (((ZonesOnly.onZone ..).notices.trans (.raise ..)).trans (zonesOnly_startThenHandOut _).notices).keepsTime
  · cases h

theorem keepsTime_purgeFallsDue {s t : State} {i : Nat} (h : s.purgeFallsDue i = some t) : KeepsTime s t := by
  unfold State.purgeFallsDue at h; split at h
  · cases h
  · split at h
    · cases h; exact (KeepsTime.reach s _).trans (zonesOnly_pendPurge ..).keepsTime
    · cases h

theorem keepsTime_forcePurge {s t : State} {i : Nat} (h : s.forcePurge i = some t) : KeepsTime s t := by
  have begun (f : Nat) (r : ZoneReturn) : KeepsTime s (((s.reach f).beginPurge i r).purgeForced i) :=
    (KeepsTime.reach s f).trans ((zonesOnly_beginPurge ..).notices.trans (zonesAndNotices_purgeForced _ i)).keepsTime
  unfold State.forcePurge at h; split at h
  · cases h
  · next f _ =>
    split at h
    · split at h
      -- WARMING, READY or STANDBY; CALIBRATING; no purge to force
      case h_1 | h_2 | h_3 => cases h; exact begun f _
      case h_4 =>
        cases h
        exact (KeepsTime.reach s f).trans
          ((((zonesOnly_releaseReference _).trans (zonesOnly_beginPurge ..)).trans (zonesOnly_joinQueue _ i)).notices.trans
            (zonesAndNotices_purgeForced _ i)).keepsTime
      case h_5 => cases h
    · cases h

theorem keepsTime_endPurge {s t : State} {i : Nat} (h : s.endPurge i = some t) : KeepsTime s t := by
  unfold State.endPurge at h; split at h
  · cases h
    exact (KeepsTime.reach s _).trans
      (((ZonesOnly.onZone ..).trans (zonesOnly_returnZone _ i)).trans (zonesOnly_handOut _)).keepsTime
  · cases h

theorem keepsTime_compareTimeout {s t : State} (h : s.compareTimeout = some t) : KeepsTime s t := by
  unfold State.compareTimeout at h
  obtain ⟨r, _, rfl⟩ := Option.map_eq_some_iff.mp h
  exact (KeepsTime.reach s _).trans (zonesOnly_requeueOwner ..).keepsTime

theorem keepsTime_calibrationFallsDue {s t : State} {i : Nat} (h : s.calibrationFallsDue i = some t) : KeepsTime s t := by
  unfold State.calibrationFallsDue at h
  obtain ⟨d, _, rfl⟩ := Option.map_eq_some_iff.mp h
  have taken := (KeepsTime.reach s d).trans (ZonesOnly.onZone _ i fun z => { z with calibrationDue := none }).keepsTime
  exact .ite (taken.trans (zonesOnly_queueCalibration _ i).keepsTime) taken

theorem completes_execPhaseDeadline (s : State) : Completes s (execPhaseDeadline s) := by
  refine KeepsTime.completes ?_
  split
  · exact .refl s
  · exact ((KeepsTime.reach s _).trans (unitsOnly_breakChange ..).keepsTime).settle

theorem completes_execStationResponse (bytes : List Byte) (s : State) : Completes s (execStationResponse bytes s) := by
  refine KeepsTime.completes ?_
  split
  · exact .refl s
  · refine ((KeepsTime.settle ?_).trans (stationsOnly_nextPoll _).keepsTime).trans (.useFree _)
    split
    · exact (stationsOnly_goodResponse ..).keepsTime
    · exact (stationsOnly_stationMiss ..).keepsTime
    · exact (stationsOnly_stationMiss ..).keepsTime

theorem completes_execResponseWindowExpiry (s : State) : Completes s (execResponseWindowExpiry s) := by
  refine KeepsTime.completes ?_
  split
  · exact .refl s
  · exact (stationsOnly_stationMiss ..).keepsTime.settle.trans (stationsOnly_nextPoll _).keepsTime

/-! ## Every command -/

/-- One case per command; POWER_ON_RESET alone sets the clock back. -/
theorem completes_exec (c : Instr) (s : State) (h : ∀ a b g d, c ≠ .powerOnReset a b g d) : Completes s (exec c s) := by
  cases c with
  | powerOnReset a b g d => exact absurd rfl (h a b g d)
  | lineReset tag p => exact completes_hostRequest keepsTime_handleLineReset ..
  | identify tag p => exact completes_hostRequest keepsTime_handleIdentify ..
  | readStatus tag p => exact completes_hostRequest keepsTime_handleReadStatus ..
  | configureLine tag p => exact completes_hostRequest keepsTime_handleConfigureLine ..
  | configureZones tag p => exact completes_hostRequest keepsTime_handleConfigureZones ..
  | configureRolls tag p => exact completes_hostRequest keepsTime_handleConfigureRolls ..
  | configureLink tag p => exact completes_hostRequest keepsTime_handleConfigureLink ..
  | loadProfile tag p => exact completes_hostRequest keepsTime_handleLoadProfile ..
  | readProfile tag p => exact completes_hostRequest keepsTime_handleReadProfile ..
  | openPattern tag p => exact completes_hostRequest keepsTime_handleOpenPattern ..
  | loadSteps tag p => exact completes_hostRequest keepsTime_handleLoadSteps ..
  | closePattern tag p => exact completes_hostRequest keepsTime_handleClosePattern ..
  | deletePattern tag p => exact completes_hostRequest keepsTime_handleDeletePattern ..
  | readSteps tag p => exact completes_hostRequest keepsTime_handleReadSteps ..
  | queueJob tag p => exact completes_hostRequest keepsTime_handleQueueJob ..
  | cancelJob tag p => exact completes_hostRequest keepsTime_handleCancelJob ..
  | readJobs tag p => exact completes_hostRequest keepsTime_handleReadJobs ..
  | setPace tag p => exact completes_hostRequest keepsTime_handleSetPace ..
  | go tag p => exact completes_hostRequest keepsTime_handleGo ..
  | hold tag p => exact completes_hostRequest keepsTime_handleHold ..
  | resume tag p => exact completes_hostRequest keepsTime_handleResume ..
  | abortPanel tag p => exact completes_hostRequest keepsTime_handleAbortPanel ..
  | stopLine tag p => exact completes_hostRequest keepsTime_handleStopLine ..
  | reportDefect tag p => exact completes_hostRequest keepsTime_handleReportDefect ..
  | readMarks tag p => exact completes_hostRequest keepsTime_handleReadMarks ..
  | readSegments tag p => exact completes_hostRequest keepsTime_handleReadSegments ..
  | zoneCommand tag p => exact completes_hostRequest keepsTime_handleZoneCommand ..
  | readZones tag p => exact completes_hostRequest keepsTime_handleReadZones ..
  | declareRoll tag p => exact completes_hostRequest keepsTime_handleDeclareRoll ..
  | startUnwind tag p => exact completes_hostRequest keepsTime_handleStartUnwind ..
  | changeRoll tag p => exact completes_hostRequest keepsTime_handleChangeRoll ..
  | abortChange tag p => exact completes_hostRequest keepsTime_handleAbortChange ..
  | readRolls tag p => exact completes_hostRequest keepsTime_handleReadRolls ..
  | setScan tag p => exact completes_hostRequest keepsTime_handleSetScan ..
  | readStations tag p => exact completes_hostRequest keepsTime_handleReadStations ..
  | takeRequests tag p => exact completes_hostRequest keepsTime_handleTakeRequests ..
  | readReports tag p => exact completes_hostRequest keepsTime_handleReadReports ..
  | releaseReports tag p => exact completes_hostRequest keepsTime_handleReleaseReports ..
  | takeEvents tag p => exact completes_hostRequest keepsTime_handleTakeEvents ..
  | setNotices tag p => exact completes_hostRequest keepsTime_handleSetNotices ..
  | unknownKindRequest kind tag p => exact completes_hostRequest (fun _ t => .refl t) ..
  | strayFrame => exact ((keepsTime_restartSilence s).trans (.onHlp ..)).completes
  | linkOverrun => exact (KeepsTime.ite ((keepsTime_restartSilence s).trans (.onHlp ..)) (.refl s)).completes
  | frameCrcError => exact (keepsTime_countCrcError s).completes
  | frameLengthError => exact (keepsTime_countCrcError s).completes
  | interByteGap => exact (keepsTime_countCrcError s).completes
  | missingStopBit inFrame => exact (KeepsTime.ite (keepsTime_countCrcError s) (.refl s)).completes
  | replyEnd => exact completes_execReplyEnd s
  | noticeBegin => exact completes_execNoticeBegin s
  | silenceTimeout => exact completes_execSilenceTimeout s
  | markEdge edge => exact completes_execMarkEdge edge s
  | paceExpiry => exact completes_execPaceExpiry s
  | foldEdge edge => exact completes_execFoldEdge edge s
  | guardOpen fed moved => exact completes_execGuardOpen fed moved s
  | guardClose => exact (KeepsTime.onSeq s _).completes
  | feedDone => exact completes_execFeedDone s
  | strokeDone => exact completes_execStrokeDone s
  | waitEnd => exact completes_execWaitEnd s
  | wasteWaitEnd => exact completes_execWasteWaitEnd s
  | defectActiveEdge => exact completes_execDefectActiveEdge s
  | defectInactiveEdge => exact completes_execDefectInactiveEdge s
  | beltDone => exact completes_thenSettle fun _ h => (beltOnly_beltDone h).keepsTime
  | cutDone => exact completes_thenSettle fun _ h => (unitsOnly_cutDone h).keepsTime
  | settleExpiry zone => exact completes_thenSettle fun _ => keepsTime_settleExpiry
  | purgeDeadline zone => exact completes_thenSettle fun _ => keepsTime_purgeFallsDue
  | forceTime zone => exact completes_thenSettle fun _ => keepsTime_forcePurge
  | purgeEndTime zone => exact completes_thenSettle fun _ => keepsTime_endPurge
  | compareDeadline => exact completes_thenSettle fun _ => keepsTime_compareTimeout
  | calibrationDue zone => exact completes_thenSettle fun _ => keepsTime_calibrationFallsDue
  | phaseDeadline => exact completes_execPhaseDeadline s
  | stationResponse bytes => exact completes_execStationResponse bytes s
  | responseWindowExpiry => exact completes_execResponseWindowExpiry s
  | noticeEnd => exact completes_execNoticeEnd s

/-- POWER_ON_RESET answers the state after power-on with the model's own queue and count of free values (log 26). -/
theorem exec_powerOnReset (a b g d : Bool) (s : State) : exec (.powerOnReset a b g d) s =
    .next { State.powerOn a b g d with pending := s.pending, freeCtr := s.freeCtr } := rfl

/-- Settles O2: POWER_ON_RESET alone sets the line clock; every other command keeps the time. -/
theorem everyCommandCompletes : Obligations.EveryCommandCompletes := by
  intro c s
  by_cases h : ∀ a b g d, c ≠ .powerOnReset a b g d
  · obtain ⟨t, answers, keeps⟩ := completes_exec c s h
    exact ⟨t, answers, keeps.pending, keeps.freeCtr, fun _ => keeps.clock⟩
  · push Not at h
    obtain ⟨a, b, g, d, rfl⟩ := h
    exact ⟨_, exec_powerOnReset a b g d s, rfl, le_rfl, fun other => absurd rfl (other a b g d)⟩

/-! ## One step -/

theorem step_of_front {c : Instr} {rest : List Instr} {s : State} (h : s.pending = c :: rest) :
    step s = exec c { s with pending := rest } := by
  unfold step; rw [h]

theorem step_of_empty {s : State} (h : s.pending = []) : step s = s.tick := by
  unfold step; rw [h]

theorem State.tick_of_nothing_due {s : State} (h : s.due = []) : s.tick = .next { s with clock := s.clock + 1 } := by
  unfold State.tick; rw [h]

theorem State.tick_of_one_due {s : State} {c : Instr} (h : s.due = [c]) : s.tick = exec c s := by
  unfold State.tick; rw [h]

/-- With several events due the free value picks a position of the list of them. -/
theorem State.tick_of_several_due {s : State} (h : 2 ≤ s.due.length) : ∃ c ∈ s.due, s.tick = exec c s.useFree := by
  unfold State.tick
  match hd : s.due, h with
  | c :: d :: rest, _ =>
    have inside : Config.pickDue s.freeCtr % (rest.length + 2) < (c :: d :: rest).length := Nat.mod_lt _ (by omega)
    refine ⟨_, List.getElem_mem inside, ?_⟩
    simp only [List.getD_eq_getElem _ c inside]

/-- Settles O1: with a command waiting by `step_of_front`, with none by the three cases of a tick. -/
theorem stepRunsFrontOrTicks : Obligations.StepRunsFrontOrTicks := by
  refine ⟨fun c rest s h => step_of_front h, fun s h => ?_⟩
  rw [step_of_empty h]
  exact ⟨State.tick_of_nothing_due, fun c => State.tick_of_one_due, State.tick_of_several_due⟩

end Sys2Proof.Machine
end

section
/-! SUPPORT. What every operation of the line keeps: the pattern store stands, a queued job's pattern is one that a queued job
named before, the feed residue stays in its range and the panels stay balanced (R11, R29, R99). `LineKept` says so of two states;
each operation that the frames of Laws/ let change SEQ, FCA or STR has its lemma. -/

namespace Sys2Proof.Machine

/-- From `s` to `t` the pattern store stands, the queue names no new pattern, and the residue and the panel counts stay sound. -/
structure LineKept (s t : State) : Prop where
  store   : t.pst = s.pst
  jobs    : ∀ j ∈ t.seq.jobs, ∃ k ∈ s.seq.jobs, k.patternId = j.patternId
  residue : s.residueBounded → t.residueBounded
  panels  : s.panelsBalance → t.panelsBalance

/-- All that the three invariants read of a state. -/
def State.lineView (s : State) : Pst × List Job × Nat × Nat × Nat × Nat :=
  (s.pst, s.seq.jobs, s.fca.residue, s.str.panelsBegun, s.str.reports, s.str.segments.length)

/-- Nothing that the three invariants read has changed. -/
theorem LineKept.of_view {s t : State} (h : t.lineView = s.lineView) : LineKept s t := by
  simp only [State.lineView, Prod.mk.injEq] at h
  obtain ⟨store, jobs, residue, begun, reports, segments⟩ := h
  refine ⟨store, fun j hj => ⟨j, jobs ▸ hj, rfl⟩, fun bounded => ?_, fun balance => ?_⟩
  · unfold State.residueBounded at *; omega
  · unfold State.panelsBalance at *; omega

theorem LineKept.refl (s : State) : LineKept s s := .of_view rfl

theorem LineKept.trans {s t u : State} (h : LineKept s t) (k : LineKept t u) : LineKept s u where
  store := k.store.trans h.store
  jobs j hj := by
    obtain ⟨i, hi, named⟩ := k.jobs j hj
    obtain ⟨i', hi', named'⟩ := h.jobs i hi
    exact ⟨i', hi', named'.trans named⟩
  residue := k.residue ∘ h.residue
  panels := k.panels ∘ h.panels

theorem LineKept.ite {s t u : State} {c : Prop} [Decidable c] (h : LineKept s t) (k : LineKept s u) :
    LineKept s (if c then t else u) := by
  split <;> assumption

theorem LineKept.foldl {α : Type} (g : State → α → State) (h : ∀ s a, LineKept s (g s a)) (l : List α) (s : State) :
    LineKept s (l.foldl g s) := by
  induction l generalizing s with
  | nil => exact .refl s
  | cons a rest ih => exact (h s a).trans (ih _)

/-! ## Updates of the state -/

theorem LineKept.onWtr (s : State) (f : Wtr → Wtr) : LineKept s (s.onWtr f) := .of_view rfl
theorem LineKept.onZsv (s : State) (f : Zsv → Zsv) : LineKept s (s.onZsv f) := .of_view rfl
theorem LineKept.onSlm (s : State) (f : Slm → Slm) : LineKept s (s.onSlm f) := .of_view rfl
theorem LineKept.onRcu (s : State) (f : Rcu → Rcu) : LineKept s (s.onRcu f) := .of_view rfl
theorem LineKept.onEvu (s : State) (f : Evu → Evu) : LineKept s (s.onEvu f) := .of_view rfl
theorem LineKept.onHlp (s : State) (f : Hlp → Hlp) : LineKept s (s.onHlp f) := .of_view rfl
theorem LineKept.raise (s : State) (c : EventClass) : LineKept s (s.raise c) := .of_view rfl
theorem LineKept.setMode (s : State) (m : SeqMode) : LineKept s (s.setMode m) := .of_view rfl
theorem LineKept.onUnwind (s : State) (u : UnwindId) (f : Unwind → Unwind) : LineKept s (s.onUnwind u f) := .of_view rfl
theorem LineKept.reach (s : State) (time : Nat) : LineKept s (s.reach time) := .of_view rfl
theorem LineKept.useFree (s : State) : LineKept s s.useFree := .of_view rfl
theorem LineKept.indexBelt (s : State) (d : Nat) : LineKept s (s.indexBelt d) := .of_view rfl

/-- A queue that loses jobs, or changes them in all but their patterns. -/
theorem LineKept.onJobs (s : State) (f : Seq → Seq)
    (h : ∀ j ∈ (f s.seq).jobs, ∃ k ∈ s.seq.jobs, k.patternId = j.patternId) : LineKept s (s.onSeq f) :=
  ⟨rfl, h, id, id⟩

/-- SEQ changes, but for its queue. -/
theorem LineKept.onSeq (s : State) (f : Seq → Seq) (jobs : (f s.seq).jobs = s.seq.jobs) : LineKept s (s.onSeq f) :=
  .onJobs s f fun j hj => ⟨j, jobs ▸ hj, rfl⟩

/-- FCA changes, but for the feed residue. -/
theorem LineKept.onFca (s : State) (f : Fca → Fca) (residue : (f s.fca).residue = s.fca.residue) : LineKept s (s.onFca f) :=
  .of_view (by simp [State.lineView, residue])

/-- STR changes, but for the two counts and the number of segments. -/
theorem LineKept.onStr (s : State) (f : Str → Str) (begun : (f s.str).panelsBegun = s.str.panelsBegun)
    (reports : (f s.str).reports = s.str.reports) (segments : (f s.str).segments.length = s.str.segments.length) :
    LineKept s (s.onStr f) :=
  .of_view (by simp [State.lineView, begun, reports, segments])

theorem LineKept.onOpenSegment (s : State) (f : Segment → Segment) : LineKept s (s.onOpenSegment f) :=
  .onStr s _ rfl rfl (length_modifyLast ..)

theorem LineKept.flagZone (s : State) (i : Nat) (f : PanelFlags → PanelFlags) : LineKept s (s.flagZone i f) :=
  .onStr s _ rfl rfl (List.length_map ..)

theorem ZonesOnly.kept {s t : State} (h : ZonesOnly s t) : LineKept s t := by
  unfold ZonesOnly at h; rw [h]; exact .of_view rfl

/-! ## The zones -/

theorem kept_faultZone (s : State) (i : Nat) (c : ZoneCause) : LineKept s (s.faultZone i c) := by
  unfold State.faultZone; split
  · exact (((ZonesOnly.onZone s i _).kept.trans (.flagZone ..)).trans (.raise ..)).trans (zonesOnly_dropCalibration _ i).kept
  · exact .refl s

theorem kept_completeCalibration (s : State) (i : Nat) (raw reference : Int) :
    LineKept s (s.completeCalibration i raw reference) :=
  ((((ZonesOnly.onZone s i _).trans (zonesOnly_releaseReference _)).trans (zonesOnly_returnZone _ i)).kept.trans
    (.raise ..)).trans (zonesOnly_startThenHandOut _).kept

theorem kept_purgeForced (s : State) (i : Nat) : LineKept s (s.purgeForced i) :=
  ((LineKept.flagZone s i _).trans (.raise ..)).trans (zonesOnly_startThenHandOut _).kept

theorem kept_freshReading (s : State) (i : Nat) (raw : Int) : LineKept s (s.freshReading i raw) := by
  unfold State.freshReading; dsimp only; split
  · exact (ZonesOnly.onZone s i _).kept.trans (kept_faultZone ..)
  · exact ((((ZonesOnly.onZone s i _).trans (.onZone ..)).trans (zonesOnly_settleTest _ i)).trans
      (zonesOnly_calibrationEntry _ i)).kept

theorem kept_zoneNotice (s : State) (i : Nat) (c : Condition) : LineKept s (s.zoneNotice i c) := by
  have gone := (ZonesOnly.onZone s i fun z =>
    { z with corrected := none, settle := if z.state = .warming then .stopped else z.settle }).kept
  cases c with
  | fresh => exact .refl s
  | lost => exact gone.trans (kept_faultZone ..)
  | stale | missing => exact gone

theorem kept_zoneCode (s : State) (i code : Nat) : LineKept s (s.zoneCode i code) :=
  .ite (kept_faultZone ..) (.ite (kept_faultZone ..) (.refl s))

theorem kept_zoneReadings (s : State) (i : Nat) (fresh : Bool) (status : Byte) (raw reference : Int) :
    LineKept s (s.zoneReadings i fresh status raw reference) := by
  have read : LineKept s (if fresh then s.freshReading i raw else s) := .ite (kept_freshReading ..) (.refl s)
  exact .ite (read.trans (kept_completeCalibration ..)) read

theorem kept_zoneResponse (s : State) (i : Nat) (fresh : Bool) (code : Nat) (status : Byte) (raw reference : Int) :
    LineKept s (s.zoneResponse i fresh code status raw reference) :=
  .ite (kept_zoneReadings ..) (.ite (kept_zoneCode ..) (.ite ((kept_zoneCode ..).trans (kept_zoneReadings ..))
    ((kept_zoneReadings ..).trans (kept_zoneCode ..))))

/-! ## The sequencer -/

theorem kept_toIdle (s : State) : LineKept s s.toIdle := .of_view rfl

theorem kept_enterHolding (s : State) (p : ReturnPoint) : LineKept s (s.enterHolding p) := .of_view rfl

theorem kept_enterFault (s : State) (r : SeqFaultReason) : LineKept s (s.enterFault r) :=
  .ite (.refl s) (.of_view rfl)

theorem kept_toArmed (s : State) : LineKept s s.toArmed :=
  .ite (kept_toIdle s) (.ite (kept_enterHolding ..) (.setMode ..))

theorem kept_removeHead (s : State) : LineKept s s.removeHead :=
  (LineKept.onJobs s _ fun j hj => ⟨j, List.mem_of_mem_tail hj, rfl⟩).trans (zonesOnly_switchTest _).kept

theorem kept_headLeaves (s : State) : LineKept s s.headLeaves := (kept_removeHead s).trans (.raise ..)

/-- A change of the head job that leaves its pattern. -/
theorem exists_patternId_of_mem_modify_zero {f : Job → Job} (named : ∀ j, (f j).patternId = j.patternId) {l : List Job}
    {j : Job} (h : j ∈ l.modify 0 f) : ∃ k ∈ l, k.patternId = j.patternId := by
  cases l with
  | nil => simp at h
  | cons a rest =>
    rcases List.mem_cons.mp h with rfl | h
    · exact ⟨a, List.mem_cons_self, (named a).symm⟩
    · exact ⟨j, List.mem_cons_of_mem a h, rfl⟩

theorem kept_endPanel (s : State) (reachedEnd : Bool) : LineKept s (s.endPanel reachedEnd) := by
  have closed : LineKept s (s.onStr (Str.closeSegment reachedEnd)) := .onStr s _ rfl rfl (length_modifyLast ..)
  have ended := (closed.trans (.onJobs _ (fun q => { q with
    openPanel := none, lastStrokeStart := none, step := none, jobs := q.jobs.modify 0 Job.advance })
    fun _ => exists_patternId_of_mem_modify_zero (f := Job.advance) fun _ => rfl)).trans
      (.onFca _ (fun f => { f with panelLp := none }) rfl)
  exact .ite (ended.trans (kept_headLeaves _)) ended

theorem kept_endStay (s : State) : LineKept s s.endStay := by
  have ended := LineKept.onSeq s (fun q => { q with chunk := none, wasteTarget := none, lastStrokeStart := none }) rfl
  exact .ite (ended.trans (kept_headLeaves _)) ended

theorem kept_endWork (s : State) : LineKept s s.endWork :=
  .ite (kept_endPanel ..) (.ite (kept_endStay s) (.refl s))

theorem kept_finishEnding (s : State) : LineKept s s.finishEnding := by
  have ended := (LineKept.onSeq s (fun q => { q with ending := Ending.none }) rfl).trans (kept_endWork _)
  have faulted : LineKept s _ := LineKept.ite (c := s.seq.ending.webEnd = true) (ended.trans (kept_enterFault _ .webEnd)) ended
  exact .ite (faulted.trans (kept_toIdle _)) (.ite faulted (faulted.trans (kept_toArmed _)))

/-- The residue that a step computation leaves is a remainder by 10¹² (R28, R29). -/
theorem kept_takeStep (s : State) (r : StepRecord) : LineKept s (s.takeStep r) where
  store := rfl
  jobs j hj := ⟨j, hj, rfl⟩
  residue _ := (feedCounts_spec ..).2
  panels h := h

theorem kept_beginFeed (s : State) (r : StepRecord) : LineKept s (s.beginFeed r) := by
  have fed := (kept_takeStep s r).trans (.onSeq _ (fun q => { q with
    mode := .runFeed, feedPort := some (s.stepAnswer r).counts
    step := some { graded := (s.stepAnswer r).graded, interval := (s.stepAnswer r).interval, stroked := false
                   retries := 0 } }) rfl)
  exact .ite (fed.trans (.onOpenSegment ..)) fed

theorem kept_takeWalk (s : State) (w : WalkStop) : LineKept s (s.takeWalk w) := by
  cases w with
  | forming i r cs =>
    have moved := LineKept.onSeq s (fun q => { q with
      step := none, openPanel := q.openPanel.map fun p => { p with pointer := i, counters := cs } }) rfl
    exact .ite (moved.trans (kept_enterHolding ..)) (moved.trans (kept_beginFeed ..))
  | ended i => exact (kept_endPanel s true).trans (kept_toArmed _)
  | lost => exact (kept_endPanel s false).trans (kept_toArmed _)

theorem kept_walkOn (s : State) : LineKept s s.walkOn := by
  unfold State.walkOn; split
  · exact .refl s
  · exact kept_takeWalk ..

theorem kept_beginStroke (s : State) (r : StepRecord) (st : StepRun) : LineKept s (s.beginStroke r st) := by
  have begun := LineKept.onSeq s (fun q => { q with
    mode := .runStroke, lastStrokeStart := some s.clock, bladePort := some r.kind.blades, foldEdges := 0
    step := some { st with stroked := true, retries := if st.stroked then st.retries + 1 else st.retries } }) rfl
  exact .ite (begun.trans (.onOpenSegment ..)) ((begun.trans (.indexBelt ..)).trans (.onOpenSegment ..))

theorem kept_endRunWait (s : State) : LineKept s s.endRunWait := by
  unfold State.endRunWait; split
  · exact .ite (kept_beginStroke ..) (((LineKept.onSeq s _ rfl).trans (.indexBelt ..)).trans (kept_walkOn _))
  · exact .refl s

theorem kept_foldMissed (s : State) : LineKept s s.foldMissed := .onOpenSegment ..

theorem kept_foldCheck (s : State) (r : StepRecord) (n : Nat) : LineKept s (s.foldCheck r n) := by
  have walked := (kept_foldMissed s).trans (kept_walkOn _)
  refine .ite (kept_walkOn s) ?_
  cases r.confirm with
  | stop => exact (kept_foldMissed s).trans (kept_enterFault ..)
  | retry => exact .ite (.setMode ..) walked
  | ignore | skip => exact walked

theorem kept_lastFoldCheck (s : State) (r : StepRecord) : LineKept s (s.lastFoldCheck r) :=
  .ite (.refl s) (kept_foldMissed s)

/-- A panel opens with the opening residue of R29, one panel begun and one segment more (R56, R88). -/
theorem kept_openPanelNow (s : State) : LineKept s s.openPanelNow := by
  unfold State.openPanelNow; dsimp only; split
  · exact .refl s
  · refine LineKept.trans ?opened (kept_takeWalk ..)
    refine ⟨rfl, fun j hj => ⟨j, hj, rfl⟩, fun _ => ?_, fun balance => ?_⟩
    · show openingResidue < 1000000000000
      decide
    · simp only [State.panelsBalance, State.onStr_str, State.onSeq_str, State.onFca_str, Str.openSegment,
        List.length_append, List.length_singleton] at balance ⊢
      omega

theorem kept_beginChunk (s : State) (target : Int) : LineKept s (s.beginChunk target) := by
  unfold State.beginChunk; exact (LineKept.onFca s _ rfl).trans (.onSeq _ _ rfl)

theorem kept_enterWaste (s : State) (target : Int) : LineKept s (s.enterWaste target) :=
  ((LineKept.onFca s _ rfl).trans (.onSeq _ _ rfl)).trans (kept_beginChunk ..)

theorem kept_startPanel (s : State) : LineKept s s.startPanel := by
  unfold State.startPanel; split
  · exact kept_enterWaste ..
  · exact kept_openPanelNow s

theorem kept_repeatCheck (s : State) : LineKept s s.repeatCheck := by
  refine .ite ((kept_endStay s).trans (kept_toArmed _)) ?_
  split
  · exact kept_beginChunk ..
  · exact kept_openPanelNow s

theorem kept_endWasteWait (s : State) : LineKept s s.endWasteWait := by
  unfold State.endWasteWait; split
  · next c _ _ _ =>
    have waited := (LineKept.onSeq s (fun q => { q with
      lastStrokeStart := some s.clock, wasteTotal := q.wasteTotal + c.index, chunk := none }) rfl).trans (.indexBelt _ c.index)
    exact .ite (waited.trans (kept_repeatCheck _)) (waited.trans (kept_beginChunk ..))
  · exact .refl s

theorem kept_takeHold (s : State) : LineKept s s.takeHold := by
  refine .ite ?_ (.refl s)
  split
  case h_1 | h_2 | h_3 => exact kept_enterHolding ..
  case h_4 => exact .refl s

theorem kept_leaveHold (s : State) : LineKept s s.leaveHold := by
  refine .ite (.refl s) ?_
  split
  case h_1 => exact kept_toArmed s
  case h_2 | h_3 => exact .setMode ..
  case h_4 =>
    split
    · exact kept_beginFeed ..
    · exact .refl s
  case h_5 => exact .refl s

theorem kept_waitStep (s : State) : LineKept s s.waitStep := by
  refine .ite ?_ (.refl s)
  split
  · exact kept_endWasteWait s
  · exact kept_endRunWait s
  · exact .refl s

theorem kept_armedStart (s : State) : LineKept s s.armedStart := .ite (kept_startPanel s) (.refl s)

theorem kept_settle (s : State) : LineKept s s.settle :=
  (((kept_takeHold s).trans (kept_leaveHold _)).trans (kept_waitStep _)).trans (kept_armedStart _)

/-- What an event has done, and then what SEQ does at its end. -/
theorem LineKept.settle {s t : State} (h : LineKept s t) : LineKept s t.settle := h.trans (kept_settle t)

end Sys2Proof.Machine
end

section
/-! SUPPORT. `LineKept` of the web, the belt and its cutter, the rolls and the stations. -/

namespace Sys2Proof.Machine

/-! ## The web -/

theorem kept_reachMarks (s : State) : LineKept s s.reachMarks :=
  .ite ((LineKept.onWtr s _).trans (.onOpenSegment ..)) (.onWtr ..)

theorem kept_passMarks (s : State) : LineKept s s.passMarks := .onWtr ..
theorem kept_closeOpenMark (s : State) : LineKept s s.closeOpenMark := .onWtr ..

theorem kept_growOpenMark (s : State) : LineKept s s.growOpenMark := by
  unfold State.growOpenMark; split
  · exact .refl s
  · exact .onWtr ..

theorem kept_takeAdvance (s : State) : LineKept s s.takeAdvance := by
  have grown := kept_growOpenMark s
  have closed : LineKept s (if s.growOpenMark.wtr.closePending then s.growOpenMark.closeOpenMark else s.growOpenMark) :=
    .ite (grown.trans (kept_closeOpenMark _)) grown
  exact (closed.trans (kept_reachMarks _)).trans (kept_passMarks _)

theorem kept_loseMark (s : State) : LineKept s s.loseMark := .of_view rfl

theorem kept_enterRegion (s : State) (r : Mark) : LineKept s (s.enterRegion r) :=
  (LineKept.onWtr s _).trans (kept_reachMarks _)

theorem kept_makeSplice (s : State) (profileId : Nat) : LineKept s (s.makeSplice profileId) :=
  (LineKept.onWtr s _).trans (kept_reachMarks _)

theorem kept_feedAdvance (s : State) (counts : Nat) : LineKept s (s.feedAdvance counts) := by
  have fed := LineKept.onSeq s (fun q => { q with feedTotal := q.feedTotal + counts, feedPort := none }) rfl
  exact LineKept.trans (.ite (fed.trans (.onOpenSegment ..)) fed) (kept_takeAdvance _)

/-! ## The belt and the cutter -/

theorem kept_cutCheck (s : State) : LineKept s s.cutCheck := by
  unfold State.cutCheck; split
  · split
    · exact .of_view rfl
    · exact .refl s
  · exact .refl s

theorem kept_beltConsequences (s : State) : LineKept s s.beltConsequences := by
  have flagged : LineKept s (s.onStr fun t => { t with segments := t.segments.map s.zoneFlagged }) :=
    .onStr s _ rfl rfl (List.length_map ..)
  exact ((flagged.trans (zonesOnly_handOverAdvance _).kept).trans (zonesOnly_switchTest _).kept).trans (kept_cutCheck _)

theorem kept_indexDone (s : State) : LineKept s (s.onStr Str.indexDone) := by
  have counts : s.str.indexDone.panelsBegun = s.str.panelsBegun ∧ s.str.indexDone.reports = s.str.reports
      ∧ s.str.indexDone.segments = s.str.segments := by
    unfold Str.indexDone; split <;> exact ⟨rfl, rfl, rfl⟩
  obtain ⟨begun, reports, segments⟩ := counts
  exact .onStr s _ begun reports (congrArg List.length segments)

theorem kept_beltDone {s t : State} (h : s.beltDone = some t) : LineKept s t := by
  unfold State.beltDone at h; split at h
  · cases h; exact (kept_indexDone s).trans (kept_beltConsequences _)
  · cases h

theorem kept_stopBelt (s : State) (moved : Nat) : LineKept s (s.stopBelt moved) := by
  have stopped : LineKept s (s.onStr (Str.stopBelt moved)) := .onStr s _ rfl rfl (List.length_map ..)
  exact .ite stopped (stopped.trans (kept_beltConsequences _))

theorem kept_writeReport (s : State) (r : Report) : LineKept s (s.writeReport r) :=
  .ite ((LineKept.onEvu s _).trans (.raise ..)) (((LineKept.onEvu s _).trans (.raise ..)).trans (.raise ..))

/-- The oldest segment leaves the queue and one report more is produced (R97, R99). -/
theorem kept_finishSegment {s : State} {g : Segment} {rest : List Segment} (h : s.str.segments = g :: rest) :
    LineKept s (s.finishSegment g) := by
  have written := kept_writeReport s (g.settled (s.pst.profile g.profileId)).report
  have str : (s.writeReport (g.settled (s.pst.profile g.profileId)).report).str = s.str := by
    unfold State.writeReport; dsimp only; split <;> rfl
  refine ⟨written.store, written.jobs, written.residue, fun balance => ?_⟩
  unfold State.panelsBalance at *
  simp only [State.finishSegment, State.onStr_str, str, h, List.tail_cons, List.length_cons] at *
  omega

theorem kept_cutDone {s t : State} (h : s.cutDone = some t) : LineKept s t := by
  unfold State.cutDone at h; split at h
  case h_1 g rest _ segments =>
    cases h
    have trimmed : LineKept s (s.onStr fun t => { t with
        segments := { g with leadNeeded := false } :: rest, cutter := .idle }) :=
      .onStr s _ rfl rfl (by simp [segments])
    exact trimmed.trans (kept_cutCheck _)
  case h_2 g rest _ segments =>
    cases h
    exact (((kept_finishSegment segments).trans (zonesOnly_handOverOccupancy _).kept).trans
      (zonesOnly_switchTest _).kept).trans (kept_cutCheck _)
  case h_3 => cases h

theorem kept_guardStop (s : State) (fed moved : Nat) : LineKept s (s.guardStop fed moved) := by
  have cut : LineKept s (if s.feeding then s.feedAdvance fed else s) := .ite (kept_feedAdvance ..) (.refl s)
  exact (((cut.trans (.onSeq _ (fun q => { q with bladePort := none, ending := Ending.none }) rfl)).trans
    (kept_stopBelt ..)).trans (kept_endWork _)).trans (kept_enterFault ..)

/-! ## The rolls -/

theorem kept_webEnd (s : State) : LineKept s s.webEnd := by
  unfold State.webEnd; split
  -- IDLE; a motion in progress; every other state
  case h_1 => exact .refl s
  case h_2 | h_3 | h_4 => exact .onSeq _ _ rfl
  case h_5 => exact (kept_endWork s).trans (kept_enterFault ..)

theorem kept_endChange (s : State) (o : ChangeOutcome) (cause : Option ChangeCause) : LineKept s (s.endChange o cause) :=
  .onRcu ..

theorem kept_enterPhase (s : State) (p : ChangePhase) : LineKept s (s.enterPhase p) := .onRcu ..

theorem kept_addRoll (s : State) : LineKept s s.addRoll := .onSeq _ _ rfl

theorem kept_startChange (s : State) (automatic : Bool) : LineKept s (s.startChange automatic) := by
  unfold State.startChange; split
  · exact .refl s
  · exact .onRcu ..

theorem kept_revertChange (s : State) (c : Change) (cause : ChangeCause) : LineKept s (s.revertChange c cause) := by
  have held : LineKept s (if s.restartable c.old then s else s.addRoll) := .ite (.refl s) (kept_addRoll s)
  exact (held.trans (kept_endChange ..)).trans (.raise ..)

theorem kept_failChange (s : State) (cause : ChangeCause) : LineKept s (s.failChange cause) :=
  ((kept_addRoll s).trans (kept_endChange ..)).trans (.raise ..)

theorem kept_breakChange (s : State) (cause : ChangeCause) : LineKept s (s.breakChange cause) := by
  unfold State.breakChange; split
  · exact .refl s
  · exact .ite (kept_revertChange ..) (kept_failChange ..)

theorem kept_activeRollEnd (s : State) (u : UnwindId) : LineKept s (s.activeRollEnd u) := by
  unfold State.activeRollEnd; split
  · exact kept_webEnd s
  · exact .ite (.ite (((kept_endChange s _ _).trans (.raise ..)).trans (kept_webEnd _)) (.refl s))
      (.ite ((kept_failChange ..).trans (kept_webEnd _)) (.refl s))

theorem kept_rollEnd (s : State) (u : UnwindId) : LineKept s (s.rollEnd u) := .ite (kept_activeRollEnd ..) (.refl s)

theorem kept_standbyRemoved (s : State) (u : UnwindId) : LineKept s (s.standbyRemoved u) := by
  unfold State.standbyRemoved; split
  · exact .ite (kept_breakChange ..) (.refl s)
  · exact .refl s

theorem kept_rollRemoved (s : State) (u : UnwindId) : LineKept s (s.rollRemoved u) := by
  unfold State.rollRemoved; split
  -- EMPTY; LOADED or SPENT; READY; ACTIVE
  case h_1 => exact .refl s
  case h_2 | h_3 => exact .onUnwind ..
  case h_4 => exact (kept_standbyRemoved ..).trans (.onUnwind ..)
  case h_5 => exact kept_rollEnd ..

theorem kept_unwindCode (s : State) (u : UnwindId) (code : Nat) : LineKept s (s.unwindCode u code) :=
  .ite (.ite (.onUnwind ..) (.refl s)) (.ite (kept_rollRemoved ..) (.ite (kept_rollEnd ..) (.refl s)))

theorem kept_unwindNotice (s : State) (u : UnwindId) (c : Condition) : LineKept s (s.unwindNotice u c) := by
  have gone := LineKept.onUnwind s u fun x => { x with runState := none }
  cases c with
  | fresh => exact .refl s
  | lost => exact gone.trans (kept_breakChange ..)
  | stale | missing => exact gone

theorem kept_unwindStatus (s : State) (u : UnwindId) (rs : RunState) : LineKept s (s.unwindStatus u rs) := by
  have taken := LineKept.onUnwind s u fun x => { x with runState := some rs }
  unfold State.unwindStatus; dsimp only; split
  · exact taken
  · exact .ite (taken.trans (kept_enterPhase ..)) (.ite ((taken.trans (kept_endChange ..)).trans (.raise ..)) taken)

theorem kept_tryAuto (s : State) (u : UnwindId) : LineKept s (s.tryAuto u) := by
  unfold State.tryAuto; split
  · exact (kept_startChange ..).trans (.onUnwind ..)
  · exact .ite (.refl s) ((LineKept.onUnwind s u _).trans (.raise ..))

theorem kept_unwindReading (s : State) (u : UnwindId) (remaining : Nat) : LineKept s (s.unwindReading u remaining) := by
  have taken := LineKept.onUnwind s u fun x => { x with remaining := some remaining }
  exact .ite (.ite (taken.trans (kept_tryAuto ..)) taken) (.refl s)

theorem kept_unwindResponse (s : State) (u : UnwindId) (fresh : Bool) (rs : RunState) (newCode : Option Nat)
    (remaining : Nat) : LineKept s (s.unwindResponse u fresh rs newCode remaining) := by
  have read (t : State) : LineKept t (if fresh then t.unwindReading u remaining else t) :=
    .ite (kept_unwindReading ..) (.refl t)
  cases newCode with
  | none => exact (kept_unwindStatus s u rs).trans (read _)
  | some code => exact ((kept_unwindStatus s u rs).trans (kept_unwindCode ..)).trans (read _)

theorem kept_tableStatus (s : State) (st : TableStatus) : LineKept s (s.tableStatus st) := by
  unfold State.tableStatus; split
  · exact .refl s
  · split
    · exact (kept_makeSplice ..).trans (kept_enterPhase ..)
    · exact ((LineKept.onUnwind s _ _).trans (.onUnwind ..)).trans (kept_enterPhase ..)
    · exact .refl s

theorem kept_tableResponse (s : State) (st : TableStatus) (code : Nat) : LineKept s (s.tableResponse st code) :=
  .ite ((kept_tableStatus ..).trans (kept_breakChange ..)) (kept_tableStatus ..)

theorem kept_accumulatorNotice (s : State) (c : Condition) : LineKept s (s.accumulatorNotice c) := by
  have told := LineKept.onRcu s fun r =>
    { r with acc := { r.acc with station := c, starved := r.acc.starved || c == .stale || c == .lost } }
  exact .ite (told.trans (kept_breakChange ..)) told

theorem kept_deliverTension (s : State) (tension : Nat) : LineKept s (s.deliverTension tension) := by
  unfold State.deliverTension; split
  · exact .refl s
  · exact .onFca _ _ rfl

theorem kept_fillingTest (s : State) (stock : Nat) : LineKept s (s.fillingTest stock) := by
  unfold State.fillingTest; split
  · exact .ite (kept_enterPhase ..) (.refl s)
  · exact .refl s

theorem kept_accumulatorReading (s : State) (stock tension : Nat) : LineKept s (s.accumulatorReading stock tension) :=
  (((LineKept.onRcu s _).trans (kept_deliverTension ..)).trans (.onRcu ..)).trans (kept_fillingTest ..)

theorem kept_rollsLineReset (s : State) : LineKept s s.rollsLineReset := by
  have braked (t : State) (f : Rcu → Rcu) : LineKept t (t.onRcu f).spendUnwinds := .of_view rfl
  unfold State.rollsLineReset; dsimp only; split
  · exact LineKept.trans (.ite ((kept_endChange s _ _).trans (.raise ..)) (.refl s)) (braked ..)
  · exact braked ..

/-! ## The stations -/

theorem kept_onStation (s : State) (n : Nat) (f : Station → Station) : LineKept s (s.onStation n f) := .onSlm ..

theorem kept_notifyOwner (s : State) (n : Nat) (c : Condition) : LineKept s (s.notifyOwner n c) := by
  unfold State.notifyOwner; split
  · exact .ite (kept_zoneNotice ..) (.refl s)
  · exact kept_unwindNotice ..
  · exact .ite (kept_breakChange ..) (.refl s)
  · exact kept_accumulatorNotice ..
  · exact .refl s

theorem kept_noticeIfChanged (s : State) (n : Nat) (before : Condition) : LineKept s (s.noticeIfChanged n before) :=
  .ite (.refl s) (kept_notifyOwner ..)

theorem kept_deliver (s : State) (n : Nat) (r : Response) (newCode : Option Nat) : LineKept s (s.deliver n r newCode) := by
  unfold State.deliver; dsimp only; split
  · exact .ite (kept_zoneResponse ..) (.refl s)
  · exact kept_unwindResponse ..
  · exact kept_tableResponse ..
  · exact .ite (kept_accumulatorReading ..) (.refl s)
  · exact .refl s

theorem kept_queueRequest (s : State) (n code : Nat) : LineKept s (s.queueRequest n code) :=
  .ite ((LineKept.onSlm s _).trans (.raise ..)) (.onSlm ..)

theorem kept_goodResponse (s : State) (n : Nat) (r : Response) : LineKept s (s.goodResponse n r) := by
  have booked := kept_onStation s n (Station.good r)
  exact ((LineKept.trans (.ite (booked.trans (kept_queueRequest ..)) booked) (kept_noticeIfChanged ..)).trans
    (kept_deliver ..)).trans (kept_onStation ..)

theorem kept_stationMiss (s : State) (n : Nat) (crc : Bool) : LineKept s (s.stationMiss n crc) := by
  have booked := kept_onStation s n (Station.miss s.slm.lossThreshold crc)
  exact LineKept.trans (.ite (booked.trans (.raise ..)) booked) (kept_noticeIfChanged ..)

theorem kept_sendPoll (s : State) : LineKept s s.sendPoll := by
  unfold State.sendPoll; split
  · exact .onSlm ..
  · exact (LineKept.onSlm s _).trans (.onZsv ..)

theorem kept_startCycle (s : State) : LineKept s s.startCycle := (LineKept.onSlm s _).trans (kept_sendPoll _)

theorem kept_scanCompletion (s : State) : LineKept s s.scanCompletion := .onStr s _ rfl rfl (List.length_map ..)

theorem kept_endCycle (s : State) : LineKept s s.endCycle := by
  have completed := (kept_scanCompletion s).trans (.onRcu _ fun r => { r with brakeSpent := false })
  unfold State.endCycle; dsimp only; split
  · exact completed.trans (kept_sendPoll _)
  · exact completed.trans (kept_startCycle _)
  · exact .ite ((completed.trans (.onSlm ..)).trans (kept_sendPoll _)) ((completed.trans (.onSlm ..)).trans (kept_startCycle _))

theorem kept_nextPoll (s : State) : LineKept s s.nextPoll := by
  have judged := LineKept.onSlm s fun m => { m with toPoll := m.toPoll.tail }
  exact .ite (judged.trans (kept_endCycle _)) (judged.trans (kept_sendPoll _))

theorem kept_rethreshold (threshold : Nat) (s : State) (n : Nat) : LineKept s (s.rethreshold threshold n) := by
  have counted := kept_onStation s n (Station.underThreshold threshold)
  exact .ite ((counted.trans (.raise ..)).trans (kept_notifyOwner ..)) counted

theorem kept_changeThreshold (s : State) (threshold : Nat) : LineKept s (s.changeThreshold threshold) :=
  .ite (.refl s) ((LineKept.onSlm s _).trans (.foldl _ (kept_rethreshold threshold) _ _))

theorem kept_setScan (s : State) (mode : ScanMode) (last threshold window : Nat) :
    LineKept s (s.setScan mode last threshold window) := by
  have settled := ((kept_changeThreshold s threshold).trans (.onSlm _ fun m =>
    { m with mode := mode, lastStation := last, window := window })).settle
  exact .ite (settled.trans (kept_startCycle _)) settled

end Sys2Proof.Machine
end

section
/-! SUPPORT. The three invariants through the requests and the events. The Pattern Store's own requests, QUEUE JOB and the resets
are the ones that change what `LineKept` holds fixed. -/

namespace Sys2Proof.Machine

/-- From `s` to `t` the panels stay balanced, the residue in range and the jobs on VALID patterns (R11, R29, R99). -/
structure KeepsSound (s t : State) : Prop where
  panels  : s.panelsBalance → t.panelsBalance
  residue : s.residueBounded → t.residueBounded
  jobs    : s.jobsSound → t.jobsSound

theorem KeepsSound.refl (s : State) : KeepsSound s s := ⟨id, id, id⟩

theorem KeepsSound.trans {s t u : State} (h : KeepsSound s t) (k : KeepsSound t u) : KeepsSound s u :=
  ⟨k.panels ∘ h.panels, k.residue ∘ h.residue, k.jobs ∘ h.jobs⟩

/-- With the pattern store as it was, a queue that names no new pattern is sound where the old one was. -/
theorem LineKept.sound {s t : State} (h : LineKept s t) : KeepsSound s t where
  panels := h.panels
  residue := h.residue
  jobs := fun ⟨loaded, valid⟩ => by
    refine ⟨h.store ▸ loaded, fun j hj => ?_⟩
    obtain ⟨k, hk, named⟩ := h.jobs j hj
    rw [h.store, ← named]
    exact valid k hk

/-! ## The Pattern Store (R5, R12 to R14, R21) -/

theorem KeepsSound.onPst (s : State) (f : Pst → Pst) (jobs : s.jobsSound → (s.onPst f).jobsSound) :
    KeepsSound s (s.onPst f) :=
  ⟨id, id, jobs⟩

theorem entryAt_replicate_getD {α : Type} (m n : Nat) (a : α) : (entryAt (List.replicate m a) n).getD a = a := by
  cases n with
  | zero => rfl
  | succ k => cases found : (List.replicate m a)[k]? with
    | none => simp [entryAt, found]
    | some e => simp [entryAt, found, List.eq_of_mem_replicate (List.mem_of_getElem? found)]

/-- After power-on no pattern is VALID and no job queued. -/
theorem State.jobsSound_of_powerOn {s : State} (store : s.pst = Pst.powerOn) (jobs : s.seq.jobs = []) : s.jobsSound where
  left id valid := by
    rw [store, Pst.pattern, Pst.powerOn, entryAt_replicate_getD] at valid
    cases valid
  right j hj := by simp [jobs] at hj

/-- What a change of one entry reads as, whether the table has the entry or not. -/
theorem entryAt_modifyAt_eq {α : Type} (l : List α) (n m : Nat) (f : α → α) :
    entryAt (modifyAt l n f) m = if m = n then (entryAt l n).map f else entryAt l m := by
  split
  · next h => rw [h, entryAt_modifyAt_same]
  · next h => exact entryAt_modifyAt_other l f h

/-- LOAD PROFILE empties no entry. -/
theorem Pst.isSome_profile_setProfile {p : Pst} (id : Nat) (q : Profile) {n : Nat} (h : (p.profile n).isSome = true) :
    ((p.setProfile id q).profile n).isSome = true := by
  unfold Pst.profile Pst.setProfile at *
  rw [entryAt_modifyAt_eq]
  split
  · next same =>
    rw [same] at h
    cases found : entryAt p.profiles id with
    | none => simp [found] at h
    | some a => simp
  · exact h

/-- A pattern's entry after a change is the new one of that id, or the one that stood. -/
theorem Pst.pattern_setPattern_cases (p : Pst) (id n : Nat) (e : PatternEntry) :
    (n = id ∧ (p.setPattern id e).pattern n = e) ∨ (p.setPattern id e).pattern n = p.pattern n := by
  unfold Pst.pattern Pst.setPattern
  rw [entryAt_modifyAt_eq]
  split
  · next same =>
    rw [same]
    cases entryAt p.patterns id with
    | none => exact .inr rfl
    | some a => exact .inl ⟨rfl, rfl⟩
  · exact .inr rfl

/-- The entry of a pattern that no job names may change, if it is VALID only on a LOADED profile. -/
theorem keepsSound_setPattern {s : State} {id : Nat} (f : Pst → PatternEntry)
    (free : s.jobsSound → ∀ j ∈ s.seq.jobs, j.patternId ≠ id)
    (loaded : (f s.pst).state = .valid → ((f s.pst).profileId.bind s.pst.profile).isSome = true) :
    KeepsSound s (s.onPst fun p => p.setPattern id (f p)) := by
  refine .onPst s _ fun sound => ?_
  have ⟨standing, valid⟩ := sound
  refine ⟨fun n hn => ?_, fun j hj => ?_⟩
  · change ((s.pst.setPattern id (f s.pst)).pattern n).state = .valid at hn
    show (((s.pst.setPattern id (f s.pst)).pattern n).profileId.bind s.pst.profile).isSome = true
    rcases s.pst.pattern_setPattern_cases id n (f s.pst) with ⟨_, new⟩ | old
    · rw [new] at hn ⊢; exact loaded hn
    · rw [old] at hn ⊢; exact standing n hn
  · show ((s.pst.setPattern id (f s.pst)).pattern j.patternId).state = .valid
    rw [Pst.pattern_setPattern_other _ _ (free sound j hj)]
    exact valid j hj

/-- A pattern in LOADING is no queued job's. -/
theorem State.jobsSound.free_of_not_valid {s : State} (h : s.jobsSound) {id : Nat}
    (loading : (s.pst.pattern id).state ≠ .valid) : ∀ j ∈ s.seq.jobs, j.patternId ≠ id :=
  fun j hj named => loading (named ▸ h.2 j hj)

theorem State.not_locked_iff (s : State) (id : Nat) : ¬s.locked id = true ↔ ∀ j ∈ s.seq.jobs, j.patternId ≠ id := by
  simp [State.locked]

/-- No failure, and so none of reason PROFILE: the named profile is LOADED (R14, R19). -/
theorem PatternEntry.loaded_of_closed_valid {p : Pst} {e : PatternEntry} (h : (e.closed p).state = .valid) :
    ((e.closed p).profileId.bind p.profile).isSome = true := by
  unfold PatternEntry.closed at *
  split at h
  · next chosen =>
    by_contra unloaded
    have failed : (0, FailReason.profile) ∈ patternFailures p e := by
      simp [patternFailures, profileFailures, unloaded]
    cases fails : patternFailures p e with
    | nil => simp [fails] at failed
    | cons f rest =>
      rw [fails, chooseFailure] at chosen
      split at chosen <;> cases chosen
  · cases h

theorem KeepsSound.check {s : State} {c : Prop} [Decidable c] {reply : List Byte} {r : State × List Byte}
    (h : ¬c → KeepsSound s r.1) : KeepsSound s (if c then (s, reply) else r).1 := by
  split
  · exact .refl s
  · next passed => exact h passed

/-- LOAD PROFILE leaves every pattern, and every profile that is LOADED stays so. -/
theorem sound_setProfile (s : State) (id : Nat) (q : Profile) : KeepsSound s (s.onPst fun p => p.setProfile id q) := by
  refine .onPst s _ fun ⟨loaded, valid⟩ => ⟨fun n hn => ?_, valid⟩
  have before := loaded n hn
  show ((s.pst.pattern n).profileId.bind (s.pst.setProfile id q).profile).isSome = true
  cases named : (s.pst.pattern n).profileId with
  | none => simp [named] at before
  | some k => rw [named] at before; exact Pst.isSome_profile_setProfile id q before

theorem sound_handleLoadProfile (p : List Byte) (s : State) : KeepsSound s (handleLoadProfile p s).1 :=
  .check fun _ => .check fun _ => .check fun _ => .check fun _ => sound_setProfile s _ _

theorem sound_handleOpenPattern (p : List Byte) (s : State) : KeepsSound s (handleOpenPattern p s).1 :=
  .check fun _ => .check fun _ => .check fun _ => .check fun unlocked =>
    keepsSound_setPattern (fun _ => { PatternEntry.empty with state := .loading, profileId := some (fieldAt p 1 1) })
      (fun _ => (s.not_locked_iff _).mp unlocked) (fun h => by cases h)

theorem sound_handleLoadSteps (p : List Byte) (s : State) : KeepsSound s (handleLoadSteps p s).1 := by
  refine .check fun _ => .check fun _ => .check fun loading => ?_
  have notValid : (s.pst.pattern (fieldAt p 0 1)).state ≠ .valid := by rw [not_not.mp loading]; decide
  split
  · exact .refl s
  · next records _ =>
    exact .check fun _ => keepsSound_setPattern
      (fun _ => { s.pst.pattern (fieldAt p 0 1) with steps := (s.pst.pattern (fieldAt p 0 1)).steps ++ records })
      (fun sound => sound.free_of_not_valid notValid) fun h => absurd h notValid

theorem sound_handleClosePattern (p : List Byte) (s : State) : KeepsSound s (handleClosePattern p s).1 :=
  .check fun _ => .check fun _ => .check fun loading =>
    keepsSound_setPattern (fun store => (s.pst.pattern (fieldAt p 0 1)).closed store)
      (fun sound => sound.free_of_not_valid (by rw [not_not.mp loading]; decide)) PatternEntry.loaded_of_closed_valid

theorem sound_handleDeletePattern (p : List Byte) (s : State) : KeepsSound s (handleDeletePattern p s).1 :=
  .check fun _ => .check fun _ => .check fun unlocked =>
    keepsSound_setPattern (fun _ => PatternEntry.empty) (fun _ => (s.not_locked_iff _).mp unlocked) fun h => by cases h

/-! ## QUEUE JOB (R38) -/

/-- A job on a VALID pattern joins the queue. -/
theorem sound_appendJob (s : State) (j : Job) (valid : (s.pst.pattern j.patternId).state = .valid) :
    KeepsSound s (s.onSeq fun q => { q with jobs := q.jobs ++ [j] }) where
  panels := id
  residue := id
  jobs := fun ⟨loaded, standing⟩ => by
    refine ⟨loaded, fun k hk => ?_⟩
    rcases List.mem_append.mp hk with hk | hk
    · exact standing k hk
    · rw [List.mem_singleton.mp hk]; exact valid

theorem sound_handleQueueJob (p : List Byte) (s : State) : KeepsSound s (handleQueueJob p s).1 := by
  refine .check fun _ => .check fun _ => .check fun _ => .check fun state => ?_
  split
  · exact .refl s
  · refine .check fun _ => .check fun _ => ?_
    have joined (j : Job) (named : j.patternId = fieldAt p 2 1) :=
      sound_appendJob s j (by rw [named]; exact not_not.mp state)
    dsimp only; split
    · exact (joined _ rfl).trans (zonesOnly_switchTest _).kept.sound
    · exact joined _ rfl

/-! ## LINE RESET (R202) and POWER_ON_RESET (R201) -/

/-- The line's own blocks stand at their reset values: no panel, no segment, no job, the opening residue. -/
theorem sound_lineBlocksReset (s : State) :
    KeepsSound s ((((s.onSeq Seq.lineReset).onFca fun _ => Fca.powerOn).onWtr Wtr.lineReset).onStr Str.lineReset) where
  panels _ := rfl
  residue _ := by show (500000000000 : Nat) < 1000000000000; decide
  jobs := fun ⟨loaded, _⟩ => ⟨loaded, fun j hj => by cases hj⟩

theorem sound_handleLineReset (p : List Byte) (s : State) : KeepsSound s (handleLineReset p s).1 :=
  .check fun _ => ((sound_lineBlocksReset s).trans (zonesOnly_zonesLineReset _).kept.sound).trans (kept_rollsLineReset _).sound

end Sys2Proof.Machine
end

section
/-! SUPPORT. Every request's rule and every event, by `LineKept` where the Pattern Store and the queue's patterns stand, and
O59, the step of the three invariants. -/

namespace Sys2Proof.Machine

/-! ## The rules of the requests -/

theorem LineKept.check {s : State} {c : Prop} [Decidable c] {reply : List Byte} {r : State × List Byte}
    (h : LineKept s r.1) : LineKept s (if c then (s, reply) else r).1 := by
  split
  · exact .refl s
  · exact h

theorem LineKept.answer {s t : State} (h : LineKept s t) {reply : List Byte} : LineKept s (t, reply).1 := h

theorem kept_handleIdentify (p : List Byte) (s : State) : LineKept s (handleIdentify p s).1 := .check (.refl s)
theorem kept_handleReadJobs (p : List Byte) (s : State) : LineKept s (handleReadJobs p s).1 := .check (.refl s)
theorem kept_handleReadZones (p : List Byte) (s : State) : LineKept s (handleReadZones p s).1 := .check (.refl s)
theorem kept_handleReadRolls (p : List Byte) (s : State) : LineKept s (handleReadRolls p s).1 := .check (.refl s)
theorem kept_handleReadProfile (p : List Byte) (s : State) : LineKept s (handleReadProfile p s).1 := .check (.check (.refl s))
theorem kept_handleReadSteps (p : List Byte) (s : State) : LineKept s (handleReadSteps p s).1 := .check (.check (.refl s))
theorem kept_handleReadMarks (p : List Byte) (s : State) : LineKept s (handleReadMarks p s).1 := .check (.check (.refl s))
theorem kept_handleReadSegments (p : List Byte) (s : State) : LineKept s (handleReadSegments p s).1 :=
  .check (.check (.refl s))

theorem kept_handleReadStatus (p : List Byte) (s : State) : LineKept s (handleReadStatus p s).1 := by
  refine .check ?_
  split
  · exact .refl s
  · exact .ite ((LineKept.onSeq s _ rfl).trans (.onHlp ..)) (.onSeq _ _ rfl)

theorem kept_handleReadStations (p : List Byte) (s : State) : LineKept s (handleReadStations p s).1 := by
  refine .check ?_
  split
  · exact .refl s
  · exact .ite (.onSlm ..) (.refl s)

theorem kept_handleReadReports (p : List Byte) (s : State) : LineKept s (handleReadReports p s).1 := by
  refine .check ?_
  split
  · exact .refl s
  · exact .ite (.onEvu ..) (.refl s)

theorem kept_storeLine (s : State) (c : LineConfig) : LineKept s (s.storeLine c) :=
  ((LineKept.of_view (s := s) (t := { s with line := some c }) rfl).trans (kept_growOpenMark _)).trans
    (zonesOnly_handOverOccupancy _).kept

theorem kept_handleConfigureLine (p : List Byte) (s : State) : LineKept s (handleConfigureLine p s).1 := by
  refine .check (.check (.check ?_))
  split
  · exact .refl s
  · exact (kept_storeLine s _).trans (.useFree _)

theorem kept_handleConfigureZones (p : List Byte) (s : State) : LineKept s (handleConfigureZones p s).1 :=
  .check (.check (.onZsv ..))

theorem kept_handleConfigureRolls (p : List Byte) (s : State) : LineKept s (handleConfigureRolls p s).1 := by
  refine .check ?_
  split
  · exact .refl s
  · exact .check (.answer (.onRcu ..))

theorem kept_restartSilence (s : State) : LineKept s s.restartSilence := .onHlp ..

theorem kept_handleConfigureLink (p : List Byte) (s : State) : LineKept s (handleConfigureLink p s).1 :=
  .check (.check (.answer ((LineKept.onHlp s _).trans (kept_restartSilence _))))

theorem kept_markHeadCancelled (s : State) : LineKept s s.markHeadCancelled :=
  .onJobs _ _ fun _ => exists_patternId_of_mem_modify_zero (f := fun j => { j with cancelPending := true }) fun _ => rfl

theorem kept_cancelHead (s : State) : LineKept s s.cancelHead := by
  have cancelled := kept_markHeadCancelled s
  refine .ite cancelled ?_
  split
  · exact cancelled
  · exact (cancelled.trans (kept_endStay _)).trans (kept_toArmed _)
  · exact (cancelled.trans (kept_endStay _)).trans (.setMode ..)
  · exact .ite ((kept_removeHead s).trans (kept_toIdle _)) (kept_removeHead s)

theorem kept_handleCancelJob (p : List Byte) (s : State) : LineKept s (handleCancelJob p s).1 := by
  refine .check (.check ?_)
  split
  · exact (kept_cancelHead s).settle
  · exact .answer (.onJobs _ _ fun j hj => ⟨j, List.mem_of_mem_filter hj, rfl⟩)

theorem kept_handleSetPace (p : List Byte) (s : State) : LineKept s (handleSetPace p s).1 := by
  refine .check (.check ?_)
  split
  · exact .refl s
  · exact .check (.answer (.onSeq _ _ rfl))

theorem kept_handleGo (p : List Byte) (s : State) : LineKept s (handleGo p s).1 :=
  .check (.check ((LineKept.onSeq s _ rfl).trans (kept_toArmed _)).settle)

theorem kept_handleHold (p : List Byte) (s : State) : LineKept s (handleHold p s).1 := .check (LineKept.onSeq s _ rfl).settle

theorem kept_leaveFault (s : State) : LineKept s s.leaveFault := .ite (kept_walkOn s) (kept_toArmed s)

theorem kept_handleResume (p : List Byte) (s : State) : LineKept s (handleResume p s).1 := by
  have released : LineKept s s.releaseHolds := .onSeq _ _ rfl
  refine .check (.check ?_)
  split
  · exact (released.trans (kept_leaveFault _)).settle
  · exact released.settle

theorem kept_abortPanel (s : State) : LineKept s s.abortPanel := by
  unfold State.abortPanel; split
  -- a motion in progress, a WAIT, HOLDING, FAULT, IDLE or ARMED
  case h_1 | h_2 | h_3 => exact .onSeq _ _ rfl
  case h_4 | h_5 => exact (kept_endWork s).trans (kept_toArmed _)
  case h_6 => exact (kept_endPanel s false).trans (.setMode ..)
  case h_7 => exact kept_endPanel s false
  case h_8 => exact .refl s

theorem kept_handleAbortPanel (p : List Byte) (s : State) : LineKept s (handleAbortPanel p s).1 :=
  .check (.check (kept_abortPanel s).settle)

theorem kept_stopLine (s : State) : LineKept s s.stopLine := by
  unfold State.stopLine; split
  -- IDLE, a motion in progress, every other state
  case h_1 => exact .refl s
  case h_2 | h_3 | h_4 => exact .onSeq _ _ rfl
  case h_5 => exact (kept_endWork s).trans (kept_toIdle _)

theorem kept_handleStopLine (p : List Byte) (s : State) : LineKept s (handleStopLine p s).1 := .check (kept_stopLine s)

theorem kept_handleReportDefect (p : List Byte) (s : State) : LineKept s (handleReportDefect p s).1 := by
  refine .check (.check (.check (.check ?_)))
  split
  · exact kept_loseMark s
  · exact (kept_enterRegion ..).trans (.useFree _)

theorem kept_handleZoneCommand (p : List Byte) (s : State) : LineKept s (handleZoneCommand p s).1 := by
  refine .check ?_
  split
  · exact .refl s
  · exact .check (.check (zonesOnly_zoneActions _ _ s).kept.settle)

theorem kept_handleDeclareRoll (p : List Byte) (s : State) : LineKept s (handleDeclareRoll p s).1 := by
  refine .check ?_
  split
  · exact .refl s
  · exact .check (.check (.check (.onUnwind ..)))

theorem kept_startUnwind (s : State) (u : UnwindId) : LineKept s (s.startUnwind u) := .of_view rfl

theorem kept_handleStartUnwind (p : List Byte) (s : State) : LineKept s (handleStartUnwind p s).1 := by
  refine .check ?_
  split
  · exact .refl s
  · exact .check (kept_startUnwind ..)

theorem kept_handleChangeRoll (p : List Byte) (s : State) : LineKept s (handleChangeRoll p s).1 := by
  refine .check ?_
  split
  · exact .refl s
  · exact kept_startChange s false

theorem kept_handleAbortChange (p : List Byte) (s : State) : LineKept s (handleAbortChange p s).1 := by
  refine .check ?_
  split
  · exact .refl s
  · split
    · exact (kept_revertChange ..).settle
    · exact .refl s

theorem kept_handleSetScan (p : List Byte) (s : State) : LineKept s (handleSetScan p s).1 := by
  refine .check ?_
  split
  · exact .refl s
  · exact .check (.check (.check (kept_setScan ..)))

theorem kept_handleTakeRequests (p : List Byte) (s : State) : LineKept s (handleTakeRequests p s).1 :=
  .check (.check (.onSlm ..))

theorem kept_handleReleaseReports (p : List Byte) (s : State) : LineKept s (handleReleaseReports p s).1 :=
  .check (.check (.check (.check (.onEvu ..))))

theorem kept_handleTakeEvents (p : List Byte) (s : State) : LineKept s (handleTakeEvents p s).1 :=
  .check (.answer (.onEvu ..))

theorem kept_handleSetNotices (p : List Byte) (s : State) : LineKept s (handleSetNotices p s).1 := .check (.onEvu ..)

/-! ## A request frame -/

theorem kept_pushReply (s : State) (kind : Byte) (tag : BitVec 16) (reply : List Byte) :
    LineKept s (s.pushReply kind tag reply) := by
  unfold State.pushReply; dsimp only; split
  · exact .ite (.onHlp ..) ((LineKept.onHlp s _).trans (.onHlp ..))
  · exact .onHlp ..

/-- A request frame is discarded, refused or judged by its rule: the line stays sound when its rule keeps it so. -/
theorem sound_hostRequest {h : List Byte → State → State × List Byte} (keeps : ∀ p s, KeepsSound s (h p s).1)
    (kind : Byte) (a : Availability) (tag : BitVec 16) (p : List Byte) (s : State) :
    KeepsSound s (hostRequest kind a h tag p s) := by
  have restarted := (kept_restartSilence s).sound
  unfold hostRequest; dsimp only; split
  · exact restarted.trans (LineKept.onHlp ..).sound
  · split
    · exact restarted.trans (kept_pushReply ..).sound
    · exact (restarted.trans (keeps p _)).trans (kept_pushReply ..).sound

/-! ## The events -/

theorem kept_beginNotice (s : State) : LineKept s s.beginNotice := (LineKept.onHlp s _).trans (.onEvu ..)
theorem kept_beginReply (s : State) : LineKept s s.beginReply := .onHlp ..
theorem kept_countCrcError (s : State) : LineKept s s.countCrcError := .onHlp ..
theorem kept_ignoreTrigger (s : State) : LineKept s s.ignoreTrigger := .onSeq _ _ rfl

/-- Whatever next state `o` answers, the line is sound in it where it was in `s`. -/
structure StaysSound (s : State) (o : Host.Outcome State Fault Refusal) : Prop where
  of_next : ∀ t, o = .next t → KeepsSound s t

theorem KeepsSound.stays {s t : State} (h : KeepsSound s t) : StaysSound s (.next t) :=
  ⟨fun _ same => by cases same; exact h⟩

/-- A change the line keeps, and then what `o` answers. -/
theorem LineKept.then_stays {s t : State} {o : Host.Outcome State Fault Refusal} (h : LineKept s t) (k : StaysSound t o) :
    StaysSound s o :=
  ⟨fun u next => h.sound.trans (k.of_next u next)⟩

theorem LineKept.stays {s t : State} (h : LineKept s t) : StaysSound s (.next t) := h.sound.stays

/-- A request whose rule leaves the pattern store and the queue's patterns. -/
theorem LineKept.request {h : List Byte → State → State × List Byte} (keeps : ∀ p s, LineKept s (h p s).1)
    (kind : Byte) (a : Availability) (tag : BitVec 16) (p : List Byte) (s : State) :
    StaysSound s (.next (hostRequest kind a h tag p s)) :=
  (sound_hostRequest (fun p s => (keeps p s).sound) kind a tag p s).stays

theorem staysSound_powerOnReset (a b g d : Bool) (s : State) : StaysSound s (exec (.powerOnReset a b g d) s) := by
  rw [exec_powerOnReset]
  refine KeepsSound.stays ⟨fun _ => rfl, fun _ => ?_, fun _ => State.jobsSound_of_powerOn rfl rfl⟩
  show (500000000000 : Nat) < 1000000000000
  decide

theorem staysSound_replyEnd (s : State) : StaysSound s (execReplyEnd s) := by
  refine LineKept.stays ?_
  split
  · have freed := LineKept.onHlp s fun h => { h with buffer := h.buffer.tail }
    exact .ite (freed.trans (kept_beginNotice _)) (freed.trans (kept_beginReply _))
  · exact .refl s

theorem staysSound_noticeBegin (s : State) : StaysSound s (execNoticeBegin s) := by
  refine LineKept.stays ?_
  split
  · exact .ite (kept_beginNotice s) (.refl s)
  · exact .refl s

theorem staysSound_noticeEnd (s : State) : StaysSound s (execNoticeEnd s) := by
  have begun := kept_beginReply s
  refine LineKept.stays ?_
  split
  · dsimp only; split
    · exact .ite (begun.trans (kept_beginNotice _)) begun
    · exact begun
  · exact .refl s

theorem staysSound_silenceTimeout (s : State) : StaysSound s (execSilenceTimeout s) := by
  refine LineKept.stays ?_
  split
  · exact .refl s
  · next e _ =>
    have restarted := (LineKept.reach s e).trans (kept_restartSilence _)
    exact .ite restarted ((restarted.trans (.raise ..)).trans (.onSeq _ _ rfl)).settle

theorem staysSound_markEdge (edge : Edge) (s : State) : StaysSound s (execMarkEdge edge s) :=
  (LineKept.ite (.ite (kept_startPanel s) ((kept_ignoreTrigger s).trans (.onSeq _ _ rfl))) (.refl s)).stays

theorem staysSound_paceExpiry (s : State) : StaysSound s (execPaceExpiry s) := by
  refine LineKept.stays ?_
  split
  · exact .refl s
  · next e _ =>
    have restarted := (LineKept.reach s e).trans
      (.onSeq _ (fun q => { q with paceTimer := some (e + q.triggers.pacePeriod) }) rfl)
    exact .ite (restarted.trans (kept_startPanel _)) (restarted.trans (kept_ignoreTrigger _))

theorem staysSound_guardOpen (fed moved : Nat) (s : State) : StaysSound s (execGuardOpen fed moved s) := by
  have opened := LineKept.onSeq s (fun q => { q with guardIsOpen := true }) rfl
  exact (LineKept.ite opened ((opened.trans (kept_guardStop _ fed moved)).trans (.useFree _))).stays

/-- The feed's end: an ending that waited for it, the end of the stay of a cancelled job, or the WAIT. -/
theorem staysSound_feedDone (s : State) : StaysSound s (execFeedDone s) := by
  refine LineKept.stays ?_
  split
  · exact .refl s
  · next c _ =>
    have advanced := kept_feedAdvance s c
    refine LineKept.trans (LineKept.settle (.ite ?_ (.ite (.ite ?_ ?_) ?_))) (.useFree _)
    · exact advanced.trans (kept_finishEnding _)
    · exact advanced.trans ((kept_endStay _).trans (kept_toArmed _))
    · exact advanced.trans (.setMode ..)
    · exact advanced.trans (.setMode ..)

theorem staysSound_strokeDone (s : State) : StaysSound s (execStrokeDone s) := by
  refine LineKept.stays ?_
  split
  · next r _ _ =>
    have rested := LineKept.onSeq s (fun q => { q with bladePort := none }) rfl
    refine LineKept.settle (.ite ?_ ?_)
    · exact rested.trans ((kept_lastFoldCheck _ r).trans (kept_finishEnding _))
    · exact rested.trans (kept_foldCheck ..)
  · exact .refl s

theorem staysSound_defectActiveEdge (s : State) : StaysSound s (execDefectActiveEdge s) := by
  have seen := LineKept.onWtr s fun w => { w with defectActive := true, closePending := false }
  exact (LineKept.ite (seen.trans (kept_loseMark _)) (seen.trans (kept_enterRegion ..))).stays

theorem staysSound_defectInactiveEdge (s : State) : StaysSound s (execDefectInactiveEdge s) := by
  have seen := LineKept.onWtr s fun w => { w with defectActive := false }
  exact (LineKept.ite (seen.trans (.onWtr ..))
    (.ite ((seen.trans (kept_closeOpenMark _)).trans (kept_passMarks _)) seen)).stays

/-- An event that does not arise changes nothing; one that arises is followed by what SEQ does. -/
theorem staysSound_thenSettle {s : State} {o : Option State} (h : ∀ t, o = some t → LineKept s t) :
    StaysSound s (.next (s.thenSettle o)) := by
  cases o with
  | none => exact (LineKept.refl s).stays
  | some t => exact (h t rfl).settle.stays

theorem kept_settleExpiry {s t : State} {i : Nat} (h : s.settleExpiry i = some t) : LineKept s t := by
  unfold State.settleExpiry at h; split at h
  · next e _ _ =>
    cases h
    have reached := LineKept.reach s e
    refine .ite (reached.trans ?_) (reached.trans (ZonesOnly.onZone ..).kept)
    exact ((ZonesOnly.onZone ..).kept.trans (.raise ..)).trans (zonesOnly_startThenHandOut _).kept
  · cases h

theorem kept_purgeFallsDue {s t : State} {i : Nat} (h : s.purgeFallsDue i = some t) : LineKept s t := by
  unfold State.purgeFallsDue at h; split at h
  · cases h
  · split at h
    · cases h; exact (LineKept.reach s _).trans (zonesOnly_pendPurge ..).kept
    · cases h

theorem kept_forcePurge {s t : State} {i : Nat} (h : s.forcePurge i = some t) : LineKept s t := by
  have begun (f : Nat) (r : ZoneReturn) : LineKept s (((s.reach f).beginPurge i r).purgeForced i) :=
    ((LineKept.reach s f).trans (zonesOnly_beginPurge ..).kept).trans (kept_purgeForced ..)
  unfold State.forcePurge at h; split at h
  · cases h
  · next f _ =>
    split at h
    · split at h
      -- WARMING, READY or STANDBY; CALIBRATING; no purge to force
      case h_1 | h_2 | h_3 => cases h; exact begun f _
      case h_4 =>
        cases h
        exact ((LineKept.reach s f).trans (((zonesOnly_releaseReference _).trans (zonesOnly_beginPurge ..)).trans
          (zonesOnly_joinQueue _ i)).kept).trans (kept_purgeForced ..)
      case h_5 => cases h
    · cases h

theorem kept_endPurge {s t : State} {i : Nat} (h : s.endPurge i = some t) : LineKept s t := by
  unfold State.endPurge at h; split at h
  · cases h
    exact (LineKept.reach s _).trans
      (((ZonesOnly.onZone ..).trans (zonesOnly_returnZone _ i)).trans (zonesOnly_handOut _)).kept
  · cases h

theorem kept_compareTimeout {s t : State} (h : s.compareTimeout = some t) : LineKept s t := by
  unfold State.compareTimeout at h
  obtain ⟨r, _, rfl⟩ := Option.map_eq_some_iff.mp h
  exact (LineKept.reach s _).trans (zonesOnly_requeueOwner ..).kept

theorem kept_calibrationFallsDue {s t : State} {i : Nat} (h : s.calibrationFallsDue i = some t) : LineKept s t := by
  unfold State.calibrationFallsDue at h
  obtain ⟨d, _, rfl⟩ := Option.map_eq_some_iff.mp h
  have taken := (LineKept.reach s d).trans (ZonesOnly.onZone _ i fun z => { z with calibrationDue := none }).kept
  exact .ite (taken.trans (zonesOnly_queueCalibration _ i).kept) taken

theorem staysSound_phaseDeadline (s : State) : StaysSound s (execPhaseDeadline s) := by
  refine LineKept.stays ?_
  split
  · exact .refl s
  · exact ((LineKept.reach s _).trans (kept_breakChange ..)).settle

theorem staysSound_stationResponse (bytes : List Byte) (s : State) : StaysSound s (execStationResponse bytes s) := by
  refine LineKept.stays ?_
  split
  · exact .refl s
  · refine ((LineKept.settle ?_).trans (kept_nextPoll _)).trans (.useFree _)
    split
    · exact kept_goodResponse ..
    · exact kept_stationMiss ..
    · exact kept_stationMiss ..

theorem staysSound_responseWindowExpiry (s : State) : StaysSound s (execResponseWindowExpiry s) := by
  refine LineKept.stays ?_
  split
  · exact .refl s
  · exact (kept_stationMiss ..).settle.trans (kept_nextPoll _)

/-! ## Every command, and a step -/

theorem staysSound_exec (c : Instr) (s : State) : StaysSound s (exec c s) := by
  cases c with
  | powerOnReset a b g d => exact staysSound_powerOnReset a b g d s
  | lineReset tag p => exact (sound_hostRequest sound_handleLineReset ..).stays
  | identify tag p => exact LineKept.request kept_handleIdentify ..
  | readStatus tag p => exact LineKept.request kept_handleReadStatus ..
  | configureLine tag p => exact LineKept.request kept_handleConfigureLine ..
  | configureZones tag p => exact LineKept.request kept_handleConfigureZones ..
  | configureRolls tag p => exact LineKept.request kept_handleConfigureRolls ..
  | configureLink tag p => exact LineKept.request kept_handleConfigureLink ..
  | loadProfile tag p => exact (sound_hostRequest sound_handleLoadProfile ..).stays
  | readProfile tag p => exact LineKept.request kept_handleReadProfile ..
  | openPattern tag p => exact (sound_hostRequest sound_handleOpenPattern ..).stays
  | loadSteps tag p => exact (sound_hostRequest sound_handleLoadSteps ..).stays
  | closePattern tag p => exact (sound_hostRequest sound_handleClosePattern ..).stays
  | deletePattern tag p => exact (sound_hostRequest sound_handleDeletePattern ..).stays
  | readSteps tag p => exact LineKept.request kept_handleReadSteps ..
  | queueJob tag p => exact (sound_hostRequest sound_handleQueueJob ..).stays
  | cancelJob tag p => exact LineKept.request kept_handleCancelJob ..
  | readJobs tag p => exact LineKept.request kept_handleReadJobs ..
  | setPace tag p => exact LineKept.request kept_handleSetPace ..
  | go tag p => exact LineKept.request kept_handleGo ..
  | hold tag p => exact LineKept.request kept_handleHold ..
  | resume tag p => exact LineKept.request kept_handleResume ..
  | abortPanel tag p => exact LineKept.request kept_handleAbortPanel ..
  | stopLine tag p => exact LineKept.request kept_handleStopLine ..
  | reportDefect tag p => exact LineKept.request kept_handleReportDefect ..
  | readMarks tag p => exact LineKept.request kept_handleReadMarks ..
  | readSegments tag p => exact LineKept.request kept_handleReadSegments ..
  | zoneCommand tag p => exact LineKept.request kept_handleZoneCommand ..
  | readZones tag p => exact LineKept.request kept_handleReadZones ..
  | declareRoll tag p => exact LineKept.request kept_handleDeclareRoll ..
  | startUnwind tag p => exact LineKept.request kept_handleStartUnwind ..
  | changeRoll tag p => exact LineKept.request kept_handleChangeRoll ..
  | abortChange tag p => exact LineKept.request kept_handleAbortChange ..
  | readRolls tag p => exact LineKept.request kept_handleReadRolls ..
  | setScan tag p => exact LineKept.request kept_handleSetScan ..
  | readStations tag p => exact LineKept.request kept_handleReadStations ..
  | takeRequests tag p => exact LineKept.request kept_handleTakeRequests ..
  | readReports tag p => exact LineKept.request kept_handleReadReports ..
  | releaseReports tag p => exact LineKept.request kept_handleReleaseReports ..
  | takeEvents tag p => exact LineKept.request kept_handleTakeEvents ..
  | setNotices tag p => exact LineKept.request kept_handleSetNotices ..
  | unknownKindRequest kind tag p => exact LineKept.request (h := fun _ t => (t, statusOnly .unknown)) (fun _ t => .refl t) ..
  | strayFrame => exact ((kept_restartSilence s).trans (.onHlp ..)).stays
  | linkOverrun => exact (LineKept.ite ((kept_restartSilence s).trans (.onHlp ..)) (.refl s)).stays
  | frameCrcError => exact (kept_countCrcError s).stays
  | frameLengthError => exact (kept_countCrcError s).stays
  | interByteGap => exact (kept_countCrcError s).stays
  | missingStopBit inFrame => exact (LineKept.ite (kept_countCrcError s) (.refl s)).stays
  | replyEnd => exact staysSound_replyEnd s
  | noticeBegin => exact staysSound_noticeBegin s
  | silenceTimeout => exact staysSound_silenceTimeout s
  | markEdge edge => exact staysSound_markEdge edge s
  | paceExpiry => exact staysSound_paceExpiry s
  | foldEdge edge => exact (LineKept.ite (.onSeq _ _ rfl) (.refl s)).stays
  | guardOpen fed moved => exact staysSound_guardOpen fed moved s
  | guardClose => exact (LineKept.onSeq s _ rfl).stays
  | feedDone => exact staysSound_feedDone s
  | strokeDone => exact staysSound_strokeDone s
  | waitEnd => exact (LineKept.ite (LineKept.reach s _).settle (.refl s)).stays
  | wasteWaitEnd => exact (LineKept.ite (LineKept.reach s _).settle (.refl s)).stays
  | defectActiveEdge => exact staysSound_defectActiveEdge s
  | defectInactiveEdge => exact staysSound_defectInactiveEdge s
  | beltDone => exact staysSound_thenSettle fun _ => kept_beltDone
  | cutDone => exact staysSound_thenSettle fun _ => kept_cutDone
  | settleExpiry zone => exact staysSound_thenSettle fun _ => kept_settleExpiry
  | purgeDeadline zone => exact staysSound_thenSettle fun _ => kept_purgeFallsDue
  | forceTime zone => exact staysSound_thenSettle fun _ => kept_forcePurge
  | purgeEndTime zone => exact staysSound_thenSettle fun _ => kept_endPurge
  | compareDeadline => exact staysSound_thenSettle fun _ => kept_compareTimeout
  | calibrationDue zone => exact staysSound_thenSettle fun _ => kept_calibrationFallsDue
  | phaseDeadline => exact staysSound_phaseDeadline s
  | stationResponse bytes => exact staysSound_stationResponse bytes s
  | responseWindowExpiry => exact staysSound_responseWindowExpiry s
  | noticeEnd => exact staysSound_noticeEnd s

/-- With nothing due the clock alone runs; with something due the tick is a command's. -/
theorem staysSound_tick (s : State) : StaysSound s s.tick := by
  unfold State.tick; split
  · exact (LineKept.of_view (s := s) (t := { s with clock := s.clock + 1 }) rfl).stays
  · exact staysSound_exec ..
  · exact (LineKept.useFree s).then_stays (staysSound_exec ..)

theorem staysSound_step (s : State) : StaysSound s (step s) := by
  cases waiting : s.pending with
  | nil => rw [step_of_empty waiting]; exact staysSound_tick s
  | cons c rest =>
    rw [step_of_front waiting]
    exact (LineKept.of_view (s := s) (t := { s with pending := rest }) rfl).then_stays (staysSound_exec ..)

/-- Settles O59: a step is a command's or the clock's, and each keeps the line sound. -/
theorem stepKeepsLineSound : Obligations.StepKeepsLineSound := by
  intro s t next
  obtain ⟨panels, residue, jobs⟩ := (staysSound_step s).of_next t next
  exact ⟨panels, residue, jobs⟩

end Sys2Proof.Machine
end

section
/-! SUPPORT. Fields of a payload (R203), and what a request taken in every state leaves: a refusal, or a change of the pattern
store alone. -/

namespace Sys2Proof.Machine

/-! ## Fields -/

@[simp] theorem length_beBytes (n v : Nat) : (beBytes n v).length = n := by
  induction n with
  | zero => rfl
  | succ n ih => simp [beBytes, ih]

theorem foldl_bytes (bs : List Byte) (n : Nat) :
    bs.foldl (fun n b => n * 256 + b.toNat) n = n * 256 ^ bs.length + ofBytes bs := by
  induction bs generalizing n with
  | nil => simp [ofBytes]
  | cons c bs ih => rw [ofBytes, List.foldl_cons, List.foldl_cons, ih, ih, List.length_cons]; ring

theorem ofBytes_cons (b : Byte) (bs : List Byte) : ofBytes (b :: bs) = b.toNat * 256 ^ bs.length + ofBytes bs := by
  rw [ofBytes, List.foldl_cons, foldl_bytes, Nat.zero_mul, Nat.zero_add]

/-- Bytes spell what is left of the number they were made from. -/
theorem ofBytes_beBytes_mod (n v : Nat) : ofBytes (beBytes n v) = v % 256 ^ n := by
  induction n with
  | zero => simp [beBytes, ofBytes, Nat.mod_one]
  | succ n ih => rw [beBytes, ofBytes_cons, ih, length_beBytes, Nat.mod_pow_succ, BitVec.toNat_ofNat]; ring

theorem ofBytes_beBytes {n v : Nat} (h : v < 256 ^ n) : ofBytes (beBytes n v) = v := by
  rw [ofBytes_beBytes_mod, Nat.mod_eq_of_lt h]

@[simp] theorem ofBytes_singleton (b : Byte) : ofBytes [b] = b.toNat := by simp [ofBytes]

theorem fieldAt_drop (bs : List Byte) (k i n : Nat) : fieldAt (bs.drop k) i n = fieldAt bs (k + i) n := by
  simp [fieldAt, List.drop_drop]

/-! ## Requests taken in every state -/

/-- The rule refuses, or reads: the reply is all there is. -/
theorem hostRequest_always_replies {kind : Byte} {h : List Byte → State → State × List Byte} {tag : BitVec 16}
    {p : List Byte} {s : State} (hr : s.room) {reply : List Byte} (answers : h p s.restartSilence = (s.restartSilence, reply)) :
    hostRequest kind .always h tag p s = s.onlyReplies kind tag reply := by
  rw [hostRequest_always kind h tag p hr, answers]; rfl

/-- The rule changes the pattern store. -/
theorem hostRequest_always_onPst {kind : Byte} {h : List Byte → State → State × List Byte} {tag : BitVec 16}
    {p : List Byte} {s : State} (hr : s.room) {f : Pst → Pst} {reply : List Byte}
    (answers : h p s.restartSilence = (s.restartSilence.onPst f, reply)) :
    hostRequest kind .always h tag p s = ({ s.restartSilence with pst := f s.pst } : State).pushReply kind tag reply := by
  rw [hostRequest_always kind h tag p hr, answers]; rfl

end Sys2Proof.Machine
end

section
/-! SUPPORT. The profiles and the pattern directory (R2 to R14, R20, R21): each rule's answer, check by check, and the
obligations about LOAD PROFILE, READ PROFILE, OPEN PATTERN and DELETE PATTERN. -/

namespace Sys2Proof.Machine

/-! ## The reference causes of a profile (R4) -/

theorem State.allZonesOff_eq_false_iff (s : State) :
    s.allZonesOff = false ↔ ∃ i ∈ s.zoneNumbers, (s.zone i).state ≠ .off := by
  simp [State.allZonesOff]

theorem Unwind.references_iff (u : Unwind) (id : Nat) :
    u.references id = true ↔ (u.state = .ready ∨ u.state = .active) ∧ u.profileId = some id := by
  simp [Unwind.references]

theorem State.references_any_iff (s : State) (id : Nat) :
    (s.references id).any = true ↔ (s.pst.profile id).isSome ∧
      ((∃ j ∈ s.seq.jobs, (s.pst.pattern j.patternId).profileId = some id)
        ∨ (s.zsv.profile = some id ∧ ∃ i ∈ s.zoneNumbers, (s.zone i).state ≠ .off)
        ∨ (∃ u, ((s.rcu.unwind u).state = .ready ∨ (s.rcu.unwind u).state = .active)
            ∧ (s.rcu.unwind u).profileId = some id)
        ∨ (∃ m ∈ s.wtr.marks, m.kind = .splice id) ∨ s.wtr.headFabric = some id
        ∨ ∃ g ∈ s.str.segments, g.profileId = id) := by
  have unwinds : (∃ u, ((s.rcu.unwind u).state = .ready ∨ (s.rcu.unwind u).state = .active)
      ∧ (s.rcu.unwind u).profileId = some id)
      ↔ s.rcu.unwindA.references id = true ∨ s.rcu.unwindB.references id = true := by
    rw [Unwind.references_iff, Unwind.references_iff]
    exact ⟨fun ⟨u, h⟩ => by cases u with
      | a => exact .inl h
      | b => exact .inr h, fun h => h.elim (⟨.a, ·⟩) (⟨.b, ·⟩)⟩
  rw [unwinds, ← State.allZonesOff_eq_false_iff]
  cases loaded : (s.pst.profile id).isSome with
  | false => simp [References.any, State.references, loaded]
  | true => simp [References.any, State.references, loaded, or_assoc]

/-- An EMPTY entry has no reference cause. -/
theorem State.references_toByte_of_empty {s : State} {id : Nat} (h : s.pst.profile id = none) :
    (s.references id).toByte = 0#8 := by
  simp [State.references, References.toByte, memberSet, h]

/-! ## LOAD PROFILE (R5) and READ PROFILE (R7) -/

theorem handleLoadProfile_length {p : List Byte} (s : State) (h : p.length ≠ 23) :
    handleLoadProfile p s = (s, [0x08#8]) := by
  simp [handleLoadProfile, h, statusOnly, Status.code]

theorem handleLoadProfile_range {p : List Byte} (s : State) (h : p.length = 23)
    (bad : validProfileId (fieldAt p 0 1) = false ∨ (Profile.ofBytes (p.drop 1)).inRange = false) :
    handleLoadProfile p s = (s, [0x03#8]) := by
  rcases bad with bad | bad <;> simp [handleLoadProfile, h, bad, statusOnly, Status.code, -List.drop_one]

theorem handleLoadProfile_inUse {p : List Byte} {s : State} (h : p.length = 23) (id : validProfileId (fieldAt p 0 1) = true)
    (ok : (Profile.ofBytes (p.drop 1)).inRange = true) (used : (s.references (fieldAt p 0 1)).any = true) :
    handleLoadProfile p s = (s, [0x04#8]) := by
  simp [handleLoadProfile, h, id, ok, used, statusOnly, Status.code, -List.drop_one]

theorem handleLoadProfile_ok {p : List Byte} {s : State} (h : p.length = 23) (id : validProfileId (fieldAt p 0 1) = true)
    (ok : (Profile.ofBytes (p.drop 1)).inRange = true) (free : ¬(s.references (fieldAt p 0 1)).any = true) :
    handleLoadProfile p s
      = (s.onPst fun store => store.setProfile (fieldAt p 0 1) (Profile.ofBytes (p.drop 1)), [0x00#8]) := by
  simp [handleLoadProfile, h, id, ok, free, statusOnly, Status.code, -List.drop_one]

theorem handleReadProfile_length {p : List Byte} (s : State) (h : p.length ≠ 1) :
    handleReadProfile p s = (s, [0x08#8]) := by
  simp [handleReadProfile, h, statusOnly, Status.code]

theorem handleReadProfile_range {p : List Byte} (s : State) (h : p.length = 1) (bad : validProfileId (fieldAt p 0 1) = false) :
    handleReadProfile p s = (s, [0x03#8]) := by
  simp [handleReadProfile, h, bad, statusOnly, Status.code]

theorem handleReadProfile_ok {p : List Byte} (s : State) (h : p.length = 1) (id : validProfileId (fieldAt p 0 1) = true) :
    handleReadProfile p s = (s, 0x00#8 :: profileBody s (fieldAt p 0 1)) := by
  simp [handleReadProfile, h, id, Status.code]

theorem validProfileId_iff (n : Nat) : validProfileId n = true ↔ 1 ≤ n ∧ n ≤ 16 := by simp [validProfileId]
theorem validPatternId_iff (n : Nat) : validPatternId n = true ↔ 1 ≤ n ∧ n ≤ 32 := by simp [validPatternId]

theorem validProfileId_eq_false_iff (n : Nat) : validProfileId n = false ↔ ¬(1 ≤ n ∧ n ≤ 16) := by
  rw [← validProfileId_iff, Bool.not_eq_true]

theorem validPatternId_eq_false_iff (n : Nat) : validPatternId n = false ↔ ¬(1 ≤ n ∧ n ≤ 32) := by
  rw [← validPatternId_iff, Bool.not_eq_true]

/-- The record behind the profile id. -/
theorem Profile.ofBytes_drop_one (p : List Byte) : Profile.ofBytes (p.drop 1) =
    { setTemp := fieldAt p 1 2, bandHalf := fieldAt p 3 2, standbyDrop := fieldAt p 5 2, shrink := fieldAt p 7 4
      refTension := fieldAt p 11 2, elasticity := fieldAt p 13 1, minDwell := fieldAt p 15 4
      maxDwell := fieldAt p 19 4 } := by
  simp only [Profile.ofBytes, fieldAt_drop]

/-- LOAD PROFILE, by its checks in the order of R5. -/
theorem exec_loadProfile (tag : BitVec 16) (p : List Byte) {s : State} (room : s.room) (sized : s.pst.profiles.length = 16) :
    (p.length ≠ 23 → exec (.loadProfile tag p) s = .next (s.onlyReplies 0x10#8 tag [0x08#8]))
    ∧ (p.length = 23 →
      (¬(1 ≤ fieldAt p 0 1 ∧ fieldAt p 0 1 ≤ 16) ∨ (Profile.ofBytes (p.drop 1)).inRange = false →
        exec (.loadProfile tag p) s = .next (s.onlyReplies 0x10#8 tag [0x03#8]))
      ∧ (1 ≤ fieldAt p 0 1 → fieldAt p 0 1 ≤ 16 → (Profile.ofBytes (p.drop 1)).inRange = true →
        ((s.references (fieldAt p 0 1)).any = true →
          exec (.loadProfile tag p) s = .next (s.onlyReplies 0x10#8 tag [0x04#8]))
        ∧ (¬(s.references (fieldAt p 0 1)).any = true → ∃ q : Pst,
          exec (.loadProfile tag p) s
            = .next (({ s.restartSilence with pst := q } : State).pushReply 0x10#8 tag [0x00#8])
          ∧ q.patterns = s.pst.patterns ∧ q.profile (fieldAt p 0 1) = some (Profile.ofBytes (p.drop 1))
          ∧ ∀ n, n ≠ fieldAt p 0 1 → q.profile n = s.pst.profile n))) := by
  refine ⟨fun h => ?_, fun h => ⟨fun bad => ?_, fun low high ok => ⟨fun used => ?_, fun free => ?_⟩⟩⟩
  · exact congrArg _ (hostRequest_always_replies room (handleLoadProfile_length _ h))
  · rw [← validProfileId_eq_false_iff] at bad
    exact congrArg _ (hostRequest_always_replies room (handleLoadProfile_range _ h bad))
  · exact congrArg _ (hostRequest_always_replies room
      (handleLoadProfile_inUse h ((validProfileId_iff _).mpr ⟨low, high⟩) ok used))
  · exact ⟨_, congrArg _ (hostRequest_always_onPst room
        (handleLoadProfile_ok h ((validProfileId_iff _).mpr ⟨low, high⟩) ok free)),
      rfl, Pst.profile_setProfile_same _ _ low (sized ▸ high), fun n other => Pst.profile_setProfile_other _ _ other⟩

/-- READ PROFILE, by its checks. -/
theorem exec_readProfile (tag : BitVec 16) (p : List Byte) {s : State} (room : s.room) :
    (p.length ≠ 1 → exec (.readProfile tag p) s = .next (s.onlyReplies 0x11#8 tag [0x08#8]))
    ∧ (p.length = 1 →
      (¬(1 ≤ fieldAt p 0 1 ∧ fieldAt p 0 1 ≤ 16) →
        exec (.readProfile tag p) s = .next (s.onlyReplies 0x11#8 tag [0x03#8]))
      ∧ (1 ≤ fieldAt p 0 1 → fieldAt p 0 1 ≤ 16 →
        exec (.readProfile tag p) s = .next (s.onlyReplies 0x11#8 tag (0x00#8 :: profileBody s (fieldAt p 0 1))))) := by
  refine ⟨fun h => ?_, fun h => ⟨fun bad => ?_, fun low high => ?_⟩⟩
  · exact congrArg _ (hostRequest_always_replies room (handleReadProfile_length _ h))
  · exact congrArg _ (hostRequest_always_replies room (handleReadProfile_range _ h ((validProfileId_eq_false_iff _).mpr bad)))
  · exact congrArg _ (hostRequest_always_replies room (handleReadProfile_ok _ h ((validProfileId_iff _).mpr ⟨low, high⟩)))

theorem profileBody_loaded {s : State} {id : Nat} {q : Profile} (h : s.pst.profile id = some q) :
    profileBody s id = 2#8 :: q.toBytes ++ [(s.references id).toByte] := by
  simp [profileBody, h]

theorem profileBody_empty {s : State} {id : Nat} (h : s.pst.profile id = none) :
    profileBody s id = 1#8 :: absentProfileBytes ++ [0#8] := by
  simp [profileBody, h, State.references_toByte_of_empty h]

/-- Settles O13: the checks of LOAD PROFILE in order by `exec_loadProfile`, the reply of READ PROFILE by the entry it finds. -/
theorem profileLoadsAndReads : Obligations.ProfileLoadsAndReads := by
  refine ⟨fun tag p s room sized => ?_, fun tag p s room => ?_⟩
  · intro id q ok used
    have record : Profile.ofBytes (p.drop 1) = q := Profile.ofBytes_drop_one p
    have inRange : (Profile.ofBytes (p.drop 1)).inRange = true ↔ ok := by rw [record]; simp [Profile.inRange, ok]
    have references : (s.references id).any = true ↔ used := s.references_any_iff id
    obtain ⟨length, loads⟩ := exec_loadProfile tag p room sized
    refine ⟨length, fun h => ?_⟩
    obtain ⟨range, fits⟩ := loads h
    refine ⟨fun bad => range (bad.imp_right fun bad => by rwa [← Bool.not_eq_true, inRange]),
      fun low high good inUse => (fits low high (inRange.mpr good)).1 (references.mpr inUse), fun low high good free => ?_⟩
    rw [← record]
    exact (fits low high (inRange.mpr good)).2 (mt references.mp free)
  · intro id
    obtain ⟨length, reads⟩ := exec_readProfile tag p room
    refine ⟨length, fun h => ⟨(reads h).1, fun low high => ⟨fun q loaded => ?_, fun empty => ?_⟩⟩⟩
    · rw [(reads h).2 low high, profileBody_loaded loaded]
      simp [Profile.toBytes]
    · rw [(reads h).2 low high, profileBody_empty empty]
      simp [absentProfileBytes, absentBytes]

/-! ## OPEN PATTERN (R12) and DELETE PATTERN (R21) -/

theorem State.locked_iff (s : State) (id : Nat) : s.locked id = true ↔ ∃ j ∈ s.seq.jobs, j.patternId = id := by
  simp [State.locked]

theorem handleOpenPattern_length {p : List Byte} (s : State) (h : p.length ≠ 2) :
    handleOpenPattern p s = (s, [0x08#8]) := by
  simp [handleOpenPattern, h, statusOnly, Status.code]

theorem handleOpenPattern_range {p : List Byte} (s : State) (h : p.length = 2)
    (bad : validPatternId (fieldAt p 0 1) = false ∨ validProfileId (fieldAt p 1 1) = false) :
    handleOpenPattern p s = (s, [0x03#8]) := by
  rcases bad with bad | bad <;> simp [handleOpenPattern, h, bad, statusOnly, Status.code]

theorem handleOpenPattern_inUse {p : List Byte} {s : State} (h : p.length = 2) (id : validPatternId (fieldAt p 0 1) = true)
    (prof : validProfileId (fieldAt p 1 1) = true) (locked : s.locked (fieldAt p 0 1) = true) :
    handleOpenPattern p s = (s, [0x04#8]) := by
  simp [handleOpenPattern, h, id, prof, locked, statusOnly, Status.code]

theorem handleOpenPattern_ok {p : List Byte} {s : State} (h : p.length = 2) (id : validPatternId (fieldAt p 0 1) = true)
    (prof : validProfileId (fieldAt p 1 1) = true) (free : ¬s.locked (fieldAt p 0 1) = true) :
    handleOpenPattern p s = (s.onPst fun store => store.setPattern (fieldAt p 0 1)
      { state := .loading, profileId := some (fieldAt p 1 1), steps := [], stepCount := 0, failure := none }, [0x00#8]) := by
  simp [handleOpenPattern, h, id, prof, free, statusOnly, Status.code, PatternEntry.empty]

theorem handleDeletePattern_length {p : List Byte} (s : State) (h : p.length ≠ 1) :
    handleDeletePattern p s = (s, [0x08#8]) := by
  simp [handleDeletePattern, h, statusOnly, Status.code]

theorem handleDeletePattern_range {p : List Byte} (s : State) (h : p.length = 1)
    (bad : validPatternId (fieldAt p 0 1) = false) : handleDeletePattern p s = (s, [0x03#8]) := by
  simp [handleDeletePattern, h, bad, statusOnly, Status.code]

theorem handleDeletePattern_inUse {p : List Byte} {s : State} (h : p.length = 1)
    (id : validPatternId (fieldAt p 0 1) = true) (locked : s.locked (fieldAt p 0 1) = true) :
    handleDeletePattern p s = (s, [0x04#8]) := by
  simp [handleDeletePattern, h, id, locked, statusOnly, Status.code]

theorem handleDeletePattern_ok {p : List Byte} {s : State} (h : p.length = 1)
    (id : validPatternId (fieldAt p 0 1) = true) (free : ¬s.locked (fieldAt p 0 1) = true) :
    handleDeletePattern p s = (s.onPst fun store => store.setPattern (fieldAt p 0 1) PatternEntry.empty, [0x00#8]) := by
  simp [handleDeletePattern, h, id, free, statusOnly, Status.code]

/-- A request that replaces one pattern's entry: the other patterns and the profiles stand. -/
theorem exists_pst_of_setPattern {s : State} (sized : s.pst.patterns.length = 32) {id : Nat} (low : 1 ≤ id) (high : id ≤ 32)
    {o : Host.Outcome State Fault Refusal} {kind : Byte} {tag : BitVec 16} {reply : List Byte} (e : PatternEntry)
    (answers : o = .next (({ s.restartSilence with pst := s.pst.setPattern id e } : State).pushReply kind tag reply)) :
    ∃ p : Pst, o = .next (({ s.restartSilence with pst := p } : State).pushReply kind tag reply)
      ∧ p.profiles = s.pst.profiles ∧ p.pattern id = e ∧ ∀ n, n ≠ id → p.pattern n = s.pst.pattern n :=
  ⟨_, answers, rfl, Pst.pattern_setPattern_same _ _ low (sized ▸ high), fun _ other => Pst.pattern_setPattern_other _ _ other⟩

/-- Settles O14, check by check for both requests. -/
theorem patternOpensOrEmpties : Obligations.PatternOpensOrEmpties := by
  refine ⟨fun tag p s room sized => ?_, fun tag p s room sized => ?_⟩
  · refine ⟨fun h => congrArg _ (hostRequest_always_replies room (handleOpenPattern_length _ h)), fun h => ⟨fun bad => ?_,
      fun low high low' high' => ⟨fun locked => ?_, fun free => ?_⟩⟩⟩
    · rw [← validPatternId_eq_false_iff, ← validProfileId_eq_false_iff] at bad
      exact congrArg _ (hostRequest_always_replies room (handleOpenPattern_range _ h bad))
    · exact congrArg _ (hostRequest_always_replies room (handleOpenPattern_inUse h ((validPatternId_iff _).mpr ⟨low, high⟩)
        ((validProfileId_iff _).mpr ⟨low', high'⟩) ((s.locked_iff _).mpr locked)))
    · exact exists_pst_of_setPattern sized low high _ (congrArg _ (hostRequest_always_onPst room
        (handleOpenPattern_ok h ((validPatternId_iff _).mpr ⟨low, high⟩) ((validProfileId_iff _).mpr ⟨low', high'⟩)
          ((s.not_locked_iff _).mpr free))))
  · refine ⟨fun h => congrArg _ (hostRequest_always_replies room (handleDeletePattern_length _ h)), fun h => ⟨fun bad => ?_,
      fun low high => ⟨fun locked => ?_, fun free => ?_⟩⟩⟩
    · exact congrArg _ (hostRequest_always_replies room
        (handleDeletePattern_range _ h ((validPatternId_eq_false_iff _).mpr bad)))
    · exact congrArg _ (hostRequest_always_replies room
        (handleDeletePattern_inUse h ((validPatternId_iff _).mpr ⟨low, high⟩) ((s.locked_iff _).mpr locked)))
    · exact exists_pst_of_setPattern sized low high _ (congrArg _ (hostRequest_always_onPst room
        (handleDeletePattern_ok h ((validPatternId_iff _).mpr ⟨low, high⟩) ((s.not_locked_iff _).mpr free))))

end Sys2Proof.Machine
end

section
/-! SUPPORT. The step records (R10, R206), LOAD STEPS (R13) and CLOSE PATTERN (R14, R20), and the obligations about them. -/

namespace Sys2Proof.Machine

/-! ## Codes -/

@[simp] theorem StepKind.ofCode_code (k : StepKind) : StepKind.ofCode k.code = some k := by cases k <;> rfl
@[simp] theorem Confirm.ofCode_code (c : Confirm) : Confirm.ofCode c.code = some c := by cases c <;> rfl

theorem StepKind.code_of_ofCode {b : Byte} {k : StepKind} (h : StepKind.ofCode b = some k) : k.code = b := by
  unfold StepKind.ofCode at h
  split_ifs at h <;> (cases h; symm; assumption)

theorem Confirm.code_of_ofCode {b : Byte} {c : Confirm} (h : Confirm.ofCode b = some c) : c.code = b := by
  unfold Confirm.ofCode at h
  split_ifs at h <;> (cases h; symm; assumption)

theorem StepKind.ofCode_isSome_iff (b : Byte) : (StepKind.ofCode b).isSome = true ↔ 1 ≤ b.toNat ∧ b.toNat ≤ 6 := by
  unfold StepKind.ofCode
  split_ifs with h1 h2 h3 h4 h5 h6
  case neg => simp only [Option.isSome_none, Bool.false_eq_true, false_iff]; bv_omega
  all_goals subst b; decide

theorem Confirm.ofCode_isSome_iff (b : Byte) : (Confirm.ofCode b).isSome = true ↔ 1 ≤ b.toNat ∧ b.toNat ≤ 4 := by
  unfold Confirm.ofCode
  split_ifs with h1 h2 h3 h4
  case neg => simp only [Option.isSome_none, Bool.false_eq_true, false_iff]; bv_omega
  all_goals subst b; decide

/-! ## One record -/

/-- A record is read exactly where its kind and its confirm mode are of their lists. -/
theorem StepRecord.ofBytes_eq_some_iff (bs : List Byte) (r : StepRecord) :
    StepRecord.ofBytes bs = some r ↔ ∃ k c, StepKind.ofCode (byteAt bs 0) = some k ∧ Confirm.ofCode (byteAt bs 2) = some c
      ∧ r = { kind := k, graded := (byteAt bs 1).getLsbD 0, confirm := c
              face := if k.forming then some (fieldAt bs 4 4) else none
              depth := if k.forming then some (fieldAt bs 8 4) else none
              loopTarget := if k = .loopBack then some (fieldAt bs 12 1) else none
              loopCount := if k = .loopBack then some (fieldAt bs 13 1) else none } := by
  unfold StepRecord.ofBytes
  cases StepKind.ofCode (byteAt bs 0) with
  | none => simp
  | some k =>
    cases Confirm.ofCode (byteAt bs 2) with
    | none => simp
    | some c =>
      refine ⟨fun h => ⟨k, c, rfl, rfl, (Option.some.inj h).symm⟩, ?_⟩
      rintro ⟨k', c', hk, hc, rfl⟩
      cases hk; cases hc; rfl

theorem StepRecord.ofBytes_isSome_iff (bs : List Byte) : (StepRecord.ofBytes bs).isSome = true ↔
    1 ≤ (byteAt bs 0).toNat ∧ (byteAt bs 0).toNat ≤ 6 ∧ 1 ≤ (byteAt bs 2).toNat ∧ (byteAt bs 2).toNat ≤ 4 := by
  rw [← and_assoc, ← StepKind.ofCode_isSome_iff, ← Confirm.ofCode_isSome_iff]
  unfold StepRecord.ofBytes
  cases StepKind.ofCode (byteAt bs 0) with
  | none => simp
  | some k => cases Confirm.ofCode (byteAt bs 2) <;> simp

/-- A one-byte field is the byte at its place. -/
theorem fieldAt_one {bs : List Byte} {k : Nat} (h : k < bs.length) : fieldAt bs k 1 = (bs.getD k 0#8).toNat := by
  rw [fieldAt, List.drop_eq_getElem_cons h, List.take_succ_cons, List.take_zero, ofBytes_singleton,
    List.getD_eq_getElem _ _ h]

@[simp] theorem length_beOpt (n : Nat) (v : Option Nat) : (beOpt n v).length = n := by
  cases v <;> simp [beOpt, absentBytes]

/-- Face and depth as READ STEPS sends them, behind the four bytes of kind, graded and confirm mode. -/
theorem fieldAt_stepRecord_toBytes (r : StepRecord) :
    fieldAt r.toBytes 4 4 = ofBytes (beOpt 4 r.face) ∧ fieldAt r.toBytes 8 4 = ofBytes (beOpt 4 r.depth)
      ∧ fieldAt r.toBytes 12 1 = ofBytes (beOpt 1 r.loopTarget) ∧ fieldAt r.toBytes 13 1 = ofBytes (beOpt 1 r.loopCount) := by
  simp [fieldAt, StepRecord.toBytes, List.drop_append, List.drop_eq_nil_of_le]

theorem byteAt_stepRecord_toBytes (r : StepRecord) : byteAt r.toBytes 0 = r.kind.code
    ∧ (byteAt r.toBytes 1).getLsbD 0 = r.graded ∧ byteAt r.toBytes 2 = r.confirm.code := by
  refine ⟨rfl, ?_, rfl⟩
  show (yesNo r.graded).getLsbD 0 = r.graded
  cases r.graded <;> rfl

theorem ofBytes_beOpt_some {n v : Nat} (h : v < 256 ^ n) : ofBytes (beOpt n (some v)) = v := ofBytes_beBytes h

theorem StepKind.forming_iff (k : StepKind) : k.forming = true ↔ k ≠ .loopBack ∧ k ≠ .panelEnd := by
  cases k <;> simp [StepKind.forming]

/-- Settles O16: what is read by `ofBytes_eq_some_iff`, and field by field what the sixteen bytes sent for a record spell. -/
theorem stepRecordStored : Obligations.StepRecordStored := by
  refine ⟨fun bs sixteen r read => ?_, fun r absent unlooped looped formed => ?_⟩
  · obtain ⟨k, c, hk, hc, rfl⟩ := (StepRecord.ofBytes_eq_some_iff bs r).mp read
    refine ⟨StepKind.code_of_ofCode hk, Confirm.code_of_ofCode hc, rfl, fun other => ?_, fun loop => ?_, fun unformed => ?_,
      fun other other' => ?_⟩
    · simp [show k ≠ .loopBack from other]
    · have target := fieldAt_one (bs := bs) (k := 12) (by omega)
      have count := fieldAt_one (bs := bs) (k := 13) (by omega)
      simp [show k = .loopBack from loop, target, count]
    · have : k.forming = false := by
        rcases (show k = .loopBack ∨ k = .panelEnd from unformed) with rfl | rfl <;> rfl
      simp [this]
    · simp [(StepKind.forming_iff k).mpr ⟨other, other'⟩]
  · obtain ⟨face, depth, target, count⟩ := fieldAt_stepRecord_toBytes r
    obtain ⟨kind, graded, confirm⟩ := byteAt_stepRecord_toBytes r
    refine (StepRecord.ofBytes_eq_some_iff _ _).mpr ⟨r.kind, r.confirm, by rw [kind]; simp, by rw [confirm]; simp, ?_⟩
    rw [face, depth, target, count, graded]
    obtain ⟨k, g, c, f, d, t, n⟩ := r
    by_cases loop : k = .loopBack
    · obtain ⟨t', n', rfl, rfl, ht, hn⟩ := looped loop
      obtain ⟨rfl, rfl⟩ := absent (.inl loop)
      simp [loop, StepKind.forming, ofBytes_beOpt_some (n := 1) (v := t') (by omega),
        ofBytes_beOpt_some (n := 1) (v := n') (by omega)]
    · obtain ⟨rfl, rfl⟩ := unlooped loop
      by_cases fin : k = .panelEnd
      · obtain ⟨rfl, rfl⟩ := absent (.inr fin)
        simp [fin, StepKind.forming]
      · obtain ⟨f', d', rfl, rfl, hf, hd⟩ := formed loop fin
        simp [loop, (StepKind.forming_iff k).mpr ⟨loop, fin⟩, ofBytes_beOpt_some (n := 4) (v := f') (by omega),
          ofBytes_beOpt_some (n := 4) (v := d') (by omega)]

/-! ## LOAD STEPS (R13) -/

/-- The `k`-th of the records that stand one behind another. -/
def recordAt (bs : List Byte) (k : Nat) : List Byte := (bs.drop (16 * k)).take 16

theorem recordAt_zero (bs : List Byte) : recordAt bs 0 = bs.take 16 := rfl

theorem recordAt_drop (bs : List Byte) (k : Nat) : recordAt (bs.drop 16) k = recordAt bs (k + 1) := by
  simp only [recordAt, List.drop_drop]; congr 2; omega

/-- Records are cut in order, or one of them names no kind or no confirm mode. -/
theorem stepRecordsOf_cases (n : Nat) (bs : List Byte) :
    (∃ rs, stepRecordsOf n bs = some rs ∧ rs.length = n ∧ ∀ k < n, rs[k]? = StepRecord.ofBytes (recordAt bs k))
      ∨ (stepRecordsOf n bs = none ∧ ∃ k < n, StepRecord.ofBytes (recordAt bs k) = none) := by
  induction n generalizing bs with
  | zero => exact .inl ⟨[], rfl, rfl, fun k hk => absurd hk (Nat.not_lt_zero k)⟩
  | succ n ih =>
    rw [stepRecordsOf, ← recordAt_zero]
    cases first : StepRecord.ofBytes (recordAt bs 0) with
    | none => exact .inr ⟨rfl, 0, Nat.succ_pos n, first⟩
    | some r =>
      rcases ih (bs.drop 16) with ⟨rs, cut, length, each⟩ | ⟨cut, k, hk, fails⟩
      · refine .inl ⟨r :: rs, by rw [cut], by rw [List.length_cons, length], fun k hk => ?_⟩
        cases k with
        | zero => rw [first]; rfl
        | succ k => rw [← recordAt_drop]; exact each k (by omega)
      · exact .inr ⟨by rw [cut], k + 1, by omega, by rw [← recordAt_drop]; exact fails⟩

theorem recordCount_of_length {p : List Byte} {n : Nat} (h : p.length = 1 + 16 * n) : recordCount p = n := by
  unfold recordCount; omega

theorem handleLoadSteps_length {p : List Byte} (s : State) (h : ∀ n, 1 ≤ n → n ≤ 16 → p.length ≠ 1 + 16 * n) :
    handleLoadSteps p s = (s, [0x08#8]) := by
  have wrong : p.length ≠ 1 + 16 * recordCount p ∨ recordCount p < 1 ∨ 16 < recordCount p := by
    by_contra right
    push Not at right
    exact h _ right.2.1 right.2.2 right.1
  unfold handleLoadSteps; exact if_pos wrong

/-- Past the length check. -/
theorem handleLoadSteps_of_length {p : List Byte} (s : State) {n : Nat} (h : p.length = 1 + 16 * n) (low : 1 ≤ n)
    (high : n ≤ 16) : handleLoadSteps p s =
      if !validPatternId (fieldAt p 0 1) then (s, [0x03#8])
      else if (s.pst.pattern (fieldAt p 0 1)).state ≠ .loading then (s, [0x02#8])
      else
        match stepRecordsOf n (p.drop 1) with
        | none => (s, [0x03#8])
        | some rs =>
          if 128 < (s.pst.pattern (fieldAt p 0 1)).steps.length + n then (s, [0x05#8])
          else
            (s.onPst fun store => store.setPattern (fieldAt p 0 1)
              { s.pst.pattern (fieldAt p 0 1) with steps := (s.pst.pattern (fieldAt p 0 1)).steps ++ rs },
             0x00#8 :: beBytes 1 ((s.pst.pattern (fieldAt p 0 1)).steps.length + n)) := by
  have right : ¬(p.length ≠ 1 + 16 * n ∨ n < 1 ∨ 16 < n) := by omega
  unfold handleLoadSteps; dsimp only
  rw [recordCount_of_length h, if_neg right]
  rfl

theorem recordAt_drop_one (p : List Byte) (k : Nat) : recordAt (p.drop 1) k = (p.drop (1 + 16 * k)).take 16 := by
  rw [recordAt, List.drop_drop]

/-- Settles O15: the checks in the order of R13, and the records cut by `stepRecordsOf_cases`. -/
theorem stepsAppend : Obligations.StepsAppend := by
  intro tag p s room sized id e
  refine ⟨fun h => congrArg _ (hostRequest_always_replies room (handleLoadSteps_length _ h)), ?_⟩
  intro n low high length record known
  have known_iff : known ↔ ∀ k < n, (StepRecord.ofBytes (record k)).isSome = true :=
    forall₂_congr fun k _ => (StepRecord.ofBytes_isSome_iff (record k)).symm
  have rule := handleLoadSteps_of_length s.restartSilence length low high
  refine ⟨fun bad => ?_, fun idLow idHigh => ?_⟩
  · refine congrArg _ (hostRequest_always_replies room (rule.trans ?_))
    rw [(validPatternId_eq_false_iff _).mpr bad]; rfl
  · rw [(validPatternId_iff _).mpr ⟨idLow, idHigh⟩] at rule
    refine ⟨fun other => ?_, fun loading unknown => ?_, fun loading all tooMany => ?_, fun loading all fits => ?_⟩
    · refine congrArg _ (hostRequest_always_replies room (rule.trans ?_))
      exact if_pos other
    all_goals
      replace rule := rule.trans (if_neg (not_not.mpr loading))
      have cut := stepRecordsOf_cases n (p.drop 1)
      simp only [recordAt_drop_one] at cut
    · refine congrArg _ (hostRequest_always_replies room (rule.trans ?_))
      rcases cut with ⟨rs, _, length', each⟩ | ⟨none, _⟩
      · refine absurd (known_iff.mpr fun k hk => ?_) unknown
        rw [← each k hk, List.getElem?_eq_getElem (length' ▸ hk)]; rfl
      · rw [none]
    all_goals
      rcases cut with ⟨rs, some, length', each⟩ | ⟨_, k, hk, none⟩
      swap
      · exact absurd (known_iff.mp all k hk) (by rw [none]; decide)
      rw [some] at rule
    · exact congrArg _ (hostRequest_always_replies room (rule.trans (if_pos tooMany)))
    · obtain ⟨q, answers, profiles, entry, others⟩ := exists_pst_of_setPattern sized idLow idHigh _
        (congrArg _ (hostRequest_always_onPst room (rule.trans (if_neg (Nat.not_lt.mpr fits)))))
      exact ⟨q, rs, answers, length', each, profiles, entry, others⟩

/-! ## CLOSE PATTERN (R14, R20) -/

/-- The codes of R203 count the reasons in the order R20 prefers them. -/
theorem FailReason.toNat_code (r : FailReason) : r.code.toNat = r.rank + 1 := by cases r <;> rfl

theorem failsBefore_iff (f g : Nat × FailReason) :
    failsBefore f g = true ↔ f.1 < g.1 ∨ (f.1 = g.1 ∧ f.2.code.toNat ≤ g.2.code.toNat) := by
  simp [failsBefore, FailReason.toNat_code]

theorem chooseFailure_eq_none_iff (l : List (Nat × FailReason)) : chooseFailure l = none ↔ l = [] := by
  cases l with
  | nil => simp [chooseFailure]
  | cons f rest => rw [chooseFailure]; split <;> simp

/-- The chosen failure is one of them, and none comes before it. -/
theorem chooseFailure_spec {l : List (Nat × FailReason)} {f : Nat × FailReason} (h : chooseFailure l = some f) :
    f ∈ l ∧ ∀ g ∈ l, f.1 < g.1 ∨ (f.1 = g.1 ∧ f.2.code.toNat ≤ g.2.code.toNat) := by
  induction l generalizing f with
  | nil => cases h
  | cons a rest ih =>
    rw [chooseFailure] at h
    split at h
    · next last =>
      obtain rfl := (chooseFailure_eq_none_iff rest).mp last
      cases h
      simp
    · next g chosen =>
      obtain ⟨mem, first⟩ := ih chosen
      by_cases before : failsBefore a g = true
      · rw [if_pos before] at h; cases h
        rw [failsBefore_iff] at before
        refine ⟨List.mem_cons_self, fun x hx => ?_⟩
        rcases List.mem_cons.mp hx with rfl | hx
        · exact .inr ⟨rfl, le_rfl⟩
        · have := first x hx; omega
      · rw [if_neg before] at h; cases h
        rw [failsBefore_iff] at before
        refine ⟨List.mem_cons_of_mem a mem, fun x hx => ?_⟩
        rcases List.mem_cons.mp hx with rfl | hx
        · omega
        · exact first x hx

theorem PatternEntry.closed_valid {p : Pst} {e : PatternEntry} (h : patternFailures p e = []) :
    e.closed p = { e with state := .valid, stepCount := e.steps.length, failure := none } := by
  rw [PatternEntry.closed, h]; rfl

theorem PatternEntry.closed_invalid {p : Pst} {e : PatternEntry} {f : Nat × FailReason}
    (h : chooseFailure (patternFailures p e) = some f) :
    e.closed p = { e with state := .invalid, stepCount := e.steps.length, failure := some f } := by
  rw [PatternEntry.closed, h]; rfl

theorem handleClosePattern_range (b : Byte) (s : State) (bad : validPatternId b.toNat = false) :
    handleClosePattern [b] s = (s, [0x03#8]) := by
  simp [handleClosePattern, fieldAt, bad, statusOnly, Status.code]

theorem handleClosePattern_state {b : Byte} {s : State} (id : validPatternId b.toNat = true)
    (other : (s.pst.pattern b.toNat).state ≠ .loading) : handleClosePattern [b] s = (s, [0x02#8]) := by
  simp [handleClosePattern, fieldAt, id, other, statusOnly, Status.code]

theorem handleClosePattern_closes {b : Byte} {s : State} (id : validPatternId b.toNat = true)
    (loading : (s.pst.pattern b.toNat).state = .loading) :
    handleClosePattern [b] s = (s.onPst fun store => store.setPattern b.toNat ((s.pst.pattern b.toNat).closed store),
      ((s.pst.pattern b.toNat).closed s.pst).closeReply) := by
  simp [handleClosePattern, fieldAt, id, loading]

end Sys2Proof.Machine
end

section
/-! SUPPORT. The checks of CLOSE PATTERN (R15 to R19), each as the indices it names, and the obligations about them. -/

namespace Sys2Proof.Machine

/-! ## Record by record -/

/-- What `f` finds at each record, in order. -/
def perRecord {α : Type} (f : Nat → StepRecord → Option α) (steps : List StepRecord) : List α :=
  (List.range steps.length).filterMap fun i => steps[i]?.bind (f i)

theorem mem_perRecord {α : Type} (f : Nat → StepRecord → Option α) (steps : List StepRecord) (x : α) :
    x ∈ perRecord f steps ↔ ∃ i r, steps[i]? = some r ∧ f i r = some x := by
  simp only [perRecord, List.mem_filterMap, List.mem_range, Option.bind_eq_some_iff]
  exact ⟨fun ⟨i, _, r, h⟩ => ⟨i, r, h⟩,
    fun ⟨i, r, found, h⟩ => ⟨i, (List.getElem?_eq_some_iff.mp found).1, r, found, h⟩⟩

/-- Findings that carry their own index come in the order of the records. -/
theorem pairwise_perRecord {f : Nat → StepRecord → Option (Nat × Nat)} (h : ∀ i r x, f i r = some x → x.1 = i)
    (steps : List StepRecord) : (perRecord f steps).Pairwise fun a b => a.1 < b.1 := by
  refine List.pairwise_filterMap.mpr (List.pairwise_lt_range.imp fun {i j} less x hx y hy => ?_)
  obtain ⟨r, _, fx⟩ := Option.bind_eq_some_iff.mp hx
  obtain ⟨r', _, fy⟩ := Option.bind_eq_some_iff.mp hy
  rw [h i r x fx, h j r' y fy]
  exact less

/-! ## END (R15) -/

theorem endFailures_eq (steps : List StepRecord) : endFailures steps =
    if steps.length = 0 then [(0, .noEnd)]
    else perRecord (fun i r => if (r.kind == .panelEnd) != (i == steps.length - 1) then some (i, .noEnd) else none) steps := by
  unfold endFailures perRecord
  congr 2; funext i; cases steps[i]? <;> rfl

theorem mem_endFailures (steps : List StepRecord) (i : Nat) (reason : FailReason) :
    (i, reason) ∈ endFailures steps ↔ reason = .noEnd ∧ ((steps = [] ∧ i = 0) ∨ ∃ r, steps[i]? = some r
      ∧ ((r.kind = .panelEnd ∧ i + 1 < steps.length) ∨ (r.kind ≠ .panelEnd ∧ i + 1 = steps.length))) := by
  rw [endFailures_eq]
  by_cases empty : steps = []
  · subst empty; simp [and_comm]
  · rw [if_neg (by simpa using empty), mem_perRecord]
    simp only [empty, false_and, false_or]
    constructor
    · rintro ⟨j, r, found, fails⟩
      have inside := (List.getElem?_eq_some_iff.mp found).1
      split at fails
      · next differ =>
        cases fails
        refine ⟨rfl, r, found, ?_⟩
        by_cases kind : r.kind = .panelEnd <;> simp [kind] at differ ⊢ <;> omega
      · cases fails
    · rintro ⟨rfl, r, found, fails⟩
      refine ⟨i, r, found, if_pos ?_⟩
      rcases fails with ⟨kind, below⟩ | ⟨kind, last⟩
      · simp [kind]; omega
      · simp [kind]; omega

/-! ## RANGE (R16) -/

theorem rangeFailures_eq (steps : List StepRecord) :
    rangeFailures steps = perRecord (fun i r => if r.inRange then none else some (i, .range)) steps := by
  unfold rangeFailures perRecord
  congr 1; funext i; cases steps[i]? <;> rfl

theorem mem_rangeFailures (steps : List StepRecord) (i : Nat) (reason : FailReason) :
    (i, reason) ∈ rangeFailures steps ↔ reason = .range ∧ ∃ r, steps[i]? = some r ∧ r.inRange = false := by
  rw [rangeFailures_eq, mem_perRecord]
  constructor
  · rintro ⟨j, r, found, fails⟩
    split at fails
    · cases fails
    · next bad => cases fails; exact ⟨rfl, r, found, by simpa using bad⟩
  · rintro ⟨rfl, r, found, bad⟩
    exact ⟨i, r, found, by simp [bad]⟩

theorem StepRecord.inRange_eq_false_iff (r : StepRecord) : r.inRange = false ↔
    (r.kind = .knife ∧ ¬(2000 ≤ r.face.getD 0 ∧ r.face.getD 0 ≤ 80000 ∧ 1000 ≤ r.depth.getD 0
      ∧ r.depth.getD 0 ≤ r.face.getD 0))
    ∨ ((r.kind = .box ∨ r.kind = .inverted) ∧ ¬(2000 ≤ r.face.getD 0 ∧ r.face.getD 0 ≤ 80000 ∧ 1000 ≤ r.depth.getD 0
      ∧ 2 * r.depth.getD 0 ≤ r.face.getD 0))
    ∨ (r.kind = .spacer ∧ ¬(2000 ≤ r.face.getD 0 ∧ r.face.getD 0 ≤ 80000 ∧ r.depth.getD 0 = 0))
    ∨ (r.kind = .loopBack ∧ ¬(1 ≤ r.loopCount.getD 0 ∧ r.loopCount.getD 0 ≤ 255)) := by
  unfold StepRecord.inRange StepRecord.faceOf StepRecord.depthOf
  cases r.kind <;> simp

/-! ## LOOP (R17) -/

theorem loopsOf_eq (steps : List StepRecord) :
    loopsOf steps = perRecord (fun i r => if r.kind = .loopBack then some (i, r.loopTarget.getD 0) else none) steps := by
  unfold loopsOf perRecord
  congr 1; funext i; cases steps[i]? <;> rfl

theorem mem_loopsOf (steps : List StepRecord) (k u : Nat) :
    (k, u) ∈ loopsOf steps ↔ ∃ r, steps[k]? = some r ∧ r.kind = .loopBack ∧ r.loopTarget.getD 0 = u := by
  rw [loopsOf_eq, mem_perRecord]
  constructor
  · rintro ⟨j, r, found, loop⟩
    split at loop
    · next kind => cases loop; exact ⟨r, found, kind, rfl⟩
    · cases loop
  · rintro ⟨r, found, kind, rfl⟩
    exact ⟨k, r, found, if_pos kind⟩

theorem mem_enclosingLoops (steps : List StepRecord) (j k u : Nat) :
    (k, u) ∈ enclosingLoops (loopsOf steps) j ↔ (k, u) ∈ loopsOf steps ∧ u ≤ j ∧ j < k := by
  simp [enclosingLoops]

theorem pairwise_enclosingLoops (steps : List StepRecord) (j : Nat) :
    (enclosingLoops (loopsOf steps) j).Pairwise fun a b => a.1 < b.1 := by
  rw [loopsOf_eq]
  refine (pairwise_perRecord (fun i r x h => ?_) steps).filter _
  split at h
  · cases h; rfl
  · cases h

/-- A list in which the indices ascend has two entries or more exactly where two of its entries differ in the index. -/
theorem two_le_length_iff {l : List (Nat × Nat)} (h : l.Pairwise fun a b => a.1 < b.1) :
    2 ≤ l.length ↔ ∃ k u k' u', k ≠ k' ∧ (k, u) ∈ l ∧ (k', u') ∈ l := by
  match l, h with
  | [], _ => simp
  | [a], _ =>
    refine iff_of_false (by simp) ?_
    rintro ⟨k, u, k', u', differ, first, second⟩
    rw [List.mem_singleton] at first second
    exact differ (congrArg Prod.fst (first.trans second.symm))
  | a :: b :: rest, h =>
    have less : a.1 < b.1 := (List.pairwise_cons.mp h).1 b List.mem_cons_self
    exact iff_of_true (by simp) ⟨a.1, a.2, b.1, b.2, less.ne, by simp, by simp⟩

/-- The REPEAT at `j` with that target fails: it does not lead back, or a REPEAT around it leads less far back, or two stand
around it (R17). -/
def LoopFails (steps : List StepRecord) (j target : Nat) : Prop :=
  j ≤ target ∨ (∃ k u, ((k, u) ∈ loopsOf steps ∧ u ≤ j ∧ j < k) ∧ target < u)
    ∨ ∃ k u k' u', k ≠ k' ∧ ((k, u) ∈ loopsOf steps ∧ u ≤ j ∧ j < k) ∧ (k', u') ∈ loopsOf steps ∧ u' ≤ j ∧ j < k'

theorem loopFails_iff (steps : List StepRecord) (j target : Nat) : LoopFails steps j target ↔
    (decide (j ≤ target) || (enclosingLoops (loopsOf steps) j).any (fun k => decide (target < k.2))
      || decide (2 ≤ (enclosingLoops (loopsOf steps) j).length)) = true := by
  simp only [Bool.or_eq_true, decide_eq_true_eq, List.any_eq_true, Prod.exists, mem_enclosingLoops,
    two_le_length_iff (pairwise_enclosingLoops steps j), or_assoc, LoopFails]

theorem mem_loopFailures (steps : List StepRecord) (j : Nat) (reason : FailReason) : (j, reason) ∈ loopFailures steps ↔
    reason = .loop ∧ ∃ target, (j, target) ∈ loopsOf steps ∧ LoopFails steps j target := by
  simp only [loopFails_iff]
  unfold loopFailures
  simp only [List.mem_filterMap, Prod.exists]
  constructor
  · rintro ⟨i, target, loop, fails⟩
    split at fails
    · next bad => cases fails; exact ⟨rfl, target, loop, bad⟩
    · cases fails
  · rintro ⟨rfl, target, loop, bad⟩
    exact ⟨j, target, loop, if_pos bad⟩

/-! ## PROFILE and LENGTH (R19) -/

theorem mem_profileFailures (p : Pst) (id : Option Nat) (i : Nat) (reason : FailReason) :
    (i, reason) ∈ profileFailures p id ↔ reason = .profile ∧ i = 0 ∧ ∀ n, id = some n → p.profile n = none := by
  have empty : (id.bind p.profile).isSome = false ↔ ∀ n, id = some n → p.profile n = none := by
    cases id <;> simp
  unfold profileFailures
  split
  · next loaded => simp [← empty, loaded]
  · next unloaded => simp [← empty, unloaded, and_comm]

/-- The strokes of some steps (R19). -/
def strokesOf (l : List (Nat × StepRecord)) : Nat := l.countP fun x => x.2.kind.pleat

/-- The nominal consumption of some steps (R19). -/
def nominalOf (l : List (Nat × StepRecord)) : Nat := (l.map fun x => x.2.nominal 10000).sum

/-- Some steps, with what came before them, pass 2,000 strokes or 6,000,000 µm (R19). -/
def passes (strokes total : Nat) (l : List (Nat × StepRecord)) : Prop :=
  2000 < strokes + strokesOf l ∨ 6000000 < total + nominalOf l

theorem passes_cons (strokes total : Nat) (x : Nat × StepRecord) (l : List (Nat × StepRecord)) :
    passes strokes total (x :: l)
      ↔ passes (strokes + if x.2.kind.pleat then 1 else 0) (total + x.2.nominal 10000) l := by
  simp only [passes, strokesOf, nominalOf, List.countP_cons, List.map_cons, List.sum_cons]
  omega

theorem passes_nil (strokes total : Nat) : passes strokes total [] ↔ 2000 < strokes ∨ 6000000 < total := by
  simp [passes, strokesOf, nominalOf]

/-- More steps pass where fewer did. -/
theorem passes_of_passes_nil {strokes total : Nat} (l : List (Nat × StepRecord)) (h : passes strokes total []) :
    passes strokes total l := by
  rw [passes_nil] at h; unfold passes; omega

/-- The step found is the first whose addition passes a limit that nothing before it passed. -/
theorem firstOver_eq_some_iff {strokes total : Nat} (within : ¬passes strokes total []) (l : List (Nat × StepRecord))
    (i : Nat) : firstOver strokes total l = some i ↔ ∃ before r after, l = before ++ (i, r) :: after
      ∧ ¬passes strokes total before ∧ passes strokes total (before ++ [(i, r)]) := by
  induction l generalizing strokes total with
  | nil => simp [firstOver]
  | cons x rest ih =>
    obtain ⟨j, r⟩ := x
    have here : (2000 < strokes + (if r.kind.pleat then 1 else 0) ∨ 6000000 < total + r.nominal 10000)
        ↔ passes strokes total [(j, r)] := by rw [passes_cons, passes_nil]
    by_cases exceeds : passes strokes total [(j, r)]
    · have found : firstOver strokes total ((j, r) :: rest) = some j := if_pos (here.mpr exceeds)
      rw [found]
      constructor
      · rintro ⟨⟩
        exact ⟨[], r, rest, rfl, within, exceeds⟩
      · rintro ⟨before, r', after, split, passed, _⟩
        cases before with
        | nil => cases split; rfl
        | cons y before =>
          cases split
          exact absurd ((passes_cons ..).mpr (passes_of_passes_nil before ((passes_cons ..).mp exceeds))) passed
    · have later : firstOver strokes total ((j, r) :: rest)
          = firstOver (strokes + if r.kind.pleat then 1 else 0) (total + r.nominal 10000) rest := if_neg (mt here.mp exceeds)
      rw [later, ih (mt (passes_cons ..).mpr exceeds)]
      constructor
      · rintro ⟨before, r', after, rfl, passed, found⟩
        exact ⟨(j, r) :: before, r', after, rfl, mt (passes_cons ..).mp passed, (passes_cons ..).mpr found⟩
      · rintro ⟨before, r', after, split, passed, found⟩
        cases before with
        | nil => cases split; exact absurd found exceeds
        | cons y before =>
          cases split
          exact ⟨before, r', after, rfl, mt (passes_cons ..).mpr passed, (passes_cons ..).mp found⟩

theorem mem_lengthFailures (steps : List StepRecord) (i : Nat) (reason : FailReason) :
    (i, reason) ∈ lengthFailures steps ↔ reason = .length ∧ endFailures steps = [] ∧ loopFailures steps = []
      ∧ firstOver 0 0 (expanded steps) = some i := by
  unfold lengthFailures
  simp only [Bool.and_eq_true, List.isEmpty_iff]
  split
  · next unfailed =>
    cases firstOver 0 0 (expanded steps) with
    | none => simp
    | some j => simp [unfailed, eq_comm, and_comm]
  · next failed => simp; tauto

/-! ## All checks -/

theorem mem_patternFailures (p : Pst) (e : PatternEntry) (x : Nat × FailReason) : x ∈ patternFailures p e ↔
    x ∈ endFailures e.steps ∨ x ∈ rangeFailures e.steps ∨ x ∈ loopFailures e.steps ∨ x ∈ profileFailures p e.profileId
      ∨ x ∈ lengthFailures e.steps := by
  simp [patternFailures]

theorem noEnd_mem_patternFailures (p : Pst) (e : PatternEntry) (i : Nat) :
    (i, FailReason.noEnd) ∈ patternFailures p e ↔ (i, FailReason.noEnd) ∈ endFailures e.steps := by
  simp [mem_patternFailures, mem_rangeFailures, mem_loopFailures, mem_profileFailures, mem_lengthFailures]

theorem range_mem_patternFailures (p : Pst) (e : PatternEntry) (i : Nat) :
    (i, FailReason.range) ∈ patternFailures p e ↔ (i, FailReason.range) ∈ rangeFailures e.steps := by
  simp [mem_patternFailures, mem_endFailures, mem_loopFailures, mem_profileFailures, mem_lengthFailures]

theorem loop_mem_patternFailures (p : Pst) (e : PatternEntry) (i : Nat) :
    (i, FailReason.loop) ∈ patternFailures p e ↔ (i, FailReason.loop) ∈ loopFailures e.steps := by
  simp [mem_patternFailures, mem_endFailures, mem_rangeFailures, mem_profileFailures, mem_lengthFailures]

theorem profile_mem_patternFailures (p : Pst) (e : PatternEntry) (i : Nat) :
    (i, FailReason.profile) ∈ patternFailures p e ↔ (i, FailReason.profile) ∈ profileFailures p e.profileId := by
  simp [mem_patternFailures, mem_endFailures, mem_rangeFailures, mem_loopFailures, mem_lengthFailures]

theorem length_mem_patternFailures (p : Pst) (e : PatternEntry) (i : Nat) :
    (i, FailReason.length) ∈ patternFailures p e ↔ (i, FailReason.length) ∈ lengthFailures e.steps := by
  simp [mem_patternFailures, mem_endFailures, mem_rangeFailures, mem_loopFailures, mem_profileFailures]

/-- Settles O17: the checks of R14, the choice of R20 by `chooseFailure_spec`, and PROFILE by its own check. -/
theorem closeJudges : Obligations.CloseJudges := by
  refine ⟨fun tag b s room sized => ?_, fun p e i => ?_⟩
  · intro id e fails
    refine ⟨fun bad => ?_, fun low high other => ?_, fun low high loading => ?_⟩
    · exact congrArg _ (hostRequest_always_replies room
        (handleClosePattern_range b _ ((validPatternId_eq_false_iff _).mpr bad)))
    · exact congrArg _ (hostRequest_always_replies room
        (handleClosePattern_state ((validPatternId_iff _).mpr ⟨low, high⟩) other))
    · obtain ⟨q, answers, profiles, entry, others⟩ := exists_pst_of_setPattern sized low high _
        (congrArg _ (hostRequest_always_onPst room
          (handleClosePattern_closes ((validPatternId_iff _).mpr ⟨low, high⟩) loading)))
      refine ⟨q, _, answers, profiles, others, fun none => ?_, fun some => ?_⟩
      · have valid := PatternEntry.closed_valid (p := s.pst) (e := e) none
        exact ⟨by rw [State.restartSilence_pst, valid]; rfl, entry.trans valid⟩
      · obtain ⟨f, chosen⟩ := Option.ne_none_iff_exists'.mp (mt (chooseFailure_eq_none_iff fails).mp some)
        obtain ⟨failed, first⟩ := chooseFailure_spec chosen
        have invalid := PatternEntry.closed_invalid (p := s.pst) (e := e) chosen
        exact ⟨f, failed, by rw [State.restartSilence_pst, invalid]; rfl, entry.trans invalid, first⟩
  · rw [profile_mem_patternFailures, mem_profileFailures]
    exact and_iff_right rfl

theorem endFailures_eq_nil_iff (steps : List StepRecord) :
    endFailures steps = [] ↔ ∀ k, (k, FailReason.noEnd) ∉ endFailures steps := by
  rw [List.eq_nil_iff_forall_not_mem]
  refine ⟨fun h k => h _, fun h ⟨k, reason⟩ mem => h k ?_⟩
  rwa [((mem_endFailures ..).mp mem).1] at mem

theorem loopFailures_eq_nil_iff (steps : List StepRecord) :
    loopFailures steps = [] ↔ ∀ k, (k, FailReason.loop) ∉ loopFailures steps := by
  rw [List.eq_nil_iff_forall_not_mem]
  refine ⟨fun h k => h _, fun h ⟨k, reason⟩ mem => h k ?_⟩
  rwa [((mem_loopFailures ..).mp mem).1] at mem

/-- At a grade of 10,000 the graded face is the face (R24). -/
theorem StepRecord.nominal_tenThousand (r : StepRecord) :
    r.nominal 10000 = r.face.getD 0 + r.kind.multiplier * r.depth.getD 0 := by
  have graded : (r.faceOf * 10000 + 5000) / 10000 = r.faceOf := by omega
  rw [StepRecord.nominal, StepRecord.gradedFace, graded, ite_self]
  rfl

/-- Settles O18, reason by reason. -/
theorem patternChecksExact : Obligations.PatternChecksExact := by
  refine ⟨fun p e i => ?_, ⟨fun p e i => ?_, fun p e j => ?_⟩, fun p e i => ?_⟩
  · rw [noEnd_mem_patternFailures, mem_endFailures]
    exact and_iff_right rfl
  · simp only [range_mem_patternFailures, mem_rangeFailures, StepRecord.inRange_eq_false_iff, true_and]
  · intro loops inside
    rw [loop_mem_patternFailures, mem_loopFailures]
    simp only [LoopFails, mem_loopsOf, true_and, loops, inside]
  · intro pleats takes exceeds
    have strokes (l : List (Nat × StepRecord)) : pleats l = strokesOf l :=
      congrArg (List.countP · l) (funext fun x => by cases x.2.kind <;> rfl)
    have nominal (l : List (Nat × StepRecord)) : takes l = nominalOf l := by
      refine congrArg (fun f => (l.map f).sum) (funext fun x => ?_)
      rw [StepRecord.nominal_tenThousand]
      cases x.2.kind <;> rfl
    have exceeds_iff (l : List (Nat × StepRecord)) : exceeds l ↔ passes 0 0 l := by
      simp only [exceeds, strokes, nominal, passes, Nat.zero_add]
    simp only [length_mem_patternFailures, mem_lengthFailures, noEnd_mem_patternFailures, loop_mem_patternFailures,
      endFailures_eq_nil_iff, loopFailures_eq_nil_iff, forall_and, true_and, and_assoc, exceeds_iff]
    rw [firstOver_eq_some_iff (by simp [passes_nil])]

end Sys2Proof.Machine
end

section
/-! SUPPORT. The walk over the stored records (R18): what one step of it does at each kind of record, and the expanded sequence
of a body that one REPEAT runs over. -/

namespace Sys2Proof.Machine

/-! ## One step of the walk -/

theorem walkTo_ended {steps : List StepRecord} {i : Nat} {r : StepRecord} (cs : List (Nat × Nat)) (fuel : Nat)
    (h : steps[i]? = some r) (kind : r.kind = .panelEnd) : walkTo steps (fuel + 1) i cs = .ended i := by
  simp [walkTo, h, kind]

/-- An unloaded counter is loaded. -/
theorem walkTo_loads {steps : List StepRecord} {i : Nat} {r : StepRecord} {cs : List (Nat × Nat)} (fuel : Nat)
    (h : steps[i]? = some r) (kind : r.kind = .loopBack) (unloaded : cs.lookup i = none) :
    walkTo steps (fuel + 1) i cs = walkTo steps fuel (r.loopTarget.getD 0) (setCounter cs i (r.loopCount.getD 0)) := by
  simp [walkTo, h, kind, unloaded]

/-- A loaded counter that stays above 0 is decremented. -/
theorem walkTo_repeats {steps : List StepRecord} {i n : Nat} {r : StepRecord} {cs : List (Nat × Nat)} (fuel : Nat)
    (h : steps[i]? = some r) (kind : r.kind = .loopBack) (loaded : cs.lookup i = some n) (more : 1 < n) :
    walkTo steps (fuel + 1) i cs = walkTo steps fuel (r.loopTarget.getD 0) (setCounter cs i (n - 1)) := by
  simp [walkTo, h, kind, loaded, more]

/-- A loaded counter that comes to 0 is unloaded. -/
theorem walkTo_unloads {steps : List StepRecord} {i n : Nat} {r : StepRecord} {cs : List (Nat × Nat)} (fuel : Nat)
    (h : steps[i]? = some r) (kind : r.kind = .loopBack) (loaded : cs.lookup i = some n) (last : n ≤ 1) :
    walkTo steps (fuel + 1) i cs = walkTo steps fuel (i + 1) (clearCounter cs i) := by
  simp [walkTo, h, kind, loaded, Nat.not_lt.mpr last]

/-! ## The loop counters -/

theorem lookup_cons_ite (j m k : Nat) (rest : List (Nat × Nat)) :
    ((j, m) :: rest).lookup k = if k = j then some m else rest.lookup k := by
  rw [List.lookup_cons]
  by_cases h : k = j
  · simp [h]
  · rw [if_neg h, beq_false_of_ne h]

theorem lookup_clearCounter (cs : List (Nat × Nat)) (i k : Nat) :
    (clearCounter cs i).lookup k = if k = i then none else cs.lookup k := by
  induction cs with
  | nil => simp [clearCounter]
  | cons c rest ih =>
    obtain ⟨j, m⟩ := c
    by_cases same : j = i
    · have cleared : clearCounter ((j, m) :: rest) i = clearCounter rest i := by simp [clearCounter, same]
      rw [cleared, ih, lookup_cons_ite, same]
      split <;> rfl
    · have stands : clearCounter ((j, m) :: rest) i = (j, m) :: clearCounter rest i := by simp [clearCounter, same]
      rw [stands, lookup_cons_ite, lookup_cons_ite, ih]
      by_cases this : k = j
      · rw [if_pos this, if_pos this, if_neg (this ▸ same)]
      · rw [if_neg this, if_neg this]

theorem lookup_setCounter (cs : List (Nat × Nat)) (i n k : Nat) :
    (setCounter cs i n).lookup k = if k = i then some n else cs.lookup k := by
  have set : setCounter cs i n = (i, n) :: clearCounter cs i := rfl
  rw [set, lookup_cons_ite, lookup_clearCounter]
  split <;> rfl

/-! ## The expanded sequence -/

theorem expandFrom_forming {steps : List StepRecord} {i j : Nat} {r : StepRecord} {cs cs' : List (Nat × Nat)} (fuel : Nat)
    (h : walkTo steps walkFuel i cs = .forming j r cs') :
    expandFrom steps (fuel + 1) i cs = (j, r) :: expandFrom steps fuel (j + 1) cs' := by
  simp [expandFrom, h]

/-- The walk that comes to no forming step ends the sequence. -/
theorem expandFrom_of_not_forming {steps : List StepRecord} {i : Nat} {cs : List (Nat × Nat)} (fuel : Nat)
    (h : ∀ j r cs', walkTo steps walkFuel i cs ≠ .forming j r cs') : expandFrom steps fuel i cs = [] := by
  cases fuel with
  | zero => rfl
  | succ fuel =>
    rw [expandFrom]
    split
    · next found => exact absurd found (h _ _ _)
    · rfl
    · rfl

/-- Two places from which the walk comes to the same forming step have the same sequence ahead. -/
theorem expandFrom_congr {steps : List StepRecord} {i i' : Nat} {cs cs' : List (Nat × Nat)} (fuel : Nat)
    (h : walkTo steps walkFuel i cs = walkTo steps walkFuel i' cs') :
    expandFrom steps fuel i cs = expandFrom steps fuel i' cs' := by
  cases fuel with
  | zero => rfl
  | succ fuel => rw [expandFrom, expandFrom, h]

/-- What the walk comes to as a forming step is one. -/
theorem forming_of_walkTo {steps : List StepRecord} {fuel i j : Nat} {r : StepRecord} {cs cs' : List (Nat × Nat)}
    (h : walkTo steps fuel i cs = .forming j r cs') : steps[j]? = some r ∧ r.forming := by
  induction fuel generalizing i cs with
  | zero => cases h
  | succ fuel ih =>
    rw [walkTo] at h
    split at h
    · cases h
    · next s found =>
      split at h
      · cases h
      · split at h
        · exact ih h
        · split at h <;> exact ih h
      · next notEnd notLoop =>
        cases h
        exact ⟨found, fun k => notLoop k, fun k => notEnd k⟩

/-! ## One REPEAT over a body of forming records -/

section
variable {body : List StepRecord} {n : Nat} {rep fin : StepRecord}

/-- The body's records, each with its index. -/
def indexed (body : List StepRecord) : List (Nat × StepRecord) := (List.range body.length).zip body

theorem drop_indexed {i : Nat} (h : i < body.length) : (indexed body).drop i = (i, body[i]) :: (indexed body).drop (i + 1) := by
  have inside : i < (indexed body).length := by simpa [indexed] using h
  rw [List.drop_eq_getElem_cons inside]
  simp [indexed]

theorem drop_length_indexed : (indexed body).drop body.length = [] := by simp [indexed]

variable (forms : ∀ r ∈ body, r.forming)

include forms in
/-- In the body the walk takes the record it stands at. -/
theorem walkTo_body {i : Nat} (h : i < body.length) (fuel : Nat) (cs : List (Nat × Nat)) :
    walkTo (body ++ [rep, fin]) (fuel + 1) i cs = .forming i body[i] cs :=
  walkTo_forming cs fuel (by rw [List.getElem?_append_left h, List.getElem?_eq_getElem h]) (forms _ (List.getElem_mem h))

include forms in
/-- From a place of the body the sequence runs to the REPEAT. -/
theorem expandFrom_body (cs : List (Nat × Nat)) {k i fuel : Nat} (reach : i + k = body.length) (enough : k ≤ fuel) :
    expandFrom (body ++ [rep, fin]) fuel i cs
      = (indexed body).drop i ++ expandFrom (body ++ [rep, fin]) (fuel - k) body.length cs := by
  induction k generalizing i fuel with
  | zero => rw [show i = body.length from reach, drop_length_indexed]; rfl
  | succ k ih =>
    obtain ⟨fuel, rfl⟩ : ∃ f, fuel = f + 1 := ⟨fuel - 1, by omega⟩
    have inside : i < body.length := by omega
    rw [expandFrom_forming fuel (walkTo_body forms inside 255 cs), ih (by omega) (by omega), drop_indexed inside,
      Nat.succ_sub_succ, List.cons_append]

variable (loop : rep.kind = .loopBack) (target : rep.loopTarget = some 0) (count : rep.loopCount = some n)
  (last : fin.kind = .panelEnd)

theorem getElem?_rep : (body ++ [rep, fin])[body.length]? = some rep := by simp
theorem getElem?_fin : (body ++ [rep, fin])[body.length + 1]? = some fin := by simp

include forms loop target in
/-- At the REPEAT with its counter at `k`, the body runs `k - 1` times more. -/
theorem expandFrom_loaded (last : fin.kind = .panelEnd) (nonempty : 0 < body.length) {k fuel : Nat} {cs : List (Nat × Nat)}
    (loaded : cs.lookup body.length = some (k + 1)) (enough : k * body.length ≤ fuel) :
    expandFrom (body ++ [rep, fin]) fuel body.length cs = (List.replicate k (indexed body)).flatten := by
  induction k generalizing fuel cs with
  | zero =>
    refine expandFrom_of_not_forming fuel fun j r cs' found => ?_
    rw [walkFuel, walkTo_unloads 255 getElem?_rep loop loaded le_rfl, walkTo_ended _ 254 getElem?_fin last] at found
    cases found
  | succ k ih =>
    rw [Nat.succ_mul] at enough
    have back : walkTo (body ++ [rep, fin]) walkFuel body.length cs
        = walkTo (body ++ [rep, fin]) walkFuel 0 (setCounter cs body.length (k + 1)) := by
      rw [walkFuel, walkTo_repeats 255 getElem?_rep loop loaded (by omega), target]
      exact (walkTo_body forms nonempty 254 _).trans (walkTo_body forms nonempty 255 _).symm
    rw [expandFrom_congr fuel back, expandFrom_body forms _ (Nat.zero_add _) (by omega), List.drop_zero,
      ih (by rw [lookup_setCounter, if_pos rfl]) (by omega), List.replicate_succ, List.flatten_cons]

include forms loop target count in
/-- From the first record, with no counter loaded, the body runs once and then as often as the loop count says. -/
theorem expandFrom_start (last : fin.kind = .panelEnd) (nonempty : 0 < body.length) (some : 0 < n) {fuel : Nat}
    (enough : (n + 1) * body.length ≤ fuel) :
    expandFrom (body ++ [rep, fin]) fuel 0 [] = (List.replicate (n + 1) (indexed body)).flatten := by
  obtain ⟨k, rfl⟩ : ∃ k, n = k + 1 := ⟨n - 1, by omega⟩
  have split : (k + 1 + 1) * body.length = k * body.length + body.length + body.length := by ring
  have back : walkTo (body ++ [rep, fin]) walkFuel body.length []
      = walkTo (body ++ [rep, fin]) walkFuel 0 (setCounter [] body.length (k + 1)) := by
    rw [walkFuel, walkTo_loads 255 getElem?_rep loop rfl, target, count]
    exact (walkTo_body forms nonempty 254 _).trans (walkTo_body forms nonempty 255 _).symm
  rw [expandFrom_body forms [] (Nat.zero_add _) (by omega), List.drop_zero, expandFrom_congr _ back,
    expandFrom_body forms _ (Nat.zero_add _) (by omega), List.drop_zero,
    expandFrom_loaded forms loop target last nonempty (by rw [lookup_setCounter, if_pos rfl]) (by omega),
    List.replicate_succ, List.replicate_succ, List.flatten_cons, List.flatten_cons]

/-- With an empty body the walk finds no forming record. -/
theorem expandFrom_empty_body (loop : rep.kind = .loopBack) (last : fin.kind = .panelEnd) (fuel : Nat) :
    expandFrom [rep, fin] fuel 0 [] = [] := by
  refine expandFrom_of_not_forming fuel fun j r cs' found => ?_
  obtain ⟨stored, notLoop, notEnd⟩ := forming_of_walkTo found
  match j, stored with
  | 0, stored => cases stored; exact notLoop loop
  | 1, stored => cases stored; exact notEnd last

end

/-- Settles O19: the passes of `expandFrom_start`; a body of no record has no step in any pass. -/
theorem loopRunsItsBody : Obligations.LoopRunsItsBody := by
  intro body n rep fin short low high forms loop target count last
  rcases Nat.eq_zero_or_pos body.length with empty | nonempty
  · rw [List.length_eq_zero_iff.mp empty]
    refine (expandFrom_empty_body loop last _).trans ?_
    simp
  · refine expandFrom_start forms loop target count last nonempty low ?_
    calc (n + 1) * body.length ≤ 256 * 126 := Nat.mul_le_mul (by omega) short
      _ ≤ expandFuel := by unfold expandFuel; omega

end Sys2Proof.Machine
end

section
/-! SUPPORT. Settles O8 (R201): the power-on state, block by block, and the invariants it meets. -/

namespace Sys2Proof.Machine

section PowerOn
variable (a b g d : Bool)

theorem State.zone_powerOn (i : Nat) : (State.powerOn a b g d).zone i = Zone.powerOn :=
  entryAt_replicate_getD 8 i Zone.powerOn

theorem residueBounded_powerOn : (State.powerOn a b g d).residueBounded := by
  show (500000000000 : Nat) < 1000000000000
  decide

theorem referenceSound_powerOn : (State.powerOn a b g d).referenceSound := fun i => by
  have free : (State.powerOn a b g d).zsv.reference = none := rfl
  simp [State.zone_powerOn, free, Zone.powerOn]

theorem stationsSound_powerOn : (State.powerOn a b g d).stationsSound := by
  refine ⟨rfl, show 1 ≤ 3 by decide, fun st mem => ?_⟩
  obtain rfl := List.eq_of_mem_replicate mem
  simp [Station.powerOn, State.powerOn, Slm.powerOn]

theorem ringSound_powerOn : (State.powerOn a b g d).ringSound := by
  have empty : ∀ k, k < 8 → ((Evu.powerOn.slots.getD ((Evu.powerOn.oldest + k) % 8) none).isSome = true ↔
      k < Evu.powerOn.filled) := by decide
  exact ⟨rfl, show 0 < 8 by decide, show 0 ≤ 8 by decide, empty⟩

end PowerOn

/-- Settles O8. -/
theorem powerOnState : Obligations.PowerOnState := by
  refine ⟨fun a b g d s => ?_, fun a b g d => ?_⟩
  · cases a <;> cases b <;> exact exec_powerOnReset ..
  · exact ⟨rfl, residueBounded_powerOn a b g d, State.jobsSound_of_powerOn rfl rfl, referenceSound_powerOn a b g d,
      ⟨by simp [State.powerOn, Rcu.powerOn, Unwind.powerOn], by simp [State.powerOn, Rcu.powerOn]⟩,
      stationsSound_powerOn a b g d, ringSound_powerOn a b g d, rfl, rfl, rfl, rfl⟩

end Sys2Proof.Machine
end

section
/-! SUPPORT. The zone profile's switch test follows few blocks and moves no zone into or out of FAULT; what the end of a panel and
the entry to ARMED leave. -/

namespace Sys2Proof.Machine

/-! ## What the switch test follows (R105) -/

/-- `s` with another SEQ, FCA and STR. -/
def State.withLine (s : State) (q : Seq) (f : Fca) (x : Str) : State := { s with seq := q, fca := f, str := x }

/-- What the switch does with one zone. -/
def State.switchZone (p : Profile) (s : State) (i : Nat) : State := (s.onZone i (Zone.switched p)).restartIfWarming i

theorem State.switchZone_withLine (p : Profile) (s : State) (q : Seq) (f : Fca) (x : Str) (i : Nat) :
    State.switchZone p (s.withLine q f x) i = (State.switchZone p s i).withLine q f x := by
  have same : ((s.withLine q f x).onZone i (Zone.switched p)).zone i = (s.onZone i (Zone.switched p)).zone i := rfl
  unfold State.switchZone State.restartIfWarming
  rw [same]
  split <;> rfl

/-- The zones after the switch. -/
def State.switchZones (s : State) (id : Nat) (p : Profile) : State :=
  s.zoneNumbers.foldl (State.switchZone p) (s.onZsv fun v => { v with profile := some id })

theorem State.switchZones_withLine (s : State) (id : Nat) (p : Profile) (q : Seq) (f : Fca) (x : Str) :
    (s.withLine q f x).switchZones id p = (s.switchZones id p).withLine q f x := by
  unfold State.switchZones
  exact List.foldl_hom (init := s.onZsv fun v => { v with profile := some id }) (l := s.zoneNumbers) (State.withLine · q f x)
    fun u i => State.switchZone_withLine p u q f x i

theorem State.switchTest_eq (s : State) : s.switchTest =
    match s.headJobProfileId, s.headJobProfile with
    | some id, some p => if s.switchDue id then s.switchZones id p else s
    | _, _ => s := by
  unfold State.switchTest State.headJobProfile
  cases s.headJobProfileId with
  | none => rfl
  | some id =>
    rw [Option.bind_some]
    dsimp only
    cases s.pst.profile id <;> rfl

/-- The zones after the switch test follow the queue, the segments and B, of SEQ and STR. -/
theorem State.zsv_switchTest_withLine (s : State) (q : Seq) (f : Fca) (x : Str) (belt : x.belt = s.str.belt) :
    (s.withLine q f x).switchTest.zsv = s.zonesFor q.jobs x.segments := by
  show _ = (s.withLine { s.seq with jobs := q.jobs } s.fca { s.str with segments := x.segments }).switchTest.zsv
  have due (id : Nat) : (s.withLine q f x).switchDue id =
      (s.withLine { s.seq with jobs := q.jobs } s.fca { s.str with segments := x.segments }).switchDue id := by
    simp only [State.switchDue, State.stillToLeave, State.withLine, belt]
    rfl
  have headId : (s.withLine q f x).headJobProfileId =
      (s.withLine { s.seq with jobs := q.jobs } s.fca { s.str with segments := x.segments }).headJobProfileId := rfl
  have head : (s.withLine q f x).headJobProfile =
      (s.withLine { s.seq with jobs := q.jobs } s.fca { s.str with segments := x.segments }).headJobProfile := rfl
  simp only [State.switchTest_eq, headId, head]
  split
  · rw [due]
    split
    · rw [State.switchZones_withLine, State.switchZones_withLine]
      rfl
    · rfl
  · rfl

/-! ## No zone enters or leaves FAULT at the switch -/

/-- The zones in FAULT are the same. -/
def FaultsKept (s t : State) : Prop := ∀ i, (t.zone i).state = .fault ↔ (s.zone i).state = .fault

theorem FaultsKept.trans {s t u : State} (h : FaultsKept s t) (k : FaultsKept t u) : FaultsKept s u :=
  fun i => (k i).trans (h i)

theorem FaultsKept.onZone (s : State) (i : Nat) {f : Zone → Zone} (keeps : ∀ z, (f z).state = .fault ↔ z.state = .fault) :
    FaultsKept s (s.onZone i f) := fun j => by
  show ((entryAt (modifyAt s.zsv.zones i f) j).getD Zone.powerOn).state = .fault ↔ _
  rw [entryAt_modifyAt_eq]
  split
  · next same =>
    rw [State.zone, same]
    cases entryAt s.zsv.zones i with
    | none => rfl
    | some z => exact keeps z
  · rfl

@[simp] theorem Zone.retarget_state (p : Profile) (sp : Int) (z : Zone) : (z.retarget p sp).state = z.state := by
  unfold Zone.retarget
  dsimp only
  rw [apply_ite Zone.state]
  exact ite_self _

theorem Zone.switched_state_fault_iff (p : Profile) (z : Zone) : (z.switched p).state = .fault ↔ z.state = .fault := by
  unfold Zone.switched
  split
  case h_6 | h_7 => split <;> simp
  all_goals simp_all

theorem faultsKept_switchZone (p : Profile) (s : State) (i : Nat) : FaultsKept s (State.switchZone p s i) := by
  have switched : FaultsKept s (s.onZone i (Zone.switched p)) := .onZone s i (Zone.switched_state_fault_iff p)
  unfold State.switchZone State.restartIfWarming
  split
  · exact switched.trans (.onZone _ i fun z => Iff.rfl)
  · exact switched

theorem faultsKept_foldl_switchZone (p : Profile) (l : List Nat) (s : State) :
    FaultsKept s (l.foldl (State.switchZone p) s) := by
  induction l generalizing s with
  | nil => exact fun i => Iff.rfl
  | cons i rest ih => exact (faultsKept_switchZone p s i).trans (ih _)

theorem faultsKept_switchTest (s : State) : FaultsKept s s.switchTest := by
  rw [State.switchTest_eq]
  split
  · split
    · exact faultsKept_foldl_switchZone _ _ (s.onZsv fun v => { v with profile := some _ })
    · exact fun i => Iff.rfl
  · exact fun i => Iff.rfl

theorem FaultsKept.anyZoneFault {s t : State} (h : FaultsKept s t) (line : t.line = s.line) :
    t.anyZoneFault = s.anyZoneFault := by
  have numbers : t.zoneNumbers = s.zoneNumbers := by simp only [State.zoneNumbers, State.zoneCount, line]
  rw [Bool.eq_iff_iff]
  simp only [State.anyZoneFault, numbers, List.any_eq_true, beq_iff_eq, h _]

/-! ## The end of a panel (R62, R90) -/

/-- What the end of a panel closes, before the job may leave. -/
def State.panelClosed (s : State) (reachedEnd : Bool) : State :=
  s.withLine
    { s.seq with openPanel := none, lastStrokeStart := none, step := none, jobs := s.seq.jobs.modify 0 Job.advance }
    { s.fca with panelLp := none } (s.str.closeSegment reachedEnd)

theorem State.headLeaves_eq (s : State) : s.headLeaves =
    { s with
      seq := { s.seq with jobs := s.seq.jobs.tail }, zsv := s.zonesFor s.seq.jobs.tail s.str.segments
      evu := s.evu.raise .jobDone } :=
  congrArg (State.raise · .jobDone) (zonesOnly_switchTest (s.onSeq fun q => { q with jobs := q.jobs.tail }))

/-- The end of a panel: the head job is gone where it is done or cancel-pending. -/
theorem State.endPanel_eq (s : State) (reachedEnd : Bool) : s.endPanel reachedEnd =
    if ((s.headJob.map fun j => j.advance.finished).getD false) = true then
      { s.panelClosed reachedEnd with
        seq := { (s.panelClosed reachedEnd).seq with jobs := s.seq.jobs.tail }
        zsv := s.zonesFor s.seq.jobs.tail (s.panelClosed reachedEnd).str.segments, evu := s.evu.raise .jobDone }
    else s.panelClosed reachedEnd := by
  have head : (s.panelClosed reachedEnd).headJob.map Job.finished = s.headJob.map fun j => j.advance.finished := by
    simp only [State.headJob, State.panelClosed, State.withLine]
    cases s.seq.jobs <;> rfl
  have tail : (s.panelClosed reachedEnd).seq.jobs.tail = s.seq.jobs.tail := by
    simp only [State.panelClosed, State.withLine]
    cases s.seq.jobs <;> rfl
  have zones : (s.panelClosed reachedEnd).zonesFor s.seq.jobs.tail (s.panelClosed reachedEnd).str.segments =
      s.zonesFor s.seq.jobs.tail (s.panelClosed reachedEnd).str.segments :=
    State.zsv_switchTest_withLine s { (s.panelClosed reachedEnd).seq with jobs := s.seq.jobs.tail } _ _ rfl
  show (if ((s.panelClosed reachedEnd).headJob.map Job.finished).getD false = true
    then (s.panelClosed reachedEnd).headLeaves else s.panelClosed reachedEnd) = _
  rw [head, State.headLeaves_eq, tail, zones]
  rfl

theorem State.held_endPanel (s : State) (reachedEnd : Bool) : (s.endPanel reachedEnd).held = s.held := by
  have closed : (s.panelClosed reachedEnd).held = s.held := rfl
  rw [State.endPanel_eq]
  split
  · rw [← closed]
    refine State.held_congr rfl rfl rfl rfl ?_
    exact FaultsKept.anyZoneFault (fun i => faultsKept_switchTest (s.withLine { s.seq with jobs := s.seq.jobs.tail } s.fca
      { s.str with segments := (s.panelClosed reachedEnd).str.segments }) i) rfl
  · exact closed

theorem Evu.raise_getLsbD_self (e : Evu) (c : EventClass) : (e.raise c).pendingSet.getLsbD c.bit = true := by
  cases c <;> simp [Evu.raise, EventClass.mask, EventClass.bit]

theorem Evu.raise_getLsbD_of_set {e : Evu} (c : EventClass) {i : Nat} (h : e.pendingSet.getLsbD i = true) :
    (e.raise c).pendingSet.getLsbD i = true := by
  simp [Evu.raise, h]

theorem Job.finished_advance_iff (j : Job) :
    j.advance.finished = true ↔ j.panelsDone + 1 = j.panelCount ∨ j.cancelPending = true := by
  simp [Job.advance, Job.finished]

theorem State.panelEnded_endPanel (s : State) (reachedEnd : Bool) : s.panelEnded (s.endPanel reachedEnd) reachedEnd := by
  rw [State.endPanel_eq]
  cases queue : s.seq.jobs with
  | nil =>
    rw [if_neg (by simp [State.headJob, queue])]
    exact ⟨rfl, rfl, rfl, rfl, rfl, fun j rest more => by simp [queue] at more⟩
  | cons j rest =>
    have head : (s.headJob.map fun j => j.advance.finished).getD false = j.advance.finished := by
      simp [State.headJob, queue]
    rw [head]
    split
    · next done =>
      refine ⟨rfl, rfl, rfl, rfl, rfl, fun k more same => ?_⟩
      obtain ⟨rfl, rfl⟩ := List.cons.inj (queue.symm.trans same)
      rw [if_pos ((Job.finished_advance_iff _).mp done)]
      exact ⟨rfl, Evu.raise_getLsbD_self s.evu .jobDone, rfl⟩
    · next more =>
      refine ⟨rfl, rfl, rfl, rfl, rfl, fun k rest same => ?_⟩
      obtain ⟨rfl, rfl⟩ := List.cons.inj (queue.symm.trans same)
      rw [if_neg (mt (Job.finished_advance_iff _).mpr more)]
      exact ⟨by simp [State.panelClosed, State.withLine, queue, Job.advance], rfl⟩

/-! ## Entry to ARMED -/

theorem State.toArmed_eq (s : State) : s.toArmed =
    if s.seq.jobs = [] then s.toIdle else if s.held then s.enterHolding .armed else s.setMode .armed := by
  simp only [State.toArmed, List.isEmpty_iff]

/-- Only the mode, what SEQ drops in IDLE, and SEQ_HOLD may change. -/
theorem State.panelEnded_toArmed {s t : State} {reachedEnd : Bool} (h : s.panelEnded t reachedEnd) :
    s.panelEnded t.toArmed reachedEnd := by
  rw [State.toArmed_eq]
  split
  · exact h
  · split
    · obtain ⟨panel, stroke, lp, segments, last, jobs⟩ := h
      refine ⟨panel, stroke, lp, segments, last, fun j rest queue => ?_⟩
      have left := jobs j rest queue
      split at left
      · next done =>
        rw [if_pos done]
        exact ⟨left.1, Evu.raise_getLsbD_of_set .seqHold left.2.1, left.2.2⟩
      · next more =>
        rw [if_neg more]
        exact left
    · exact h

end Sys2Proof.Machine
end

section
/-! SUPPORT. Settles O38 (R57): the walk of a running panel, from step to step and to the END. -/

namespace Sys2Proof.Machine

/-- A walk of fewer REPEATs than the fuel comes where R18 says. -/
theorem WalksTo.walkTo {steps : List StepRecord} {n i : Nat} {cs : List (Nat × Nat)} {w : WalkStop}
    (h : WalksTo steps n i cs w) {fuel : Nat} (enough : n < fuel) : walkTo steps fuel i cs = w := by
  obtain ⟨fuel, rfl⟩ : ∃ m, fuel = m + 1 := ⟨fuel - 1, by omega⟩
  induction h generalizing fuel with
  | takes found forming => exact walkTo_forming _ fuel found forming
  | stops found kind => exact walkTo_ended _ fuel found kind
  | loads found kind unloaded _ ih =>
    obtain ⟨fuel, rfl⟩ : ∃ m, fuel = m + 1 := ⟨fuel - 1, by omega⟩
    rw [walkTo_loads _ found kind unloaded]
    exact ih fuel (by omega)
  | repeats found kind loaded more _ ih =>
    obtain ⟨fuel, rfl⟩ : ∃ m, fuel = m + 1 := ⟨fuel - 1, by omega⟩
    rw [walkTo_repeats _ found kind loaded (by omega)]
    exact ih fuel (by omega)
  | unloads found kind loaded last _ ih =>
    obtain ⟨fuel, rfl⟩ : ∃ m, fuel = m + 1 := ⟨fuel - 1, by omega⟩
    rw [walkTo_unloads _ found kind loaded (by omega)]
    exact ih fuel (by omega)

theorem State.walkOn_of_walksTo {s : State} {p : OpenPanel} {n : Nat} {w : WalkStop} (panel : s.seq.openPanel = some p)
    (walk : WalksTo s.headJobSteps n (p.pointer + 1) p.counters w) (few : n < 256) : s.walkOn = s.takeWalk w := by
  simp only [State.walkOn, panel]
  rw [walk.walkTo (fuel := walkFuel) few]

/-- At the END the panel ends and SEQ enters ARMED, HOLDING or IDLE. -/
theorem State.takeWalk_ended (s : State) (i : Nat) : s.takeWalk (.ended i) = (s.endPanel true).toArmed := rfl

theorem State.toArmed_mode (s : State) : s.toArmed.seq.mode =
    if s.toArmed.seq.jobs = [] then .idle else if s.held then .holding .armed else .armed := by
  have jobs : s.toArmed.seq.jobs = s.seq.jobs := by
    rw [State.toArmed_eq]
    split
    · rfl
    · split <;> rfl
  rw [jobs, State.toArmed_eq]
  split
  · rfl
  · split <;> rfl

/-- The entry to ARMED leaves the totals and STR. -/
theorem State.toArmed_keeps (s : State) : s.toArmed.seq.feedTotal = s.seq.feedTotal
    ∧ s.toArmed.seq.wasteTotal = s.seq.wasteTotal ∧ s.toArmed.str = s.str := by
  rw [State.toArmed_eq]
  split
  · exact ⟨rfl, rfl, rfl⟩
  · split <;> exact ⟨rfl, rfl, rfl⟩

theorem State.endPanel_keeps (s : State) (reachedEnd : Bool) : (s.endPanel reachedEnd).seq.feedTotal = s.seq.feedTotal
    ∧ (s.endPanel reachedEnd).seq.wasteTotal = s.seq.wasteTotal
    ∧ (s.endPanel reachedEnd).str = s.str.closeSegment reachedEnd := by
  rw [State.endPanel_eq]
  split <;> exact ⟨rfl, rfl, rfl⟩

theorem execStrokeDone_folded {s : State} {r : StepRecord} (stroke : s.seq.bladePort ≠ none)
    (plain : s.seq.ending.any = false) (record : s.currentRecord = some r)
    (folded : r.confirm = .ignore ∨ r.kind.foldsNeeded ≤ s.seq.foldEdges) :
    exec .strokeDone s = .next (s.onSeq fun q => { q with bladePort := none }).walkOn.settle := by
  obtain ⟨b, port⟩ := Option.ne_none_iff_exists'.mp stroke
  have check (n : Nat) : (s.onSeq fun q => { q with bladePort := none }).foldCheck r n =
      (s.onSeq fun q => { q with bladePort := none }).walkOn := if_pos folded
  show execStrokeDone s = _
  simp only [execStrokeDone, port, record, check]
  rw [if_neg (by exact Bool.eq_false_iff.mp plain)]

/-- Not held, a WAIT that has run in RUNNING ends, and a standing trigger is taken. -/
theorem State.settle_of_runWait {s : State} (mode : s.seq.mode = .runWait) (free : s.held = false)
    (run : s.waitExpiry ≤ s.clock) : s.settle = s.endRunWait.armedStart := by
  have hold : s.takeHold = s := by simp [State.takeHold, free]
  have leave : s.leaveHold = s := by simp [State.leaveHold, mode]
  have step : s.waitStep = s.endRunWait := by simp [State.waitStep, mode, run]
  rw [State.settle, hold, leave, step]

theorem State.endRunWait_spacer {s : State} {r : StepRecord} {st : StepRun} (record : s.currentRecord = some r)
    (step : s.seq.step = some st) (spacer : r.kind = .spacer) :
    s.endRunWait = ((s.onSeq fun q => { q with lastStrokeStart := some s.clock }).indexBelt st.graded).walkOn := by
  simp [State.endRunWait, record, step, spacer, StepKind.pleat]

theorem execWaitEnd_spacer {s : State} {r : StepRecord} {st : StepRun} (mode : s.seq.mode = .runWait)
    (free : s.held = false) (record : s.currentRecord = some r) (step : s.seq.step = some st) (spacer : r.kind = .spacer) :
    exec .waitEnd s = .next ((({ s with clock := max s.clock s.waitExpiry } : State).onSeq fun q =>
      { q with lastStrokeStart := some (max s.clock s.waitExpiry) }).indexBelt st.graded).walkOn.armedStart := by
  show execWaitEnd s = _
  rw [execWaitEnd, if_pos mode, State.settle_of_runWait (s := s.reach s.waitExpiry) mode free (le_max_right _ _),
    State.endRunWait_spacer (s := s.reach s.waitExpiry) record step spacer]
  rfl

/-- Settles O38: the walk relation by induction on it; the panel end from `endPanel`'s own equation. -/
theorem panelRunsToEnd : Obligations.PanelRunsToEnd := by
  refine ⟨fun cs i n k => ⟨lookup_setCounter cs i n k, lookup_clearCounter cs i k⟩,
    fun steps n i cs w walk few => walk.walkTo few, ?_, ?_, ?_⟩
  · intro s p n w panel walk few t
    have taken : t = s.takeWalk w := State.walkOn_of_walksTo panel walk few
    refine ⟨fun i r cs stop => ?_, fun i stop => ?_⟩
    · rw [taken, stop]
      cases held : s.held with
      | false =>
        rw [State.takeWalk_forming i r cs held]
        refine ⟨by simp [State.onSeq, panel], by simp [State.onSeq], by simp [State.onSeq], by simp [State.onSeq],
          fun _ => ⟨?_, by simp [State.onSeq]⟩, nofun⟩
        exact State.stepFed_beginFeed (s.onSeq fun q => _) r
      | true =>
        rw [State.takeWalk_held i r cs held]
        exact ⟨congrArg (Option.map _) panel, rfl, rfl, rfl, nofun, fun _ => ⟨rfl, rfl, rfl, rfl⟩⟩
    · rw [taken, stop, State.takeWalk_ended]
      obtain ⟨feed, waste, str⟩ := (s.endPanel true).toArmed_keeps
      obtain ⟨feed', waste', str'⟩ := s.endPanel_keeps true
      refine ⟨State.panelEnded_toArmed (s.panelEnded_endPanel true), ?_, feed.trans feed', waste.trans waste', ?_, ?_⟩
      · rw [State.toArmed_mode, s.held_endPanel]
      · rw [str, str']; rfl
      · rw [str, str']; rfl
  · intro s r stroke plain record needed folded
    refine execStrokeDone_folded stroke plain record ?_
    have same : r.kind.foldsNeeded = needed := by cases kind : r.kind <;> simp only [needed, kind] <;> rfl
    rw [same]
    exact folded
  · intro s r st mode free record step spacer now
    have expiry : now = max s.clock s.waitExpiry := by
      simp only [now, State.waitExpiry, State.waitInterval, mode, step]
      cases s.seq.lastStrokeStart <;> rfl
    rw [expiry]
    exact execWaitEnd_spacer mode free record step spacer

end Sys2Proof.Machine
end

section
/-! SUPPORT. Settles O40 (R200, R203 to R206): what IDENTIFY and each READ request does, and the bytes of its items. -/

namespace Sys2Proof.Machine

/-! ## The requests -/

/-- The rule of a request with one yes/no parameter: the reply taken, `yes` or `no` acts on the state. -/
def YesNoRule (h : List Byte → State → State × List Byte) (yes no : State → State) (body : State → List Byte) : Prop :=
  ∀ b t, h [b] t = match yesNoOf b with
    | none => (t, [0x03#8])
    | some clear => (if clear then yes t else no t, 0x00#8 :: body t)

theorem yesNoRule_readStatus : YesNoRule handleReadStatus
    (fun t => (t.onSeq fun q => { q with markPending := false }).onHlp Hlp.clearCounters)
    (fun t => t.onSeq fun q => { q with markPending := false }) statusBody := fun _ _ => rfl

theorem yesNoRule_readStations : YesNoRule handleReadStations
    (fun t => t.onSlm fun m => { m with stations := m.stations.map Station.clearCounters }) id stationsBody :=
  fun _ _ => rfl

theorem yesNoRule_readReports : YesNoRule handleReadReports
    (fun t => t.onEvu fun e => { e with overrun := 0 }) id reportsBody := fun _ _ => rfl

section Requests
variable (tag : BitVec 16) (id first count b : Byte) {s : State}

theorem exec_readSteps (room : s.room) : exec (.readSteps tag [id, first, count]) s = .next (s.onlyReplies 0x16#8 tag
    (if 1 ≤ id.toNat ∧ id.toNat ≤ 32 ∧ first.toNat ≤ 127 ∧ 1 ≤ count.toNat ∧ count.toNat ≤ 16 then
      0x00#8 :: stepsBody s id.toNat first.toNat count.toNat else [0x03#8])) := by
  refine congrArg _ (hostRequest_always_replies room ?_)
  have refused : (!validPatternId id.toNat || decide (127 < first.toNat ∨ count.toNat < 1 ∨ 16 < count.toNat)) = true ↔
      ¬(1 ≤ id.toNat ∧ id.toNat ≤ 32 ∧ first.toNat ≤ 127 ∧ 1 ≤ count.toNat ∧ count.toNat ≤ 16) := by
    simp only [validPatternId, Bool.or_eq_true, Bool.not_eq_true', decide_eq_false_iff_not, decide_eq_true_eq]
    omega
  simp only [handleReadSteps, fieldAt, List.drop, List.take, ofBytes_singleton, List.length_cons, List.length_nil]
  rw [if_neg (by simp)]
  split
  · next bad => rw [if_neg (refused.mp bad)]; rfl
  · next good => rw [if_pos (not_not.mp (mt refused.mpr good))]; rfl

theorem exec_readMarks (room : s.room) : exec (.readMarks tag [first, count]) s = .next (s.onlyReplies 0x31#8 tag
    (if first.toNat ≤ 63 ∧ 1 ≤ count.toNat ∧ count.toNat ≤ 32 then
      0x00#8 :: marksBody s.restartSilence first.toNat count.toNat else [0x03#8])) := by
  refine congrArg _ (hostRequest_always_replies room ?_)
  simp only [handleReadMarks, fieldAt, List.drop, List.take, ofBytes_singleton, List.length_cons, List.length_nil]
  rw [if_neg (by simp)]
  split
  · rw [if_neg (by omega)]; rfl
  · rw [if_pos (by omega)]; rfl

theorem exec_readSegments (room : s.room) : exec (.readSegments tag [first, count]) s = .next (s.onlyReplies 0x38#8 tag
    (if first.toNat ≤ 63 ∧ 1 ≤ count.toNat ∧ count.toNat ≤ 16 then
      0x00#8 :: segmentsBody s.restartSilence first.toNat count.toNat else [0x03#8])) := by
  refine congrArg _ (hostRequest_always_replies room ?_)
  simp only [handleReadSegments, fieldAt, List.drop, List.take, ofBytes_singleton, List.length_cons, List.length_nil]
  rw [if_neg (by simp)]
  split
  · rw [if_neg (by omega)]; rfl
  · rw [if_pos (by omega)]; rfl

theorem YesNoRule.request {h : List Byte → State → State × List Byte} {yes no : State → State} {body : State → List Byte}
    (rule : YesNoRule h yes no body) (kind : Byte) (room : s.room) :
    (b = 0#8 → hostRequest kind .always h tag [b] s =
      (no s.restartSilence).pushReply kind tag (0x00#8 :: body s.restartSilence))
    ∧ (b = 1#8 → hostRequest kind .always h tag [b] s =
      (yes s.restartSilence).pushReply kind tag (0x00#8 :: body s.restartSilence))
    ∧ (b ≠ 0#8 → b ≠ 1#8 → hostRequest kind .always h tag [b] s = s.onlyReplies kind tag [0x03#8]) := by
  rw [hostRequest_always kind h tag [b] room, rule]
  refine ⟨fun zero => by rw [zero]; rfl, fun one => by rw [one]; rfl, fun zero one => ?_⟩
  rw [yesNoOf, if_neg one, if_neg zero]
  rfl

end Requests

/-! ## The items -/

theorem memberSet_eq_foldr (l : List Bool) : memberSet l = l.foldr (fun b n => (if b then 1 else 0) + 2 * n) 0 := by
  induction l with
  | nil => rfl
  | cons b rest ih => rw [memberSet, ih, List.foldr_cons]

theorem beBytes_one (v : Nat) : beBytes 1 v = [BitVec.ofNat 8 v] := by simp [beBytes]

/-- A station as READ STATIONS shows it. -/
def stationRow (s : State) (n : Nat) : List Byte :=
  [yesNo (s.shownEnabled.contains n), (roleOf n).code] ++ (s.station n).toBytes (roleOf n)

theorem code_roleOf (n : Nat) : (roleOf n).code = BitVec.ofNat 8
    (if n ≤ 8 then 1 else if n ≤ 10 then 2 else if n = 11 then 3 else if n = 12 then 4 else 5) := by
  unfold roleOf
  split_ifs <;> rfl

theorem absentReading_roleOf (n : Nat) : (roleOf n).absentReading = List.replicate
    (if n ≤ 8 then 5 else if n ≤ 10 then 5 else if n = 11 then 1 else if n = 12 then 7 else 9) 0xFF#8 := by
  unfold roleOf
  split_ifs <;> rfl

theorem State.zonesUnmet_eq (s : State) : s.zonesUnmet = !decide ((∀ i ∈ s.zoneNumbers, (s.zone i).state = .ready)
    ∧ s.headJobProfileId ≠ none ∧ s.zsv.profile = s.headJobProfileId) := by
  rw [Bool.eq_iff_iff]
  cases named : s.headJobProfileId <;> simp [State.zonesUnmet, named, -not_and]

theorem State.fabricUnmet_eq (s : State) : s.fabricUnmet =
    !(decide (s.headJobProfileId ≠ none ∧ s.wtr.headFabric = s.headJobProfileId)
      || s.wtr.marks.any fun m => decide (s.headCoord < m.coord)
        && (s.headJobProfileId.map fun p => m.kind == .splice p).getD false) := by
  cases named : s.headJobProfileId with
  | none => simp [State.fabricUnmet, State.fabricMatches, State.matchingSplice, named]
  | some p =>
    rw [Bool.eq_iff_iff]
    simp [State.fabricUnmet, State.fabricMatches, State.matchingSplice, named, State.spliceAhead, imp_not_comm]

theorem PatternEntry.toBytes_eq (e : PatternEntry) : e.toBytes = [e.state.code] ++ beOpt 1 e.profileId
    ++ beBytes 1 e.steps.length ++ beBytes 1 e.stepCount ++ match e.failure with
      | some (i, reason) => beBytes 1 i ++ [reason.code]
      | none => [0xFF#8, 0xFF#8] := by
  obtain ⟨state, profileId, steps, stepCount, failure⟩ := e
  cases failure <;> simp only [PatternEntry.toBytes, List.append_assoc] <;> rfl

/-- Settles O40: each item list is the model's, field by field; then each request by its rule. -/
theorem readsAnswer : Obligations.ReadsAnswer := by
  unfold Obligations.ReadsAnswer
  intro yes bits flags triggers mode armWaits changeState status zone zones unwind rolls mark marks segment segments readings
    station stations report reports
  have yes_eq : yes = yesNo := rfl
  have bits_eq : bits = memberSet := funext fun l => (memberSet_eq_foldr l).symm
  have flags_eq : flags = PanelFlags.toBytes := by simp only [flags, bits_eq]; rfl
  have triggers_eq : triggers = Triggers.toBytes := funext fun r => by
    obtain ⟨source, pace, mark, fold, stroke⟩ := r
    cases source <;> cases mark <;> cases fold <;> rfl
  have mode_eq : mode = fun m => m.codes ++ m.pointBytes ++ [m.reasonByte] := funext fun m => by
    cases m with
    | holding p => cases p <;> rfl
    | fault r => cases r <;> rfl
    | _ => rfl
  have armWaits_eq : armWaits = State.armWaitByte := funext fun s => by
    have source : (s.seq.triggers.source != .command) = decide (s.seq.triggers.source ≠ .command) := by
      cases s.seq.triggers.source <;> rfl
    simp only [armWaits, bits_eq, State.armWaitByte, source, State.zonesUnmet_eq, State.fabricUnmet_eq, State.segmentsUnmet]
  have change_eq : changeState = fun c => ChangePhase.codeOrIdle (c.map Change.phase) := funext fun c => by cases c <;> rfl
  have status_eq : status = statusBody := funext fun s => by
    simp only [status, yes_eq, bits_eq, triggers_eq, mode_eq, armWaits_eq, change_eq, statusBody, statusHlpBytes,
      statusSeqBytes, statusFcaBytes, silenceTimerBytes, List.append_assoc, List.cons_append, List.nil_append]
    rfl
  have zone_eq : zone = zoneBytes := funext fun s => funext fun i => by
    simp only [zone, yes_eq, zoneBytes, Zone.toBytes, List.append_assoc, List.cons_append, List.nil_append]
    rfl
  have zones_eq : zones = zonesBody := by simp only [zones, zone_eq]; rfl
  have rolls_eq : rolls = rollsBody := funext fun s => by
    simp only [rolls, unwind, yes_eq, change_eq, rollsBody, unwindBytes, Accumulator.toBytes, RollSettings.toBytes,
      Rcu.changeBytes, List.append_assoc, List.cons_append, List.nil_append]
    rfl
  have mark_eq : mark = fun s => Mark.toBytes s.inspectCoord := funext fun s => funext fun m => by
    obtain ⟨kind, coord, stop, reached⟩ := m
    cases kind with
    | splice p => simp only [mark, Mark.toBytes, beBytes_one]; rfl
    | defect t o => cases t <;> rfl
  have marks_eq : marks = marksBody := by simp only [marks, mark_eq, yes_eq]; rfl
  have segment_eq : segment = Segment.toBytes := by simp only [segment, flags_eq, yes_eq]; rfl
  have segments_eq : segments = segmentsBody := funext fun s => by
    simp only [segments, segment_eq]
    rfl
  have report_eq : report = Report.toBytes := funext fun r => by
    have verdict : (if r.verdict = .good then 1#8 else 2#8) = r.verdict.code := by cases r.verdict <;> rfl
    simp only [report, flags_eq, verdict]
    rfl
  have reports_eq : reports = reportsBody := by simp only [reports, report_eq]; rfl
  have readings_eq : readings = fun l => l.status :: l.readings.toBytes := funext fun l => by
    obtain ⟨status, r⟩ := l
    cases r <;> rfl
  have station_eq : station = stationRow := funext fun s => funext fun n => by
    have enabled : (if s.slm.toPoll = [] then s.enabledSet else s.slm.enabled) = s.shownEnabled := by
      simp only [State.shownEnabled, List.isEmpty_iff]
    simp only [station, enabled, yes_eq, readings_eq, ← code_roleOf, ← absentReading_roleOf, stationRow, Station.toBytes,
      List.contains_eq_mem, List.append_assoc, List.cons_append, List.nil_append]
    cases (s.station n).lastReading <;> rfl
  have stations_eq : stations = stationsBody := funext fun s => by
    have polling : decide (s.slm.toPoll ≠ []) = !s.slm.toPoll.isEmpty := by cases s.slm.toPoll <;> rfl
    simp only [stations, station_eq, yes_eq, polling]
    rfl
  simp only [yes_eq, zones_eq, rolls_eq, marks_eq, segments_eq, status_eq, stations_eq, reports_eq]
  refine ⟨by decide, fun tag s room => ?_, fun tag id first count s room => ?_, fun tag b s room => ?_⟩
  · exact ⟨congrArg _ (hostRequest_always_replies room rfl), congrArg _ (hostRequest_always_replies room rfl),
      congrArg _ (hostRequest_always_replies room rfl), congrArg _ (hostRequest_always_replies room rfl)⟩
  · rw [exec_readSteps tag id first count room, exec_readMarks tag first count room, exec_readSegments tag first count room]
    refine ⟨fun fits => ?_, fun bad => by rw [if_neg bad], fun fits => by rw [if_pos fits], fun bad => by rw [if_neg bad],
      fun fits => by rw [if_pos fits], fun bad => by rw [if_neg bad]⟩
    simp only [if_pos fits, stepsBody, PatternEntry.toBytes_eq]
    rfl
  · obtain ⟨status0, status1, statusBad⟩ := yesNoRule_readStatus.request tag b 0x02#8 room
    obtain ⟨stations0, stations1, stationsBad⟩ := yesNoRule_readStations.request tag b 0x61#8 room
    obtain ⟨reports0, reports1, reportsBad⟩ := yesNoRule_readReports.request tag b 0x68#8 room
    exact ⟨fun no => ⟨congrArg _ (status0 no), congrArg _ (stations0 no), congrArg _ (reports0 no)⟩,
      fun yes => ⟨congrArg _ (status1 yes), congrArg _ (stations1 yes), congrArg _ (reports1 yes)⟩,
      fun no yes => ⟨congrArg _ (statusBad no yes), congrArg _ (stationsBad no yes), congrArg _ (reportsBad no yes)⟩⟩

end Sys2Proof.Machine
end

section
/-! SUPPORT. Stages 1 to 4 of the feed arithmetic (R24 to R34): the graded face, T and G, feed counts over a list of steps, the
panel prediction and the waste chunk. Settles O20, O21 and O22. -/

namespace Sys2Proof.Machine

/-! ## Stage 1: the graded face (R24) -/

theorem StepRecord.gradedFace_of_ungraded {r : StepRecord} {f : Nat} (face : r.face = some f) (no : r.graded = false)
    (grade : Nat) : r.gradedFace grade = f := by
  simp [StepRecord.gradedFace, StepRecord.faceOf, face, no]

theorem StepRecord.gradedFace_of_graded {r : StepRecord} {f : Nat} (face : r.face = some f) (yes : r.graded = true)
    (grade : Nat) : r.gradedFace grade = (f * grade + 5000) / 10000 := by
  simp [StepRecord.gradedFace, StepRecord.faceOf, face, yes]

theorem State.headJobGrade_eq {s : State} {j : Job} (head : s.headJob = some j) : s.headJobGrade = j.grade := by
  simp [State.headJobGrade, head]

/-- The product of a face and a grade within their ranges. -/
theorem face_mul_grade_bounds {f grade : Nat} (faceLow : 2000 ≤ f) (faceHigh : f ≤ 80000) (gradeLow : 9000 ≤ grade)
    (gradeHigh : grade ≤ 11000) : 18000000 ≤ f * grade ∧ f * grade ≤ 880000000 :=
  ⟨Nat.mul_le_mul faceLow gradeLow, Nat.mul_le_mul faceHigh gradeHigh⟩

/-- Settles O20: each of the two faces by its equation; the bounds from those of the product. -/
theorem faceGradedHalfUp : Obligations.FaceGradedHalfUp := by
  refine ⟨fun r f grade face => ⟨fun no => r.gradedFace_of_ungraded face no grade, fun yes => ?_, ?_, fun d => rfl⟩,
    fun s j r head => congrArg r.gradedFace (State.headJobGrade_eq head)⟩
  · rw [r.gradedFace_of_graded face yes]
    omega
  · intro faceLow faceHigh gradeLow gradeHigh
    obtain ⟨low, high⟩ := face_mul_grade_bounds faceLow faceHigh gradeLow gradeHigh
    cases graded : r.graded with
    | false =>
      rw [r.gradedFace_of_ungraded face graded]
      omega
    | true =>
      rw [r.gradedFace_of_graded face graded]
      omega

/-! ## T and G (R26, R27) -/

theorem State.deliverTension_of_none {s : State} (noJob : s.headJobProfile = none) (tension : Nat) :
    s.deliverTension tension = s := by
  simp [State.deliverTension, noJob]

theorem State.deliverTension_of_some {s : State} {p : Profile} (head : s.headJobProfile = some p) (tension : Nat) :
    s.deliverTension tension = { s with fca := { s.fca with tension := tensionCorrection tension p } } := by
  simp [State.deliverTension, head, State.onFca]

/-- The clamp of T, written as its three cases. -/
theorem tensionCorrection_eq (tension : Nat) (p : Profile) : tensionCorrection tension p =
    if ((tension : Int) - p.refTension) * p.elasticity < -20000 then -20000
    else if 20000 < ((tension : Int) - p.refTension) * p.elasticity then 20000
    else ((tension : Int) - p.refTension) * p.elasticity := by
  unfold tensionCorrection
  generalize ((tension : Int) - p.refTension) * p.elasticity = product
  split_ifs <;> omega

theorem compFactor_of_over {shrink : Nat} {t : Int} (exceeds : 1150000 < 1000000 + (shrink : Int) + t) :
    compFactor shrink t = (1150000, true) := if_pos exceeds

theorem compFactor_of_within {shrink : Nat} {t : Int} (within : 1000000 + (shrink : Int) + t ≤ 1150000) :
    compFactor shrink t = ((1000000 + (shrink : Int) + t).toNat, false) := if_neg (by omega)

theorem State.headFactor_eq {s : State} {p : Profile} (head : s.headJobProfile = some p) :
    s.headFactor = compFactor p.shrink s.fca.tension := by
  simp [State.headFactor, head]

/-- S is no less than 0, so a clamped T keeps G above 980,000. -/
theorem compFactor_bounds (shrink : Nat) {t : Int} (low : -20000 ≤ t) :
    980000 ≤ (compFactor shrink t).1 ∧ (compFactor shrink t).1 ≤ 1150000 := by
  by_cases exceeds : 1150000 < 1000000 + (shrink : Int) + t
  · rw [compFactor_of_over exceeds]
    decide
  · rw [compFactor_of_within (by omega)]
    dsimp only
    omega

/-- Settles O21: T by the three cases of its clamp, G by the two of `compFactor`. -/
theorem factorClampedAndTensionHeld : Obligations.FactorClampedAndTensionHeld := by
  intro s tension
  refine ⟨fun noJob => State.deliverTension_of_none noJob tension, ?_⟩
  intro p head product t
  refine ⟨?_, ?_⟩
  · rw [State.deliverTension_of_some head, tensionCorrection_eq]
  · intro r u sum
    have lastG : u.fca.lastG = some (compFactor p.shrink s.fca.tension).1 :=
      congrArg (fun g : Nat × Bool => some g.1) (State.headFactor_eq head)
    have lastClamped : u.fca.lastClamped = (compFactor p.shrink s.fca.tension).2 :=
      congrArg Prod.snd (State.headFactor_eq head)
    refine ⟨fun exceeds => ?_, fun _ within => ?_, rfl, fun _ low _ => ⟨_, lastG, compFactor_bounds _ low⟩, rfl⟩
    · rw [lastG, lastClamped, compFactor_of_over exceeds]
      exact ⟨rfl, rfl⟩
    · rw [lastG, lastClamped, compFactor_of_within within]
      exact ⟨rfl, rfl⟩

/-! ## Stage 4 over a list of steps (R28, R29, R32) -/

/-- One step of Stage 4: the counts so far and the residue, from the step's N and G. -/
def feedStep (r : Nat) (acc x : Nat × Nat) : Nat × Nat :=
  (acc.1 + (feedCounts x.1 x.2 r acc.2).1, (feedCounts x.1 x.2 r acc.2).2)

/-- No count and no residue is lost over any list of steps. -/
theorem foldl_feedStep_spec (r : Nat) (steps : List (Nat × Nat)) (acc : Nat × Nat) (bounded : acc.2 < residueUnit) :
    residueUnit * (steps.foldl (feedStep r) acc).1 + (steps.foldl (feedStep r) acc).2
        = residueUnit * acc.1 + acc.2 + (steps.map fun x => x.1 * x.2 * r).sum
      ∧ (steps.foldl (feedStep r) acc).2 < residueUnit := by
  induction steps generalizing acc with
  | nil => exact ⟨by simp, bounded⟩
  | cons x rest ih =>
    obtain ⟨lossless, below⟩ := feedCounts_spec x.1 x.2 r acc.2
    obtain ⟨sum, last⟩ := ih (feedStep r acc x) below
    refine ⟨?_, last⟩
    rw [List.foldl_cons, sum, List.map_cons, List.sum_cons, feedStep, Nat.mul_add]
    omega

theorem openingResidue_lt : openingResidue < residueUnit := by decide

/-- The counts of a list of steps, from the residue that a panel opens with. -/
theorem foldl_feedStep_counts (r : Nat) (steps : List (Nat × Nat)) :
    (steps.foldl (feedStep r) (0, openingResidue)).1
      = ((steps.map fun x => x.1 * x.2 * r).sum + openingResidue) / residueUnit := by
  obtain ⟨sum, last⟩ := foldl_feedStep_spec r steps (0, openingResidue) openingResidue_lt
  refine (Nat.div_eq_of_lt_le ?_ ?_).symm
  · rw [Nat.mul_comm]; omega
  · rw [Nat.mul_comm, Nat.mul_add]; omega

/-- The running sum of R32 is Stage 4 over the steps' N with one G. -/
theorem predictFrom_eq_foldl (g r grade : Nat) (l : List (Nat × StepRecord)) (counts residue : Nat) :
    counts + predictFrom g r grade l residue
      = ((l.map fun x => (x.2.nominal grade, g)).foldl (feedStep r) (counts, residue)).1 := by
  induction l generalizing counts residue with
  | nil => rfl
  | cons x rest ih =>
    rw [predictFrom, ← Nat.add_assoc, ih]
    rfl

theorem prediction_eq (steps : List StepRecord) (g r grade : Nat) : prediction steps g r grade
    = (g * r * ((expanded steps).map fun x => x.2.nominal grade).sum + openingResidue) / residueUnit := by
  have products (l : List (Nat × StepRecord)) :
      ((l.map fun x => (x.2.nominal grade, g)).map fun x => x.1 * x.2 * r).sum
        = g * r * (l.map fun x => x.2.nominal grade).sum := by
    rw [List.map_map, ← List.sum_map_mul_left]
    refine congrArg List.sum (List.map_congr_left fun x _ => ?_)
    show x.2.nominal grade * g * r = g * r * x.2.nominal grade
    ring
  have whole := predictFrom_eq_foldl g r grade (expanded steps) 0 openingResidue
  rw [Nat.zero_add, foldl_feedStep_counts, products] at whole
  exact whole

/-! ## The head job's figures (R25, R30, R33) -/

theorem StepRecord.nominal_eq (r : StepRecord) (grade : Nat) : r.nominal grade = r.gradedFace grade + (match r.kind with
    | .knife => 2
    | .box => 4
    | .inverted => 4
    | _ => 0) * r.depth.getD 0 := by
  unfold StepRecord.nominal StepRecord.depthOf
  cases r.kind <;> rfl

theorem State.resolution_eq {s : State} {c : LineConfig} (line : s.line = some c) : s.resolution = c.resolution := by
  simp [State.resolution, line]

theorem State.headJobSteps_eq {s : State} {j : Job} (head : s.headJob = some j) :
    s.headJobSteps = (s.pst.pattern j.patternId).steps := by
  simp [State.headJobSteps, head]

theorem State.clearanceCounts_eq {s : State} {c : LineConfig} (line : s.line = some c) :
    s.clearanceCounts = c.clearance * c.resolution / 1000 := by
  simp [State.clearanceCounts, State.counts, State.resolution_eq line, line]

/-! ## Waste chunks and intervals (R34, R35) -/

/-- The belt index of a chunk: its counts are at most a twentieth of R, and R counts make 1,000,000 of belt. -/
theorem wasteChunk_index_bounds {remaining r w : Nat} (low : 100000 ≤ r) (high : r ≤ 500000) (below : w < r) :
    (wasteChunk remaining r w).2.1 ≤ 50000 ∧ (1 ≤ remaining → 2 ≤ (wasteChunk remaining r w).2.1) := by
  have chunk : min remaining (r / 20) ≤ r / 20 := Nat.min_le_right ..
  constructor
  · refine Nat.le_of_lt_succ ((Nat.div_lt_iff_lt_mul (by omega)).mpr ?_)
    omega
  · intro left
    refine (Nat.le_div_iff_mul_le (by omega)).mpr ?_
    omega

theorem ceilDiv_le {n d i : Nat} (pos : 0 < d) (enough : n ≤ i * d) : ceilDiv n d ≤ i := by
  have below : ceilDiv n d * d < (i + 1) * d := by
    have := (ceilDiv_spec (n := n) pos).2
    rw [Nat.add_mul, Nat.one_mul]
    omega
  exact Nat.le_of_lt_succ (Nat.lt_of_mul_lt_mul_right below)

/-- Settles O22: Stage 4 by `foldl_feedStep_spec`, the prediction as such a run, a chunk as a quotient with its remainder. -/
theorem feedCountsExact : Obligations.FeedCountsExact := by
  refine ⟨⟨?_, ?_⟩, ⟨prediction_eq, ?_⟩, ?_, fun dwell length e pos =>
    ⟨(ceilDiv_spec pos).1, fun i enough => ceilDiv_le pos enough⟩⟩
  · intro r steps out total
    obtain ⟨sum, last⟩ := foldl_feedStep_spec r steps (0, openingResidue) openingResidue_lt
    exact ⟨sum.trans (Nat.add_comm ..), last, foldl_feedStep_counts r steps⟩
  · intro s j p rec head profile g n
    have nominal : rec.nominal s.headJobGrade = n :=
      (congrArg rec.nominal (State.headJobGrade_eq head)).trans (rec.nominal_eq _)
    have factor : s.headFactor.1 = g := by rw [State.headFactor_eq profile]
    simp only [State.stepAnswer, State.takeStep, State.onFca_fca, nominal, factor]
  · intro s j p c head profile line steps pred
    have lp : s.headLp = finishedLength steps j.grade := by
      rw [State.headLp, State.headJobSteps_eq head, State.headJobGrade_eq head]
    refine ⟨?_, lp⟩
    rw [State.headSpan, lookAheadSpan, State.headJobSteps_eq head, State.headFactor_eq profile, State.resolution_eq line,
      State.headJobGrade_eq head, State.clearanceCounts_eq line]
  · intro remaining r w low high below c b w'
    exact ⟨rfl, (Nat.div_add_mod' _ r).symm, Nat.mod_lt _ (by omega), wasteChunk_index_bounds low high below⟩

end Sys2Proof.Machine
end

section
/-! SUPPORT. The panel start (R34, R54 to R56): the first chunk of a stay in WASTE, or the panel opened with its first step's
feed. Settles O32. -/

namespace Sys2Proof.Machine

/-! ## Waste chunks (R34, R55) -/

/-- `s` with the FEED of the chunk `a` begun: its counts, its belt index and the waste residue after it. -/
def State.chunkBegun (s : State) (target : Int) (a : Nat × Nat × Nat) : State :=
  { s with
    seq := { s.seq with
      mode := .wasteFeed, feedPort := some a.1, wasteTarget := some target
      chunk := some { counts := a.1, index := a.2.1, interval := minInterval s.headMinDwell a.2.1 s.tunnel } }
    fca := { s.fca with wasteResidue := a.2.2 } }

/-- For every chunk `a`: with the one that `wasteChunk` computes in its place the kernel would evaluate the two sides. -/
theorem State.chunkBegun_eq (s : State) (target : Int) (a : Nat × Nat × Nat) :
    ((s.onFca fun f => { f with wasteResidue := a.2.2 }).onSeq fun q =>
      { q with
        mode := .wasteFeed, feedPort := some a.1, wasteTarget := some target
        chunk := some { counts := a.1, index := a.2.1, interval := ceilDiv (s.headMinDwell * a.2.1) s.tunnel } })
      = s.chunkBegun target a := rfl

theorem State.beginChunk_eq (s : State) (target : Int) : s.beginChunk target =
    s.chunkBegun target (wasteChunk (target - s.headCoord).toNat s.resolution s.fca.wasteResidue) :=
  s.chunkBegun_eq target _

theorem State.startPanel_of_target {s : State} {target : Int} (h : s.newTarget = some target) :
    s.startPanel = s.enterWaste target := by
  simp only [State.startPanel, h]

theorem State.startPanel_of_no_target {s : State} (h : s.newTarget = none) : s.startPanel = s.openPanelNow := by
  simp only [State.startPanel, h]

/-! ## The panel opens (R56, R88) -/

/-- The head job's panel opened at its first step, whose FEED has not begun. -/
def State.panelOpened (s : State) (j : Job) : State :=
  s.withLine
    { s.seq with
      openPanel := some { number := j.panelsDone + 1, pointer := 0, counters := [] }, lastStrokeStart := none
      step := none, chunk := none, wasteTarget := none }
    { s.fca with residue := openingResidue, panelLp := some s.headLp }
    (s.str.openSegment j (j.panelsDone + 1) (s.headJobProfileId.getD 0) s.headLp)

/-- With a forming record first and SEQ not held, the opened panel begins its first step's feed. -/
theorem State.openPanelNow_forming {s : State} {j : Job} {r : StepRecord} (head : s.headJob = some j)
    (free : s.held = false) (first : s.headJobSteps[0]? = some r) (forming : r.forming) :
    s.openPanelNow = (s.panelOpened j).beginFeed r := by
  have walk : walkTo s.headJobSteps walkFuel 0 [] = .forming 0 r [] := walkTo_forming [] 255 first forming
  simp only [State.openPanelNow, head, walk]
  exact State.takeWalk_forming 0 r [] free

/-- A step's FEED as one state: SEQ, FCA, and COMP_LIMIT on the open segment where G is clamped. -/
theorem State.beginFeed_eq (s : State) (r : StepRecord) : s.beginFeed r =
    s.withLine
      { s.seq with
        mode := .runFeed, feedPort := some (s.stepAnswer r).counts
        step := some { graded := (s.stepAnswer r).graded, interval := (s.stepAnswer r).interval, stroked := false
                       retries := 0 } }
      (s.takeStep r).fca
      (if (s.stepAnswer r).clamped then { s.str with
        segments := modifyLast (fun g => g.setFlags PanelFlags.setCompLimit) s.str.segments } else s.str) := by
  unfold State.beginFeed
  dsimp only
  split <;> rfl

/-- The first step of a panel is computed from the residue that a panel opens with (R29). -/
theorem State.stepAnswer_panelOpened {s : State} {j : Job} (head : s.headJob = some j) (r : StepRecord) :
    (s.panelOpened j).stepAnswer r =
      { counts := (feedCounts (r.nominal j.grade) s.headFactor.1 s.resolution openingResidue).1
        graded := r.gradedFace j.grade, clamped := s.headFactor.2
        interval := minInterval s.headMinDwell (r.gradedFace j.grade) (s.tunnel - s.headLp) } := by
  rw [← State.headJobGrade_eq head]
  rfl

theorem State.takeStep_panelOpened {s : State} {j : Job} (head : s.headJob = some j) (r : StepRecord) :
    ((s.panelOpened j).takeStep r).fca =
      { s.fca with
        residue := (feedCounts (r.nominal j.grade) s.headFactor.1 s.resolution openingResidue).2
        lastG := some s.headFactor.1, lastClamped := s.headFactor.2, panelLp := some s.headLp } := by
  rw [← State.headJobGrade_eq head]
  rfl

/-- The segment that a panel opens (R88), with COMP_LIMIT as the first step's computation leaves it. -/
theorem Str.openSegment_compLimit (t : Str) (j : Job) (number id lp : Nat) (clamped : Bool) :
    (if clamped then { t.openSegment j number id lp with
        segments := modifyLast (fun g => g.setFlags PanelFlags.setCompLimit) (t.openSegment j number id lp).segments }
      else t.openSegment j number id lp) =
    { t with
      panelsBegun := t.panelsBegun + 1
      segments := t.segments ++
        [{ jobId := j.jobId, panelNumber := number, patternId := j.patternId, profileId := id, finished := lp
           b0 := t.commanded, b1 := none, strokes := 0, retries := 0, foldsMissed := 0, rawCounts := 0
           flags := { PanelFlags.none with compLimit := clamped }
           leadNeeded := decide (t.lastEnd ≠ some t.commanded), credit := 0, exposure := 0, minTemp := none
           maxTemp := none }] } := by
  cases clamped with
  | false => rfl
  | true =>
    simp only [Str.openSegment, modifyLast_append_singleton]
    rfl

/-- Settles O32: a target by `beginChunk_eq`, none by the panel's opening and its first feed. -/
theorem panelStartActs : Obligations.PanelStartActs := by
  refine ⟨?_, ?_⟩
  · intro s target found a
    rw [State.startPanel_of_target found]
    exact State.beginChunk_eq ((s.onFca fun f => { f with wasteResidue := 0 }).onSeq fun q =>
      { q with lastStrokeStart := none }) target
  · intro s noTarget free j head id named r first forming g fed
    rw [State.startPanel_of_no_target noTarget, State.openPanelNow_forming head free first forming, State.beginFeed_eq,
      State.stepAnswer_panelOpened head, State.takeStep_panelOpened head]
    have segment := Str.openSegment_compLimit s.str j (j.panelsDone + 1) id s.headLp g.2
    rw [← segment]
    simp only [State.panelOpened, named]
    rfl

end Sys2Proof.Machine
end

section
/-! SUPPORT. What the end of a WAIT in WASTE does (R35, R40, R54, R55): the chunk's index, and the panel start checked again, by
which the stay ends, feeds on or opens the panel. Settles O36. -/

namespace Sys2Proof.Machine

/-! ## The end of a stay (R40) -/

/-- A stay in WASTE ended, before the job may leave. -/
def State.stayEnded (s : State) : State :=
  s.withLine { s.seq with chunk := none, wasteTarget := none, lastStrokeStart := none } s.fca s.str

theorem State.headCancelPending_eq {s : State} {j : Job} (head : s.headJob = some j) :
    s.headCancelPending = j.cancelPending := by
  simp [State.headCancelPending, head]

theorem State.endStay_kept {s : State} (kept : s.headCancelPending = false) : s.endStay = s.stayEnded :=
  if_neg (by exact Bool.eq_false_iff.mp kept)

theorem State.endStay_cancelled {s : State} (cancelled : s.headCancelPending = true) : s.endStay =
    { s.stayEnded with
      seq := { s.stayEnded.seq with jobs := s.seq.jobs.tail }
      zsv := s.zonesFor s.seq.jobs.tail s.str.segments, evu := s.evu.raise .jobDone } := by
  have zones : s.stayEnded.zonesFor s.seq.jobs.tail s.str.segments = s.zonesFor s.seq.jobs.tail s.str.segments :=
    State.zsv_switchTest_withLine s { s.stayEnded.seq with jobs := s.seq.jobs.tail } _ _ rfl
  show (if s.headCancelPending = true then s.stayEnded.headLeaves else s.stayEnded) = _
  rw [if_pos cancelled, State.headLeaves_eq, ← zones]
  rfl

theorem State.held_headLeaves (s : State) : s.headLeaves.held = s.held := by
  rw [State.headLeaves_eq]
  refine State.held_congr rfl rfl rfl rfl ?_
  exact FaultsKept.anyZoneFault (fun i => faultsKept_switchTest (s.withLine { s.seq with jobs := s.seq.jobs.tail } s.fca
    { s.str with segments := s.str.segments }) i) rfl

theorem State.held_endStay (s : State) : s.endStay.held = s.held := by
  have ended : s.stayEnded.held = s.held := rfl
  show (if s.headCancelPending = true then s.stayEnded.headLeaves else s.stayEnded).held = _
  split
  · rw [State.held_headLeaves, ended]
  · exact ended

/-- The entry to ARMED reaches SEQ and EVU alone: no job leaves, no panel ends, no chunk begins, and no class is taken back. -/
theorem State.toArmed_frame (s : State) : s.toArmed.fca = s.fca ∧ s.toArmed.wtr = s.wtr ∧ s.toArmed.zsv = s.zsv
    ∧ s.toArmed.seq.jobs = s.seq.jobs ∧ s.toArmed.seq.openPanel = s.seq.openPanel
    ∧ (s.seq.chunk = none → s.toArmed.seq.chunk = none) ∧ (s.seq.wasteTarget = none → s.toArmed.seq.wasteTarget = none)
    ∧ ∀ i, s.evu.pendingSet.getLsbD i = true → s.toArmed.evu.pendingSet.getLsbD i = true := by
  rw [State.toArmed_eq]
  split
  · exact ⟨rfl, rfl, rfl, rfl, rfl, fun _ => rfl, fun _ => rfl, fun _ => id⟩
  · split
    · exact ⟨rfl, rfl, rfl, rfl, rfl, id, id, fun _ => Evu.raise_getLsbD_of_set .seqHold⟩
    · exact ⟨rfl, rfl, rfl, rfl, rfl, id, id, fun _ => id⟩

/-- What the end of a stay leaves, in all but the jobs, ZSV and the notices. -/
theorem State.endStay_frame (s : State) : s.endStay.seq.chunk = none ∧ s.endStay.seq.wasteTarget = none
    ∧ s.endStay.seq.openPanel = s.seq.openPanel ∧ s.endStay.str = s.str ∧ s.endStay.fca = s.fca ∧ s.endStay.wtr = s.wtr
    ∧ s.endStay.seq.wasteTotal = s.seq.wasteTotal ∧ s.endStay.seq.feedTotal = s.seq.feedTotal := by
  cases cancelled : s.headCancelPending with
  | false =>
    rw [State.endStay_kept cancelled]
    exact ⟨rfl, rfl, rfl, rfl, rfl, rfl, rfl, rfl⟩
  | true =>
    rw [State.endStay_cancelled cancelled]
    exact ⟨rfl, rfl, rfl, rfl, rfl, rfl, rfl, rfl⟩

/-- A head job that is not cancel-pending stays (R40). -/
theorem State.endStay_jobs_of_kept {s : State} (kept : s.headCancelPending = false) :
    s.endStay.seq.jobs = s.seq.jobs ∧ s.endStay.zsv = s.zsv := by
  rw [State.endStay_kept kept]
  exact ⟨rfl, rfl⟩

/-- A cancel-pending head job leaves with JOB_DONE, and the zone profile is tested for the next (R40, R105). -/
theorem State.endStay_jobs_of_cancelled {s : State} (cancelled : s.headCancelPending = true) :
    s.endStay.seq.jobs = s.seq.jobs.tail ∧ s.endStay.evu.pendingSet.getLsbD 2 = true
      ∧ s.endStay.zsv = s.zonesFor s.seq.jobs.tail s.str.segments := by
  rw [State.endStay_cancelled cancelled]
  exact ⟨rfl, Evu.raise_getLsbD_self s.evu .jobDone, rfl⟩

/-! ## The check made again (R54) -/

/-- The repeated check gives up: ZONES, SEGMENTS or FABRIC is unmet, or the head job is cancel-pending. -/
def State.givesUp (s : State) (job : Job) (id : Nat) : Prop :=
  ¬((∀ i ∈ s.zoneNumbers, (s.zone i).state = .ready) ∧ s.zsv.profile = some id)
  ∨ 64 ≤ s.str.segments.length ∨ job.cancelPending = true
  ∨ (s.wtr.headFabric ≠ some id ∧ ∀ m ∈ s.wtr.marks, m.kind = .splice id → m.coord ≤ s.headCoord)

theorem State.headJobProfileId_eq {s : State} {job : Job} (head : s.headJob = some job) :
    s.headJobProfileId = (s.pst.pattern job.patternId).profileId := by
  simp [State.headJobProfileId, head]

section
variable {s : State} {job : Job} {id : Nat} (head : s.headJob = some job)
  (named : (s.pst.pattern job.patternId).profileId = some id)
include head named

theorem State.zonesUnmet_iff : s.zonesUnmet = true ↔
    ¬((∀ i ∈ s.zoneNumbers, (s.zone i).state = .ready) ∧ s.zsv.profile = some id) := by
  simp only [State.zonesUnmet_eq, State.headJobProfileId_eq head, named, Bool.not_eq_true', decide_eq_false_iff_not, ne_eq,
    reduceCtorEq, not_false_eq_true, true_and]

theorem State.fabricUnmet_iff : s.fabricUnmet = true ↔
    s.wtr.headFabric ≠ some id ∧ ∀ m ∈ s.wtr.marks, m.kind = .splice id → m.coord ≤ s.headCoord := by
  simp [State.fabricUnmet_eq, State.headJobProfileId_eq head, named, imp_not_comm]

theorem State.givesUp_iff :
    (s.zonesUnmet || s.segmentsUnmet || s.headCancelPending || s.fabricUnmet) = true ↔ s.givesUp job id := by
  have segments : s.segmentsUnmet = true ↔ 64 ≤ s.str.segments.length := decide_eq_true_iff
  simp only [Bool.or_eq_true, State.zonesUnmet_iff head named, State.fabricUnmet_iff head named, segments,
    State.headCancelPending_eq head, State.givesUp, or_assoc]

theorem State.repeatCheck_of_givesUp (up : s.givesUp job id) : s.repeatCheck = s.endStay.toArmed :=
  if_pos ((State.givesUp_iff head named).mpr up)

theorem State.repeatCheck_of_target (on : ¬s.givesUp job id) {x : Int} (target : s.newTarget = some x) :
    s.repeatCheck = s.beginChunk x := by
  rw [State.repeatCheck, if_neg (mt (State.givesUp_iff head named).mp on), target]

theorem State.repeatCheck_of_no_target (on : ¬s.givesUp job id) (noTarget : s.newTarget = none) :
    s.repeatCheck = s.startPanel := by
  rw [State.repeatCheck, if_neg (mt (State.givesUp_iff head named).mp on), noTarget,
    State.startPanel_of_no_target noTarget]

end

/-! ## WASTE_WAIT_END -/

/-- Not held, a WAIT that has run in WASTE ends, and a standing trigger is taken. -/
theorem State.settle_of_wasteWait {s : State} (mode : s.seq.mode = .wasteWait) (free : s.held = false)
    (run : s.waitExpiry ≤ s.clock) : s.settle = s.endWasteWait.armedStart := by
  have hold : s.takeHold = s := by simp [State.takeHold, free]
  have leave : s.leaveHold = s := by simp [State.leaveHold, mode]
  have step : s.waitStep = s.endWasteWait := by simp [State.waitStep, mode, run]
  rw [State.settle, hold, leave, step]

/-- A chunk taken to the belt: its index asked for, the waste total advanced, the stroke start now. -/
def State.chunkIndexed (s : State) (c : ChunkRun) : State :=
  s.withLine
    { s.seq with lastStrokeStart := some s.clock, wasteTotal := s.seq.wasteTotal + c.index, chunk := none } s.fca
    (s.str.request c.index)

/-- With the head at the waste target, the panel start is checked again. -/
theorem State.endWasteWait_at_target {s : State} {c : ChunkRun} {target : Int} (chunk : s.seq.chunk = some c)
    (aim : s.seq.wasteTarget = some target) (there : target ≤ s.headCoord) :
    s.endWasteWait = (s.chunkIndexed c).repeatCheck := by
  simp only [State.endWasteWait, chunk, aim]
  exact if_pos there

theorem exec_wasteWaitEnd {s : State} (mode : s.seq.mode = .wasteWait) :
    exec .wasteWaitEnd s = .next (s.reach s.waitExpiry).settle :=
  congrArg Host.Outcome.next (if_pos mode)

/-- Settles O36: the WAIT's end by `endWasteWait_at_target`, then the three outcomes of `repeatCheck`. -/
theorem wasteRechecked : Obligations.WasteRechecked := by
  refine ⟨?_, ?_⟩
  · intro s c target mode free chunk aim there now
    have expiry : now = max s.clock s.waitExpiry := by
      simp only [now, State.waitExpiry, State.waitInterval, mode, chunk]
      cases s.seq.lastStrokeStart <;> rfl
    rw [exec_wasteWaitEnd mode, State.settle_of_wasteWait (s := s.reach s.waitExpiry) mode free (le_max_right _ _),
      State.endWasteWait_at_target (s := s.reach s.waitExpiry) chunk aim there, expiry]
    rfl
  · intro s job id head named givenUp
    refine ⟨fun up => ?_, fun on x target => ?_, fun on => State.repeatCheck_of_no_target head named on⟩
    · rw [State.repeatCheck_of_givesUp head named up]
      obtain ⟨fca, wtr, zones, jobs, panel, chunk, target, notices⟩ := s.endStay.toArmed_frame
      obtain ⟨feed, waste, str⟩ := s.endStay.toArmed_keeps
      obtain ⟨chunk', target', panel', str', fca', wtr', waste', feed'⟩ := s.endStay_frame
      have mode := s.endStay.toArmed_mode
      rw [State.held_endStay] at mode
      refine ⟨chunk chunk', target target', panel.trans panel', str.trans str', fca.trans fca', wtr.trans wtr',
        waste.trans waste', feed.trans feed', mode, fun kept => ?_, fun cancelled => ?_⟩
      · obtain ⟨jobs', zones'⟩ := State.endStay_jobs_of_kept ((State.headCancelPending_eq head).trans kept)
        exact ⟨jobs.trans jobs', zones.trans zones'⟩
      · obtain ⟨jobs', done, zones'⟩ := State.endStay_jobs_of_cancelled ((State.headCancelPending_eq head).trans cancelled)
        exact ⟨jobs.trans jobs', notices 2 done, zones.trans zones'⟩
    · rw [State.repeatCheck_of_target head named on target]
      exact State.beginChunk_eq s x

end Sys2Proof.Machine
end

section
/-! SUPPORT. What RCU takes from the accumulator (R145, R146, R149), a change that its station breaks (R153, R155), and when SEQ
is held (R43). Settles O53. -/

namespace Sys2Proof.Machine

/-! ## A broken change (R153, R155) -/

theorem State.restartable_eq (s : State) (u : UnwindId) :
    s.restartable u = ((s.rcu.unwind u).state == .active && (s.station u.station).state != .lost) := rfl

theorem ChangePhase.beforeSplice_eq (p : ChangePhase) :
    p.beforeSplice = (p == .filling || p == .stopping || p == .splicing) := by
  cases p <;> rfl

/-- What breaks a change reverts it before its splice, and fails it after. -/
theorem State.breakChange_eq (s : State) (cause : ChangeCause) : s.breakChange cause = s.changeBroken cause := by
  unfold State.breakChange State.changeBroken
  cases change : s.rcu.change with
  | none => rfl
  | some c =>
    dsimp only
    rw [← ChangePhase.beforeSplice_eq, ← State.restartable_eq]
    cases early : c.phase.beforeSplice with
    | false =>
      simp [State.failChange, State.addRoll, State.endChange, State.raise, State.onSeq, State.onRcu, State.onEvu, change]
    | true =>
      cases runs : s.restartable c.old <;>
        simp [State.revertChange, runs, State.addRoll, State.endChange, State.raise, State.onSeq, State.onRcu, State.onEvu,
          change]

/-! ## The accumulator's notices and readings (R145, R146, R149) -/

theorem Condition.starves_eq (c : Condition) (was : Bool) :
    (was || c == .stale || c == .lost) = (was || decide (c = .stale ∨ c = .lost)) := by
  cases was <;> cases c <;> decide

/-- The change after a reading: FILLING ends at the splice level, with STOPPING's deadline from `now`. -/
def Rcu.changeAtStock (r : Rcu) (now stock : Nat) : Option Change :=
  match r.change with
  | none => none
  | some c =>
    if c.phase = .filling ∧ r.settings.spliceLevel ≤ stock then
      some { c with phase := .stopping, deadline := now + r.settings.stoppingS * 1000 }
    else some c

theorem State.fillingTest_eq (s : State) (stock : Nat) :
    s.fillingTest stock = { s with rcu := { s.rcu with change := s.rcu.changeAtStock s.clock stock } } := by
  have stands (kept : s.rcu.changeAtStock s.clock stock = s.rcu.change) :
      s = { s with rcu := { s.rcu with change := s.rcu.changeAtStock s.clock stock } } := by rw [kept]
  cases change : s.rcu.change with
  | none =>
    simp only [State.fillingTest, change]
    exact stands (by simp only [Rcu.changeAtStock, change])
  | some c =>
    by_cases full : c.phase = .filling ∧ s.rcu.settings.spliceLevel ≤ stock
    · simp only [State.fillingTest, Rcu.changeAtStock, change, if_pos full, State.enterPhase, State.onRcu, Option.map_some,
        RollSettings.timeout]
    · simp only [State.fillingTest, change, if_neg full]
      exact stands (by simp only [Rcu.changeAtStock, change, if_neg full])

/-- The delivery of a tension does not read RCU. -/
theorem State.deliverTension_onRcu (s : State) (f : Rcu → Rcu) (tension : Nat) :
    (s.onRcu f).deliverTension tension = (s.deliverTension tension).onRcu f := by
  have head : (s.onRcu f).headJobProfile = s.headJobProfile := rfl
  unfold State.deliverTension
  rw [head]
  cases s.headJobProfile <;> rfl

/-- A reading as one state: T, the accumulator's record and the change. -/
theorem State.accumulatorReading_eq (s : State) (stock tension : Nat) : s.accumulatorReading stock tension =
    { s.deliverTension tension with rcu := { s.rcu with
      change := s.rcu.changeAtStock s.clock stock
      acc := { s.rcu.acc with
        stock := stock, tension := some tension
        starved := starvedAfter s.rcu.settings stock s.rcu.acc.starved } } } := by
  unfold State.accumulatorReading
  rw [State.fillingTest_eq, State.deliverTension_onRcu, State.deliverTension_kept]
  rfl

/-! ## When SEQ is held (R43) -/

theorem State.anyZoneFault_iff (s : State) :
    s.anyZoneFault = true ↔ ∃ i ∈ s.zoneNumbers, (s.zone i).state = .fault := by
  simp [State.anyZoneFault]

theorem State.held_iff (s : State) : s.held = true ↔ s.seq.hostHold = true ∨ s.rcu.acc.starved = true
    ∨ s.seq.silentHold = true ∨ (∃ i ∈ s.zoneNumbers, (s.zone i).state = .fault) ∨ s.seq.rollHold = true := by
  simp only [State.held, State.holdReasons, HoldReasons.any, Bool.or_eq_true, State.anyZoneFault_iff, or_assoc]

/-- Settles O53: the notice by `breakChange_eq`, the reading as one state, and a held SEQ by `settle_of_held`. -/
theorem accumulatorTaken : Obligations.AccumulatorTaken := by
  intro s
  refine ⟨?_, ?_, s.held_iff, State.settle_of_held⟩
  · intro c t
    have stored : (s.onRcu fun r => { r with acc := { r.acc with
        station := c, starved := r.acc.starved || c == .stale || c == .lost } }) = t := by
      simp only [State.onRcu, Condition.starves_eq, t]
    refine ⟨fun stays => ?_, fun lost => ?_⟩
    · rw [← stored]
      exact if_neg stays
    · rw [← State.breakChange_eq, ← stored]
      exact if_pos lost
  · intro stock tension r t change
    have reading : t = _ := s.accumulatorReading_eq stock tension
    refine ⟨reading, ?_⟩
    rw [reading, s.deliverTension_kept tension]
    rfl

end Sys2Proof.Machine
end

section
/-! SUPPORT. What the start tests make of the zones (R124), and LINE RESET on one zone (R120, R136), on the rolls (R158) and on the
whole part (R202). Settles O9. -/

namespace Sys2Proof.Machine

/-! ## The start tests, zone by zone (R124) -/

/-- `t` is `s` with another table of zones. -/
def ZoneTableOnly (s t : State) : Prop := t = { s with zsv := { s.zsv with zones := t.zsv.zones } }

theorem ZoneTableOnly.refl (s : State) : ZoneTableOnly s s := rfl

theorem ZoneTableOnly.trans {s t u : State} (h : ZoneTableOnly s t) (k : ZoneTableOnly t u) : ZoneTableOnly s u := by
  unfold ZoneTableOnly at *
  rw [k]
  simp only
  rw [h]

theorem ZoneTableOnly.zsv {s t : State} (h : ZoneTableOnly s t) : t.zsv = { s.zsv with zones := t.zsv.zones } := by
  unfold ZoneTableOnly at h
  rw [h]

theorem ZoneTableOnly.clock {s t : State} (h : ZoneTableOnly s t) : t.clock = s.clock := by
  unfold ZoneTableOnly at h
  rw [h]

theorem ZoneTableOnly.purgeDuration {s t : State} (h : ZoneTableOnly s t) : t.zsv.purgeDuration = s.zsv.purgeDuration := by
  unfold ZoneTableOnly at h
  rw [h]

theorem zoneTableOnly_startTest (s : State) (i : Nat) : ZoneTableOnly s (s.startTest i) := by
  unfold State.startTest
  dsimp only
  split
  · split <;> rfl
  · rfl

theorem zoneTableOnly_foldl_startTest (l : List Nat) (s : State) : ZoneTableOnly s (l.foldl State.startTest s) := by
  induction l generalizing s with
  | nil => exact .refl s
  | cons i rest ih => exact (zoneTableOnly_startTest s i).trans (ih _)

/-- What the start test makes of a zone, at `now` with purges of `duration` seconds. -/
def Zone.tested (now duration : Nat) (z : Zone) : Zone :=
  if z.purgePending && !z.occupied then
    match z.state with
    | .ready => z.purgeStarted .ready now duration
    | .standby => z.purgeStarted .standby now duration
    | _ => z
  else z

/-- A zone with a purge pending has an entry, which the start of its purge changes. -/
theorem State.zone_beginPurge {s : State} {i : Nat} (pending : (s.zone i).purgePending = true) (r : ZoneReturn) :
    (s.beginPurge i r).zone i = (s.zone i).purgeStarted r s.clock s.zsv.purgeDuration := by
  obtain ⟨low, high⟩ := s.entry_of_zone_ne (i := i) fun off => by rw [off] at pending; cases pending
  exact s.zone_onZone_same _ low high

theorem State.zone_startTest_same (s : State) (i : Nat) :
    (s.startTest i).zone i = (s.zone i).tested s.clock s.zsv.purgeDuration := by
  unfold State.startTest Zone.tested
  dsimp only
  split
  · next due =>
    have pending := (Bool.and_eq_true_iff.mp due).1
    cases (s.zone i).state with
    | ready | standby => exact State.zone_beginPurge pending _
    | off | warming | purging | calibrating | fault => rfl
  · rfl

theorem State.zone_startTest_other (s : State) {i j : Nat} (other : j ≠ i) : (s.startTest i).zone j = s.zone j := by
  unfold State.startTest
  dsimp only
  split
  · split <;> first | exact s.zone_onZone_other _ other | rfl
  · rfl

/-- Each zone named once is tested, and the others stand. -/
theorem State.zone_foldl_startTest {l : List Nat} (once : l.Nodup) (s : State) (j : Nat) :
    (l.foldl State.startTest s).zone j =
      if j ∈ l then (s.zone j).tested s.clock s.zsv.purgeDuration else s.zone j := by
  induction l generalizing s with
  | nil => rfl
  | cons i rest ih =>
    obtain ⟨fresh, once⟩ := List.nodup_cons.mp once
    have table := zoneTableOnly_startTest s i
    rw [List.foldl_cons, ih once, table.clock, table.purgeDuration]
    by_cases same : j = i
    · subst same
      rw [if_neg fresh, if_pos List.mem_cons_self, State.zone_startTest_same]
    · rw [s.zone_startTest_other same]
      simp [same]

theorem State.zone_startTests (s : State) (i : Nat) : s.startTests.zone i =
    if 1 ≤ i ∧ i ≤ s.zoneCount then (s.zone i).tested s.clock s.zsv.purgeDuration else s.zone i := by
  have named : i ∈ s.zoneNumbers ↔ 1 ≤ i ∧ i ≤ s.zoneCount := by
    rw [State.zoneNumbers, List.mem_range'_1]
    omega
  have once : s.zoneNumbers.Nodup := List.nodup_range'
  rw [State.startTests, State.zone_foldl_startTest once, if_congr named rfl rfl]

/-! ## One zone at LINE RESET (R107, R120, R136) -/

/-- The zone with the standby setpoint of the zone profile, where there is one. -/
def Zone.stood (p : Option Profile) (z : Zone) : Zone :=
  match p with
  | none => z
  | some q => z.takeSetpoint q (q.setpointFor .standby)

theorem Zone.takes_takeSetpoint (p : Profile) (sp : Int) (z : Zone) : z.takes p sp (z.takeSetpoint p sp) := by
  unfold Zone.takes Zone.takeSetpoint
  split
  · next stands => exact ⟨fun changes => absurd stands changes, fun _ => ⟨rfl, rfl, rfl⟩⟩
  · next changes => exact ⟨fun _ => z.aimed_retarget p sp, fun stands => absurd stands changes⟩

/-- R107 speaks of the setpoint, the limit and its lowering alone. -/
theorem Zone.takes_congr {p : Profile} {sp : Int} {z t u : Zone} (setpoint : u.setpoint = t.setpoint)
    (limit : u.limit = t.limit) (lowering : u.lowering = t.lowering) (h : z.takes p sp t) : z.takes p sp u := by
  unfold Zone.takes Zone.aimed at *
  rw [setpoint, limit, lowering]
  exact h

/-- A setpoint brings a limit with it, and nothing else of the zone changes. -/
theorem Zone.takeSetpoint_frame (p : Profile) (sp : Int) (z : Zone) : ∃ setpoint limit lowering,
    z.takeSetpoint p sp = { z with setpoint := setpoint, limit := limit, lowering := lowering } := by
  unfold Zone.takeSetpoint Zone.retarget
  dsimp only
  split_ifs <;> exact ⟨_, _, _, rfl⟩

/-- The standby setpoint and its limit, as R107 gives them. -/
theorem Zone.stood_spec (p : Option Profile) (z : Zone) : ∃ setpoint limit lowering,
    z.stood p = { z with setpoint := setpoint, limit := limit, lowering := lowering }
    ∧ (p = none → setpoint = z.setpoint ∧ limit = z.limit ∧ lowering = z.lowering)
    ∧ ∀ q, p = some q → z.takes q ((q.setTemp : Int) - q.standbyDrop)
        { z with setpoint := setpoint, limit := limit, lowering := lowering } := by
  cases p with
  | none => exact ⟨z.setpoint, z.limit, z.lowering, rfl, fun _ => ⟨rfl, rfl, rfl⟩, nofun⟩
  | some q =>
    obtain ⟨setpoint, limit, lowering, frame⟩ := z.takeSetpoint_frame q (q.setpointFor .standby)
    refine ⟨setpoint, limit, lowering, frame, nofun, fun r same => ?_⟩
    obtain rfl := Option.some.inj same
    rw [← frame]
    exact z.takes_takeSetpoint q _

/-- The zone standing by with a setpoint and its limit, its purge as it was. -/
def Zone.standsBy (setpoint limit : Option Int) (lowering : Bool) (z : Zone) : Zone :=
  { z with
    state := .standby, setpoint := setpoint, limit := limit, lowering := lowering, ret := none, settle := .stopped
    purgeEnd := none, occupied := false }

/-- A purge is pending or in progress. -/
def Zone.purges (z : Zone) : Prop := z.purgePending = true ∨ z.state = .purging

theorem Zone.lineReset_cold {z : Zone} (cold : z.state = .off ∨ z.state = .fault) (now grace : Nat) (p : Option Profile) :
    z.lineReset now grace p = { z with occupied := false } := by
  unfold Zone.lineReset
  rcases cold with off | fault
  · rw [off]
  · rw [fault]

theorem Zone.lineReset_heating {z : Zone} (off : z.state ≠ .off) (fault : z.state ≠ .fault) (now grace : Nat)
    (p : Option Profile) : z.lineReset now grace p =
      { z.stood p with
        state := .standby, ret := none, settle := .stopped, occupied := false, purgeEnd := none
        purgePending := z.purgePending || z.state == .purging
        forceTime := if z.state = .purging then some (now + grace * 1000) else z.forceTime } := by
  unfold Zone.lineReset
  cases state : z.state with
  | off => exact absurd state off
  | fault => exact absurd state fault
  | warming | ready | standby | purging | calibrating => rfl

/-- A heating zone stands by; a purge pending or in progress is pending after it, one in progress with a new force time. -/
theorem Zone.lineReset_spec {z : Zone} (off : z.state ≠ .off) (fault : z.state ≠ .fault) (now grace : Nat)
    (p : Option Profile) : ∃ setpoint limit lowering,
      (¬z.purges → z.lineReset now grace p = z.standsBy setpoint limit lowering)
      ∧ (z.purges → z.lineReset now grace p = { z.standsBy setpoint limit lowering with
          purgePending := true
          forceTime := if z.state = .purging then some (now + grace * 1000) else z.forceTime })
      ∧ (p = none → setpoint = z.setpoint ∧ limit = z.limit ∧ lowering = z.lowering)
      ∧ ∀ q, p = some q →
          z.takes q ((q.setTemp : Int) - q.standbyDrop) (z.standsBy setpoint limit lowering) := by
  obtain ⟨setpoint, limit, lowering, stood, kept, aimed⟩ := z.stood_spec p
  refine ⟨setpoint, limit, lowering, fun idle => ?_, fun purges => ?_, kept, aimed⟩
  · obtain ⟨pending, purging⟩ := not_or.mp idle
    rw [Zone.lineReset_heating off fault, stood, if_neg purging]
    simp [Zone.standsBy, pending, purging]
  · have pends : (z.purgePending || z.state == .purging) = true := by simpa [Zone.purges] using purges
    rw [Zone.lineReset_heating off fault, stood, pends]
    rfl

theorem Zone.tested_cold {z : Zone} (cold : z.state = .off ∨ z.state = .fault) (now duration : Nat) :
    z.tested now duration = z := by
  unfold Zone.tested
  rcases cold with off | fault
  · rw [off, ite_self]
  · rw [fault, ite_self]

theorem Zone.tested_of_not_pending {z : Zone} (pending : z.purgePending = false) (now duration : Nat) :
    z.tested now duration = z := by
  simp [Zone.tested, pending]

theorem Zone.tested_of_standby {z : Zone} (pending : z.purgePending = true) (free : z.occupied = false)
    (standby : z.state = .standby) (now duration : Nat) : z.tested now duration = z.purgeStarted .standby now duration := by
  simp [Zone.tested, pending, free, standby]

/-! ## The rolls (R158) -/

/-- A change in FILLING or STOPPING, which LINE RESET reverts. -/
def Rcu.reverts (r : Rcu) : Prop := ∃ c, r.change = some c ∧ (c.phase = .filling ∨ c.phase = .stopping)

/-- An ACTIVE unwind SPENT, and the rest of a scan cycle in progress marked to brake it. -/
def Rcu.spent (r : Rcu) (polling : Bool) : Rcu :=
  { r with
    unwindA := r.unwindA.spend, unwindB := r.unwindB.spend
    brakeSpent := r.brakeSpent || ((r.unwindA.state == .active || r.unwindB.state == .active) && polling) }

theorem Rcu.isSome_activeUnwind (r : Rcu) :
    r.activeUnwind.isSome = (r.unwindA.state == .active || r.unwindB.state == .active) := by
  unfold Rcu.activeUnwind
  by_cases a : r.unwindA.state = .active <;> by_cases b : r.unwindB.state = .active <;> simp [a, b]

theorem State.spendUnwinds_eq (s : State) :
    (s.onRcu fun r => { r with brakeSpent := r.brakeSpent || (r.activeUnwind.isSome && !s.slm.toPoll.isEmpty) }).spendUnwinds
      = { s with rcu := s.rcu.spent !s.slm.toPoll.isEmpty } := by
  rw [Rcu.spent, ← Rcu.isSome_activeUnwind]
  rfl

theorem State.rollsLineReset_of_reverts {s : State} {c : Change} (change : s.rcu.change = some c)
    (early : c.phase = .filling ∨ c.phase = .stopping) : s.rollsLineReset =
      { s with
        rcu := { s.rcu.spent !s.slm.toPoll.isEmpty with
          change := none, outcome := .reverted, outcomePhase := some c.phase, outcomeCause := some .reset }
        evu := s.evu.raise .changeAbort } := by
  have ended := State.spendUnwinds_eq ((s.endChange .reverted (some .reset)).raise .changeAbort)
  have phase : s.rcu.change.map Change.phase = some c.phase := by rw [change]; rfl
  simp only [State.rollsLineReset, change, if_pos early]
  rw [← phase]
  exact ended

theorem State.rollsLineReset_of_not_reverts {s : State} (stands : ¬s.rcu.reverts) :
    s.rollsLineReset = { s with rcu := s.rcu.spent !s.slm.toPoll.isEmpty } := by
  have spent := s.spendUnwinds_eq
  unfold State.rollsLineReset
  cases change : s.rcu.change with
  | none => exact spent
  | some c =>
    dsimp only
    rw [if_neg fun early => stands ⟨c, change, early⟩]
    exact spent

/-! ## The whole part (R202) -/

/-- The blocks that LINE RESET sets whole: SEQ, FCA, WTR and STR. -/
def State.blocksReset (s : State) : State :=
  (((s.onSeq Seq.lineReset).onFca fun _ => Fca.powerOn).onWtr Wtr.lineReset).onStr Str.lineReset

/-- The blocks reset, with the zones' own reset made and no start test. -/
def State.zonesReset (s : State) : State :=
  s.blocksReset.onZsv fun v => { v with
    calQueue := [], reference := none
    zones := v.zones.map (Zone.lineReset s.clock v.purgeGrace s.zoneProfile) }

theorem State.resetLine_eq (s : State) : s.resetLine = s.zonesReset.startTests.rollsLineReset := rfl

theorem entryAt_map {α β : Type} (f : α → β) (l : List α) (n : Nat) : entryAt (l.map f) n = (entryAt l n).map f := by
  cases n with
  | zero => rfl
  | succ k => exact List.getElem?_map

theorem State.zone_zonesReset (s : State) (i : Nat) :
    s.zonesReset.zone i = (s.zone i).lineReset s.clock s.zsv.purgeGrace s.zoneProfile := by
  show (entryAt (s.zsv.zones.map _) i).getD Zone.powerOn = _
  rw [entryAt_map, State.zone]
  cases entryAt s.zsv.zones i <;> rfl

/-- ZSV after the reset and the start tests: the table of zones, no queue, a free reference. -/
theorem State.zsv_zonesReset_startTests (s : State) : s.zonesReset.startTests.zsv =
    { s.zsv with zones := s.zonesReset.startTests.zsv.zones, calQueue := [], reference := none } :=
  (zoneTableOnly_foldl_startTest s.zonesReset.zoneNumbers s.zonesReset).zsv

theorem State.resetLine_of_reverts {s : State} {c : Change} (change : s.rcu.change = some c)
    (early : c.phase = .filling ∨ c.phase = .stopping) : s.resetLine =
      { s.blocksReset with
        zsv := s.zonesReset.startTests.zsv
        rcu := { s.rcu.spent !s.slm.toPoll.isEmpty with
          change := none, outcome := .reverted, outcomePhase := some c.phase, outcomeCause := some .reset }
        evu := s.evu.raise .changeAbort } := by
  have tests : s.zonesReset.startTests = { s.zonesReset with zsv := s.zonesReset.startTests.zsv } :=
    zonesOnly_startTests s.zonesReset
  rw [State.resetLine_eq, tests]
  exact State.rollsLineReset_of_reverts (s := { s.zonesReset with zsv := s.zonesReset.startTests.zsv }) change early

theorem State.resetLine_of_not_reverts {s : State} (stands : ¬s.rcu.reverts) : s.resetLine =
    { s.blocksReset with
      zsv := s.zonesReset.startTests.zsv, rcu := s.rcu.spent !s.slm.toPoll.isEmpty } := by
  have tests : s.zonesReset.startTests = { s.zonesReset with zsv := s.zonesReset.startTests.zsv } :=
    zonesOnly_startTests s.zonesReset
  rw [State.resetLine_eq, tests]
  exact State.rollsLineReset_of_not_reverts (s := { s.zonesReset with zsv := s.zonesReset.startTests.zsv }) stands

/-- The reset in every case: what is left open is the change and its outcome, and CHANGE_ABORT. -/
theorem State.resetLine_frame (s : State) : s.resetLine =
    { s.blocksReset with
      zsv := s.zonesReset.startTests.zsv
      rcu := { s.rcu.spent !s.slm.toPoll.isEmpty with
        change := s.resetLine.rcu.change, outcome := s.resetLine.rcu.outcome
        outcomePhase := s.resetLine.rcu.outcomePhase, outcomeCause := s.resetLine.rcu.outcomeCause }
      evu := s.resetLine.evu } := by
  by_cases reverts : s.rcu.reverts
  · obtain ⟨c, change, early⟩ := reverts
    rw [State.resetLine_of_reverts change early]
  · rw [State.resetLine_of_not_reverts reverts]

theorem State.zone_resetLine (s : State) (i : Nat) : s.resetLine.zone i =
    let z := (s.zone i).lineReset s.clock s.zsv.purgeGrace s.zoneProfile
    if 1 ≤ i ∧ i ≤ s.zoneCount then z.tested s.clock s.zsv.purgeDuration else z := by
  have tests := s.zonesReset.zone_startTests i
  rw [State.zone_zonesReset] at tests
  rw [State.resetLine_frame]
  exact tests

theorem exec_lineReset (tag : BitVec 16) {s : State} (taken : s.taken) :
    exec (.lineReset tag []) s = .next (s.restartSilence.resetLine.pushReply 0x07#8 tag [0x00#8]) :=
  congrArg Host.Outcome.next (hostRequest_taken 0x07#8 .configuredOnly handleLineReset tag [] taken)

/-- A cold zone keeps all but its occupancy (R120). -/
theorem State.zone_resetLine_cold {s : State} {i : Nat} (cold : (s.zone i).state = .off ∨ (s.zone i).state = .fault) :
    s.resetLine.zone i = { s.zone i with occupied := false } := by
  rw [State.zone_resetLine, Zone.lineReset_cold cold]
  dsimp only
  split
  · exact Zone.tested_cold (z := { s.zone i with occupied := false }) cold ..
  · rfl

/-- A heating zone stands by (R120), or has its purge begun where the start tests reach it (R136). -/
theorem State.zone_resetLine_heating {s : State} {i : Nat} (off : (s.zone i).state ≠ .off)
    (fault : (s.zone i).state ≠ .fault) : ∃ setpoint limit lowering,
      (¬(s.zone i).purges → s.resetLine.zone i = (s.zone i).standsBy setpoint limit lowering)
      ∧ ((s.zone i).purges → 1 ≤ i ∧ i ≤ s.zoneCount → s.resetLine.zone i =
          ((s.zone i).standsBy setpoint limit lowering).purgeStarted .standby s.clock s.zsv.purgeDuration)
      ∧ ((s.zone i).purges → ¬(1 ≤ i ∧ i ≤ s.zoneCount) → s.resetLine.zone i =
          { (s.zone i).standsBy setpoint limit lowering with
            purgePending := true
            forceTime := if (s.zone i).state = .purging then some (s.clock + s.zsv.purgeGrace * 1000)
              else (s.zone i).forceTime })
      ∧ (s.zoneProfile = none →
          setpoint = (s.zone i).setpoint ∧ limit = (s.zone i).limit ∧ lowering = (s.zone i).lowering)
      ∧ ∀ p, s.zoneProfile = some p → (s.zone i).takes p ((p.setTemp : Int) - p.standbyDrop)
          ((s.zone i).standsBy setpoint limit lowering) := by
  obtain ⟨setpoint, limit, lowering, idle, purging, kept, aimed⟩ :=
    Zone.lineReset_spec off fault s.clock s.zsv.purgeGrace s.zoneProfile
  refine ⟨setpoint, limit, lowering, fun rests => ?_, fun purges within => ?_, fun purges beyond => ?_, kept, aimed⟩
  · have pending : ((s.zone i).standsBy setpoint limit lowering).purgePending = false :=
      Bool.eq_false_iff.mpr (not_or.mp rests).1
    rw [State.zone_resetLine, idle rests]
    dsimp only
    rw [Zone.tested_of_not_pending pending, ite_self]
  · rw [State.zone_resetLine, purging purges]
    dsimp only
    rw [if_pos within]
    exact Zone.tested_of_standby rfl rfl rfl ..
  · rw [State.zone_resetLine, purging purges]
    exact if_neg beyond

/-- Settles O9: the blocks by `resetLine_frame`, the zones by `zone_resetLine`, the change by whether it is reverted. -/
theorem lineResetClears : Obligations.LineResetClears := by
  intro tag s taken
  refine ⟨s.restartSilence.resetLine, exec_lineReset tag taken, ?_, ?_, ?_, ?_, ?_⟩
  · have frame := s.restartSilence.resetLine_frame
    generalize s.restartSilence.resetLine = t at frame
    rw [frame, State.zsv_zonesReset_startTests]
    rfl
  · intro i z new pends stood
    refine ⟨fun cold => State.zone_resetLine_cold (s := s.restartSilence) cold, fun off fault => ?_⟩
    obtain ⟨setpoint, limit, lowering, idle, within, beyond, kept, aimed⟩ :=
      State.zone_resetLine_heating (s := s.restartSilence) off fault
    have limits : new.setpoint = setpoint ∧ new.limit = limit ∧ new.lowering = lowering := by
      by_cases purges : pends
      · by_cases inside : 1 ≤ i ∧ i ≤ s.zoneCount
        · rw [show new = _ from within purges inside]
          exact ⟨rfl, rfl, rfl⟩
        · rw [show new = _ from beyond purges inside]
          exact ⟨rfl, rfl, rfl⟩
      · rw [show new = _ from idle purges]
        exact ⟨rfl, rfl, rfl⟩
    obtain ⟨newSetpoint, newLimit, newLowering⟩ := limits
    have stands : stood = z.standsBy setpoint limit lowering := by
      simp only [stood, newSetpoint, newLimit, newLowering, Zone.standsBy]
    rw [newSetpoint, newLimit, newLowering, stands]
    exact ⟨idle, fun purges low high => within purges ⟨low, high⟩, beyond, kept, fun p profile =>
      Zone.takes_congr newSetpoint newLimit newLowering (aimed p profile)⟩
  · intro c change
    refine ⟨fun early => ?_, fun filling stopping => ?_⟩
    · rw [State.resetLine_of_reverts (s := s.restartSilence) change early]
      exact ⟨rfl, rfl, rfl, rfl, rfl⟩
    · have stands : ¬s.restartSilence.rcu.reverts := fun ⟨d, same, early⟩ => by
        obtain rfl := Option.some.inj (change.symm.trans same)
        exact early.elim filling stopping
      rw [State.resetLine_of_not_reverts stands]
      exact ⟨change, rfl, rfl, rfl, rfl⟩
  · intro noChange
    have stands : ¬s.restartSilence.rcu.reverts := fun ⟨d, same, _⟩ => by cases noChange.symm.trans same
    rw [State.resetLine_of_not_reverts stands]
    exact ⟨noChange, rfl, rfl, rfl, rfl⟩
  · intro u
    rw [State.resetLine_frame]
    cases u <;> rfl

end Sys2Proof.Machine
end

section
/-! SUPPORT. What SEQ does at the end of an event, state by state (R44, R47, R55, R59): where it holds, where a WAIT has run, where a
standing trigger is taken. -/

namespace Sys2Proof.Machine

/-! ## The standing trigger (R47) -/

theorem State.armedStart_of_not_armed {s : State} (mode : s.seq.mode ≠ .armed) : s.armedStart = s :=
  if_neg fun trigger => mode trigger.1

theorem State.armedStart_of_armed {s : State} (mode : s.seq.mode = .armed) (source : s.seq.triggers.source = .command)
    (met : s.armMet = true) : s.armedStart = s.startPanel :=
  if_pos ⟨mode, source, met⟩

theorem State.armedStart_of_calm {s : State} (calm : s.seq.triggers.source ≠ .command ∨ s.armMet = false) :
    s.armedStart = s :=
  if_neg fun ⟨_, source, met⟩ => calm.elim (· source) fun unmet => by simp [unmet] at met

/-- A state that stands through the end of an event takes no trigger either. -/
theorem State.settle_eq_armedStart_of_stands {s : State} (stands : s.seq.mode.stands = true) : s.settle = s.armedStart := by
  rw [State.settle_of_stands stands, State.armedStart_of_not_armed]
  intro armed
  simp [armed, SeqMode.stands] at stands

theorem State.settle_eq_armedStart_of_holding {s : State} {p : ReturnPoint} (mode : s.seq.mode = .holding p)
    (held : s.held = true) : s.settle = s.armedStart := by
  rw [State.settle_of_atRest (by simp [State.atRest, mode, held]), State.armedStart_of_not_armed (by simp [mode])]

/-! ## Held by no reason -/

theorem State.takeHold_of_free {s : State} (free : s.held = false) : s.takeHold = s := by simp [State.takeHold, free]

theorem State.settle_of_armed {s : State} (mode : s.seq.mode = .armed) (free : s.held = false) : s.settle = s.armedStart := by
  have leave : s.leaveHold = s := by simp [State.leaveHold, mode]
  have step : s.waitStep = s := by simp [State.waitStep, mode]
  rw [State.settle, State.takeHold_of_free free, leave, step]

/-- SEQ leaves HOLDING for a WAIT, and does there what is due. -/
theorem State.settle_of_leaving {s t : State} (free : s.held = false) (leaves : s.leaveHold = t) (free' : t.held = false)
    (left : t.leaveHold = t) : s.settle = t.settle := by
  rw [State.settle, State.takeHold_of_free free, leaves, State.settle, State.takeHold_of_free free', left]

theorem State.settle_of_holding_runWait {s : State} (mode : s.seq.mode = .holding .runWait) (free : s.held = false) :
    s.settle = (s.setMode .runWait).settle :=
  State.settle_of_leaving free (by simp [State.leaveHold, mode, free]) free (by simp [State.leaveHold])

theorem State.settle_of_holding_wasteWait {s : State} (mode : s.seq.mode = .holding .wasteWait) (free : s.held = false) :
    s.settle = (s.setMode .wasteWait).settle :=
  State.settle_of_leaving free (by simp [State.leaveHold, mode, free]) free (by simp [State.leaveHold])

theorem State.toArmed_of_empty {s : State} (empty : s.seq.jobs = []) : s.toArmed = s.toIdle := by
  rw [State.toArmed_eq, if_pos empty]

theorem State.toArmed_of_held {s : State} (jobs : s.seq.jobs ≠ []) (held : s.held = true) :
    s.toArmed = s.enterHolding .armed := by
  rw [State.toArmed_eq, if_neg jobs, if_pos held]

theorem State.toArmed_of_free {s : State} (jobs : s.seq.jobs ≠ []) (free : s.held = false) :
    s.toArmed = s.setMode .armed := by
  rw [State.toArmed_eq, if_neg jobs, free]
  rfl

/-- After the entry to ARMED only the standing trigger is left to take. -/
theorem State.settle_toArmed (s : State) : s.toArmed.settle = s.toArmed.armedStart := by
  by_cases empty : s.seq.jobs = []
  · rw [State.toArmed_of_empty empty]
    exact State.settle_eq_armedStart_of_stands rfl
  · cases held : s.held with
    | true =>
      rw [State.toArmed_of_held empty held]
      exact State.settle_eq_armedStart_of_holding (s := s.enterHolding .armed) rfl held
    | false =>
      rw [State.toArmed_of_free empty held]
      exact State.settle_of_armed (s := s.setMode .armed) rfl held

theorem State.settle_of_holding_armed {s : State} (mode : s.seq.mode = .holding .armed) (free : s.held = false) :
    s.settle = s.toArmed.armedStart := by
  have leave : s.leaveHold = s.toArmed := by simp [State.leaveHold, mode, free]
  have step : s.toArmed.waitStep = s.toArmed := by
    by_cases empty : s.seq.jobs = []
    · rw [State.toArmed_of_empty empty]
      exact ite_self _
    · rw [State.toArmed_of_free empty free]
      exact ite_self _
  rw [State.settle, State.takeHold_of_free free, leave, step]

theorem State.settle_of_holding_runFeed {s : State} {r : StepRecord} (mode : s.seq.mode = .holding .runFeed)
    (free : s.held = false) (record : s.currentRecord = some r) : s.settle = s.beginFeed r := by
  have leave : s.leaveHold = s.beginFeed r := by simp [State.leaveHold, mode, free, record]
  have step : (s.beginFeed r).waitStep = s.beginFeed r := by simp [State.waitStep]
  rw [State.settle, State.takeHold_of_free free, leave, step, State.armedStart_of_not_armed (by simp)]

/-! ## WAITs -/

theorem State.waiting_iff_of_runWait {s : State} {st : StepRun} (mode : s.seq.mode = .runWait) (step : s.seq.step = some st) :
    s.waiting st.interval ↔ s.clock < s.waitExpiry := by
  unfold State.waiting State.waitExpiry State.waitInterval
  rw [mode, step]
  cases s.seq.lastStrokeStart <;> simp

theorem State.waiting_iff_of_wasteWait {s : State} {c : ChunkRun} (mode : s.seq.mode = .wasteWait)
    (chunk : s.seq.chunk = some c) : s.waiting c.interval ↔ s.clock < s.waitExpiry := by
  unfold State.waiting State.waitExpiry State.waitInterval
  rw [mode, chunk]
  cases s.seq.lastStrokeStart <;> simp

/-- A WAIT that has not run stands through the end of an event. -/
theorem State.settle_of_waiting {s : State} (mode : s.seq.mode = .runWait ∨ s.seq.mode = .wasteWait) (free : s.held = false)
    (waits : s.clock < s.waitExpiry) : s.settle = s :=
  State.settle_of_atRest (by rcases mode with mode | mode <;> simp [State.atRest, mode, free, waits])

theorem State.beginStroke_eq (s : State) (r : StepRecord) (st : StepRun) : s.beginStroke r st = s.strokeBegun r st := by
  obtain ⟨graded, interval, stroked, retries⟩ := st
  cases stroked <;> rfl

theorem State.endRunWait_pleat {s : State} {r : StepRecord} {st : StepRun} (record : s.currentRecord = some r)
    (step : s.seq.step = some st) (pleat : r.kind = .knife ∨ r.kind = .box ∨ r.kind = .inverted) :
    s.endRunWait = s.strokeBegun r st := by
  have strokes : r.kind.pleat = true := by rcases pleat with kind | kind | kind <;> rw [kind] <;> rfl
  simp only [State.endRunWait, record, step, strokes, if_true, State.beginStroke_eq]

/-- A pleat's WAIT that has run begins its stroke, which stands. -/
theorem State.settle_of_pleat {s : State} {r : StepRecord} {st : StepRun} (mode : s.seq.mode = .runWait)
    (free : s.held = false) (run : s.waitExpiry ≤ s.clock) (record : s.currentRecord = some r)
    (step : s.seq.step = some st) (pleat : r.kind = .knife ∨ r.kind = .box ∨ r.kind = .inverted) :
    s.settle = s.strokeBegun r st := by
  rw [State.settle_of_runWait mode free run, State.endRunWait_pleat record step pleat]
  exact State.armedStart_of_not_armed (s := s.strokeBegun r st) nofun

/-- Before the target, the end of a WAIT in WASTE indexes the chunk and begins the next one. -/
theorem State.endWasteWait_before_target {s : State} {c : ChunkRun} {target : Int} (chunk : s.seq.chunk = some c)
    (aim : s.seq.wasteTarget = some target) (ahead : s.headCoord < target) :
    s.endWasteWait = (s.chunkIndexed c).beginChunk target := by
  simp only [State.endWasteWait, chunk, aim]
  exact if_neg (not_le.mpr ahead)

/-- What a WAIT that has run turns into at the end of an event, in RUNNING and in WASTE. -/
theorem State.waitRun_settle {s : State} (free : s.held = false) (run : s.waitExpiry ≤ s.clock) : s.waitRun s.settle := by
  refine ⟨fun running r record st step => ⟨fun pleat => ?_, fun spacer => ?_⟩, fun waste c chunk target aim => ?_⟩
  · exact State.settle_of_pleat running free run record step pleat
  · rw [State.settle_of_runWait running free run, State.endRunWait_spacer record step spacer]
    rfl
  · rw [State.settle_of_wasteWait waste free run]
    refine ⟨fun ahead => ?_, fun there => ?_⟩
    · rw [State.endWasteWait_before_target chunk aim ahead, State.beginChunk_eq,
        State.armedStart_of_not_armed (by exact nofun)]
      simp only [State.chunkBegun, ← aim]
      rfl
    · rw [State.endWasteWait_at_target chunk aim there]
      rfl

end Sys2Proof.Machine
end

section
/-! SUPPORT. HOLD (R43, R44, R49), the silence timer (R195), the triggers (R46 to R48), SET PACE (R46) and GO (R50). Settles O27, O6,
O30, O25 and O26. -/

namespace Sys2Proof.Machine

/-! ## HOLD -/

theorem exec_hold (tag : BitVec 16) {s : State} (taken : s.taken) : exec (.hold tag []) s =
    .next ((s.restartSilence.onSeq fun q => { q with hostHold := true }).settle.pushReply 0x25#8 tag [0x00#8]) :=
  congrArg Host.Outcome.next (hostRequest_taken 0x25#8 .configuredOnly handleHold tag [] taken)

/-- Settles O27: with HOST in the set SEQ is held, and takes its hold point. -/
theorem holdTaken : Obligations.HoldTaken := by
  intro tag s taken
  rw [exec_hold tag taken, State.settle_of_held (s := s.restartSilence.onSeq _) rfl]
  rfl

/-! ## The silence timer -/

theorem execSilenceTimeout_of_stopped {s : State} (timer : s.hlp.silenceTimer = none) : exec .silenceTimeout s = .next s := by
  show execSilenceTimeout s = _
  simp only [execSilenceTimeout, timer]

theorem execSilenceTimeout_of_running {s : State} {e : Nat} (timer : s.hlp.silenceTimer = some e) :
    exec .silenceTimeout s = .next (if (s.reach e).restartSilence.seqIdle then (s.reach e).restartSilence
      else (((s.reach e).restartSilence.raise .linkSilent).onSeq fun q => { q with silentHold := true }).settle) := by
  show execSilenceTimeout s = _
  simp only [execSilenceTimeout, timer]

/-- SILENT is in the hold reason set. -/
theorem State.held_of_silent {s : State} (silent : s.seq.silentHold = true) : s.held = true :=
  s.held_iff.mpr (.inr (.inr (.inl silent)))

/-- Settles O6: outside IDLE the expiry leaves SEQ held, and it takes its hold point. -/
theorem silenceHoldsLine : Obligations.SilenceHoldsLine := by
  intro s
  refine ⟨execSilenceTimeout_of_stopped, ?_⟩
  intro e timer now t
  rw [execSilenceTimeout_of_running timer]
  refine ⟨fun idle => ?_, fun working => ?_⟩
  · rw [if_pos (by exact beq_iff_eq.mpr idle)]
    rfl
  · rw [if_neg (by exact mt beq_iff_eq.mp working), State.settle_of_held (State.held_of_silent rfl)]
    rfl

/-! ## Triggers -/

theorem State.triggerTaken_iff (s : State) : s.triggerTaken = true ↔ s.seq.mode = .armed ∧ s.armMet = true := by
  simp [State.triggerTaken]

theorem State.not_triggerTaken {s : State} (missed : s.seq.mode ≠ .armed ∨ s.armMet = false) : ¬s.triggerTaken = true := by
  rw [State.triggerTaken_iff]
  rintro ⟨mode, met⟩
  exact missed.elim (· mode) fun unmet => by simp [unmet] at met

theorem execMarkEdge_of_selected {s : State} {e : Edge} (source : s.seq.triggers.source = .mark)
    (edge : s.seq.triggers.markEdge = e) : exec (.markEdge e) s = .next (if s.triggerTaken then s.startPanel
      else s.ignoreTrigger.onSeq fun q => { q with markPending := true }) :=
  congrArg Host.Outcome.next (if_pos ⟨source, edge⟩)

theorem execPaceExpiry_of_running {s t : State} {e : Nat} (timer : s.seq.paceTimer = some e)
    (restarted : t = (s.reach e).onSeq fun q => { q with paceTimer := some (e + q.triggers.pacePeriod) }) :
    exec .paceExpiry s = .next (if t.triggerTaken then t.startPanel else t.ignoreTrigger) := by
  show execPaceExpiry s = _
  simp only [execPaceExpiry, timer, restarted]

/-- Settles O30: each instant is taken or ignored as `triggerTaken` says. -/
theorem triggersTakenOrIgnored : Obligations.TriggersTakenOrIgnored := by
  refine ⟨fun e s => ⟨fun other => ?_, fun source edge => ?_⟩, fun s => ⟨fun stopped => ?_, ?_⟩⟩
  · exact congrArg Host.Outcome.next (if_neg fun ⟨source, edge⟩ => other.elim (· source) (· edge))
  · rw [execMarkEdge_of_selected source edge]
    refine ⟨fun mode met => ?_, fun missed => ?_⟩
    · rw [if_pos (s.triggerTaken_iff.mpr ⟨mode, met⟩)]
    · rw [if_neg (State.not_triggerTaken missed)]
      rfl
  · show execPaceExpiry s = _
    simp only [execPaceExpiry, stopped]
  · intro e timer t
    rw [execPaceExpiry_of_running timer (t := t) rfl]
    have met : t.armMet = s.armMet := rfl
    refine ⟨fun mode armMet => ?_, fun missed => ?_⟩
    · rw [if_pos (t.triggerTaken_iff.mpr ⟨mode, met.trans armMet⟩)]
    · rw [if_neg (State.not_triggerTaken (missed.imp id met.trans))]
      rfl

/-! ## GO -/

/-- GO is refused by R50. -/
theorem State.goRefused_iff (s : State) : s.goRefused = true ↔ s.seq.mode ≠ .idle ∨ s.seq.jobs = []
    ∨ (s.rcu.unwindA.state ≠ .active ∧ s.rcu.unwindB.state ≠ .active) ∨ s.seq.guardIsOpen = true := by
  have unwinds : s.rcu.activeUnwind.isNone = !(s.rcu.unwindA.state == .active || s.rcu.unwindB.state == .active) := by
    rw [← Rcu.isSome_activeUnwind, Option.not_isSome]
  simp [State.goRefused, State.seqIdle, unwinds, or_assoc]

/-- SEQ as GO leaves IDLE: the pace timer runs under PACE alone. -/
def Seq.timed (now : Nat) (q : Seq) : Seq :=
  { q with paceTimer := if q.triggers.source = .pace then some (now + q.triggers.pacePeriod) else none }

theorem exec_go_of_refused (tag : BitVec 16) {s : State} (taken : s.taken) (refused : s.goRefused = true) :
    exec (.go tag []) s = .next (s.onlyReplies 0x24#8 tag [0x02#8]) :=
  congrArg Host.Outcome.next
    (hostRequest_refused 0x24#8 .configuredOnly handleGo tag [] taken (if_pos (show s.restartSilence.goRefused = true from refused)))

theorem exec_go_of_accepted (tag : BitVec 16) {s : State} (taken : s.taken) (accepted : ¬s.goRefused = true) :
    exec (.go tag []) s = .next ((s.restartSilence.onSeq (Seq.timed s.clock)).toArmed.settle.pushReply 0x24#8 tag [0x00#8]) := by
  have rule : handleGo [] s.restartSilence = ((s.restartSilence.onSeq (Seq.timed s.clock)).toArmed.settle, [0x00#8]) :=
    if_neg accepted
  refine congrArg Host.Outcome.next ?_
  rw [hostRequest_taken 0x24#8 .configuredOnly handleGo tag [] taken, rule]

/-- Settles O26: the entry to ARMED, held or not, and the standing trigger after it. -/
theorem goStarts : Obligations.GoStarts := by
  intro tag s taken refused timed armed
  have jobs (accepted : ¬refused) : (s.restartSilence.onSeq (Seq.timed s.clock)).seq.jobs ≠ [] := fun empty =>
    accepted (.inr (.inl empty))
  have runs (accepted : ¬refused) := exec_go_of_accepted tag taken (mt s.goRefused_iff.mp accepted)
  refine ⟨fun bad => exec_go_of_refused tag taken (s.goRefused_iff.mpr bad), fun accepted held => ?_,
    fun accepted free calm => ?_, fun accepted free source met => ?_⟩
  · rw [runs accepted, State.settle_toArmed, State.toArmed_of_held (jobs accepted) held,
      State.armedStart_of_not_armed (by exact nofun)]
    rfl
  · rw [runs accepted, State.settle_toArmed, State.toArmed_of_free (jobs accepted) free,
      State.armedStart_of_calm (by exact calm)]
    rfl
  · rw [runs accepted, State.settle_toArmed, State.toArmed_of_free (jobs accepted) free,
      State.armedStart_of_armed rfl (by exact source) (by exact met)]
    rfl

end Sys2Proof.Machine
end

section
/-! SUPPORT. SET PACE (R46): what its eleven bytes spell, and the clamp of the stroke period. Settles O25. -/

namespace Sys2Proof.Machine

/-! ## Codes -/

theorem TriggerSource.code_of_ofCode {b : Byte} {src : TriggerSource} (h : TriggerSource.ofCode b = some src) :
    src.code = b := by
  unfold TriggerSource.ofCode at h
  split_ifs at h <;> (cases h; symm; assumption)

theorem TriggerSource.ofCode_isSome_iff (b : Byte) : (TriggerSource.ofCode b).isSome = true ↔ 1 ≤ b.toNat ∧ b.toNat ≤ 3 := by
  unfold TriggerSource.ofCode
  split_ifs with h1 h2 h3
  case neg => simp only [Option.isSome_none, Bool.false_eq_true, false_iff]; bv_omega
  all_goals subst b; decide

theorem edgeCode_of_edgeOf {b : Byte} {e : Edge} (h : edgeOf b = some e) : edgeCode e = b := by
  unfold edgeOf at h
  split_ifs at h <;> (cases h; symm; assumption)

theorem edgeOf_isSome_iff (b : Byte) : (edgeOf b).isSome = true ↔ b = 1#8 ∨ b = 2#8 := by
  unfold edgeOf
  split_ifs with rising falling <;> simp_all

theorem TriggerSource.code_injective : Function.Injective TriggerSource.code := by
  intro x y same
  cases x <;> cases y <;> first | rfl | cases same

theorem edgeCode_injective : Function.Injective edgeCode := by
  intro x y same
  cases x <;> cases y <;> first | rfl | cases same

/-! ## The settings -/

theorem Triggers.ofBytes_eq_some_iff (bs : List Byte) (t : Triggers) : Triggers.ofBytes bs = some t ↔
    ∃ src me fe, TriggerSource.ofCode (byteAt bs 0) = some src ∧ edgeOf (byteAt bs 5) = some me
      ∧ edgeOf (byteAt bs 6) = some fe ∧ t = { source := src, pacePeriod := fieldAt bs 1 4, markEdge := me, foldEdge := fe
                                               strokePeriod := fieldAt bs 7 4 } := by
  unfold Triggers.ofBytes
  split
  · next src me fe source mark fold => simp [source, mark, fold, eq_comm]
  · next unread =>
    refine ⟨nofun, ?_⟩
    rintro ⟨src, me, fe, source, mark, fold, -⟩
    exact (unread src me fe source mark fold).elim

theorem Triggers.ofBytes_isSome_iff (bs : List Byte) : (Triggers.ofBytes bs).isSome = true ↔
    1 ≤ (byteAt bs 0).toNat ∧ (byteAt bs 0).toNat ≤ 3 ∧ (byteAt bs 5 = 1#8 ∨ byteAt bs 5 = 2#8)
      ∧ (byteAt bs 6 = 1#8 ∨ byteAt bs 6 = 2#8) := by
  rw [← and_assoc, ← TriggerSource.ofCode_isSome_iff, ← edgeOf_isSome_iff, ← edgeOf_isSome_iff]
  simp only [Option.isSome_iff_exists, Triggers.ofBytes_eq_some_iff]
  constructor
  · rintro ⟨_, src, me, fe, source, mark, fold, _⟩
    exact ⟨⟨src, source⟩, ⟨me, mark⟩, ⟨fe, fold⟩⟩
  · rintro ⟨⟨src, source⟩, ⟨me, mark⟩, ⟨fe, fold⟩⟩
    exact ⟨_, src, me, fe, source, mark, fold, rfl⟩

/-- The settings as they are stored. -/
theorem Triggers.clamp_eq (t : Triggers) : t.clamp = { t with
    strokePeriod := if t.strokePeriod < 60 then 60 else if 2000 < t.strokePeriod then 2000 else t.strokePeriod } := by
  rw [Triggers.clamp]
  congr 1
  split_ifs <;> omega

theorem Triggers.clamp_eq_self_iff (t : Triggers) : t.clamp = t ↔ t.clamp.strokePeriod = t.strokePeriod :=
  ⟨fun same => by rw [same], fun same => by
    obtain ⟨source, pace, mark, fold, stroke⟩ := t
    simp only [Triggers.clamp] at same ⊢
    rw [same]⟩

/-! ## The request -/

section
variable (tag : BitVec 16) {payload : List Byte} {s : State} (taken : s.taken) (eleven : payload.length = 11)
include taken eleven

theorem exec_setPace_working (working : s.seq.mode ≠ .idle) :
    exec (.setPace tag payload) s = .next (s.onlyReplies 0x23#8 tag [0x02#8]) := by
  have refused : handleSetPace payload s.restartSilence = (s.restartSilence, [0x02#8]) := by
    rw [handleSetPace, if_neg (not_not.mpr eleven), if_pos]
    · rfl
    · simp [State.seqIdle, working]
  exact congrArg Host.Outcome.next (hostRequest_refused 0x23#8 .configuredOnly handleSetPace tag payload taken refused)

theorem exec_setPace_unread (idle : s.seq.mode = .idle) (unread : Triggers.ofBytes payload = none) :
    exec (.setPace tag payload) s = .next (s.onlyReplies 0x23#8 tag [0x03#8]) := by
  have refused : handleSetPace payload s.restartSilence = (s.restartSilence, [0x03#8]) := by
    rw [handleSetPace, if_neg (not_not.mpr eleven), if_neg (by simp [State.seqIdle, idle]), unread]
    rfl
  exact congrArg Host.Outcome.next (hostRequest_refused 0x23#8 .configuredOnly handleSetPace tag payload taken refused)

variable {t : Triggers} (idle : s.seq.mode = .idle) (read : Triggers.ofBytes payload = some t)
include idle read

theorem exec_setPace_out_of_range (bad : t.pacePeriod < 1000 ∨ 600000 < t.pacePeriod) :
    exec (.setPace tag payload) s = .next (s.onlyReplies 0x23#8 tag [0x03#8]) := by
  have refused : handleSetPace payload s.restartSilence = (s.restartSilence, [0x03#8]) := by
    rw [handleSetPace, if_neg (not_not.mpr eleven), if_neg (by simp [State.seqIdle, idle]), read]
    exact if_pos bad
  exact congrArg Host.Outcome.next (hostRequest_refused 0x23#8 .configuredOnly handleSetPace tag payload taken refused)

theorem exec_setPace_in_range (fits : 1000 ≤ t.pacePeriod ∧ t.pacePeriod ≤ 600000) :
    exec (.setPace tag payload) s = .next
      (({ s.restartSilence with seq := { s.seq with triggers := t.clamp } } : State).pushReply 0x23#8 tag
        ((if t.clamp = t then Status.ok else Status.clamped).code :: t.clamp.toBytes)) := by
  have stored : handleSetPace payload s.restartSilence = (s.restartSilence.onSeq fun q => { q with triggers := t.clamp },
      (if t.clamp = t then Status.ok else Status.clamped).code :: t.clamp.toBytes) := by
    rw [handleSetPace, if_neg (not_not.mpr eleven), if_neg (by simp [State.seqIdle, idle]), read]
    exact if_neg (by omega)
  refine congrArg Host.Outcome.next ?_
  rw [hostRequest_taken 0x23#8 .configuredOnly handleSetPace tag payload taken, stored]
  rfl

end

/-- Settles O25: the bytes read by `ofBytes_eq_some_iff`, and what is stored and answered by the clamp. -/
theorem paceSet : Obligations.PaceSet := by
  intro tag payload s taken eleven source pace mark fold stroke stored ok
  refine ⟨exec_setPace_working tag taken eleven, fun idle bad => ?_, fun idle good => ?_⟩
  · cases read : Triggers.ofBytes payload with
    | none => exact exec_setPace_unread tag taken eleven idle read
    | some t =>
      refine exec_setPace_out_of_range tag taken eleven idle read ?_
      obtain ⟨low, high, marks, folds⟩ := (Triggers.ofBytes_isSome_iff payload).mp (by rw [read]; rfl)
      obtain ⟨src, me, fe, -, -, -, rfl⟩ := (Triggers.ofBytes_eq_some_iff payload t).mp read
      by_contra fits
      rw [not_or, not_lt, not_lt] at fits
      exact bad ⟨low, high, marks, folds, fits⟩
  · obtain ⟨low, high, marks, folds, fits⟩ := good
    obtain ⟨t, read⟩ := Option.isSome_iff_exists.mp
      ((Triggers.ofBytes_isSome_iff payload).mpr ⟨low, high, marks, folds⟩)
    obtain ⟨src, me, fe, hsrc, hme, hfe, settings⟩ := (Triggers.ofBytes_eq_some_iff payload t).mp read
    have srcCode : src.code = source := TriggerSource.code_of_ofCode hsrc
    have markCode : edgeCode me = mark := edgeCode_of_edgeOf hme
    have foldCode : edgeCode fe = fold := edgeCode_of_edgeOf hfe
    have clamped : t.clamp = { source := src, pacePeriod := pace, markEdge := me, foldEdge := fe, strokePeriod := stored } := by
      rw [Triggers.clamp_eq, settings]
    have unchanged : t.clamp = t ↔ stored = stroke := by
      rw [Triggers.clamp_eq_self_iff, clamped, settings]
    refine ⟨t.clamp, ?_, ?_⟩
    · rw [exec_setPace_in_range tag taken eleven idle read (by rw [settings]; exact fits), apply_ite Status.code,
        if_congr unchanged rfl rfl]
      rw [clamped, ← srcCode, ← markCode, ← foldCode]
      rfl
    · rw [clamped]
      exact ⟨rfl, rfl, fun h => TriggerSource.code_injective (srcCode.trans h),
        fun h => TriggerSource.code_injective (srcCode.trans h), fun h => TriggerSource.code_injective (srcCode.trans h),
        fun h => edgeCode_injective (markCode.trans h), fun h => edgeCode_injective (markCode.trans h),
        fun h => edgeCode_injective (foldCode.trans h), fun h => edgeCode_injective (foldCode.trans h)⟩

end Sys2Proof.Machine
end

section
/-! SUPPORT. The zone profile's test seen from another state, and QUEUE JOB check by check (R38, R39, R105). Settles O23. -/

namespace Sys2Proof.Machine

/-! ## What the switch test reads (R105) -/

/-- The blocks of `s` that the switch of the zones reads, in the place of those of `u`. -/
def State.zonesOnto (s u : State) : State :=
  { u with clock := s.clock, line := s.line, pst := s.pst, slm := s.slm, zsv := s.zsv }

theorem State.switchZone_zonesOnto (p : Profile) (u s : State) (i : Nat) :
    State.switchZone p (s.zonesOnto u) i = (State.switchZone p s i).zonesOnto u := by
  have same : ((s.zonesOnto u).onZone i (Zone.switched p)).zone i = (s.onZone i (Zone.switched p)).zone i := rfl
  unfold State.switchZone State.restartIfWarming
  rw [same]
  split <;> rfl

theorem State.switchZones_zonesOnto (s u : State) (id : Nat) (p : Profile) :
    (s.zonesOnto u).switchZones id p = (s.switchZones id p).zonesOnto u := by
  unfold State.switchZones
  exact List.foldl_hom (init := s.onZsv fun v => { v with profile := some id }) (l := s.zoneNumbers) (State.zonesOnto · u)
    (g₂ := State.switchZone p) fun v i => State.switchZone_zonesOnto p u v i

/-- What the switch test reads besides the queue and the segments. -/
def State.zoneView (s : State) : Nat × Option LineConfig × Pst × Slm × Zsv × Nat :=
  (s.clock, s.line, s.pst, s.slm, s.zsv, s.str.belt)

theorem State.zsv_switchTest_congr {s t : State} (view : t.zoneView = s.zoneView) (jobs : t.seq.jobs = s.seq.jobs)
    (segments : t.str.segments = s.str.segments) : t.switchTest.zsv = s.switchTest.zsv := by
  obtain ⟨clock, line, store, stations, zones, belt⟩ : t.clock = s.clock ∧ t.line = s.line ∧ t.pst = s.pst ∧ t.slm = s.slm
      ∧ t.zsv = s.zsv ∧ t.str.belt = s.str.belt := by
    simpa [State.zoneView] using view
  have onto : t = s.zonesOnto t := by rw [State.zonesOnto, ← clock, ← line, ← store, ← stations, ← zones]
  have headId : t.headJobProfileId = s.headJobProfileId := by simp only [State.headJobProfileId, State.headJob, jobs, store]
  have head : t.headJobProfile = s.headJobProfile := by simp only [State.headJobProfile, headId, store]
  have leaves (g : Segment) : t.stillToLeave g = s.stillToLeave g := by
    unfold State.stillToLeave State.entryDistance State.tunnel
    rw [belt, line]
  have due (id : Nat) : t.switchDue id = s.switchDue id := by simp only [State.switchDue, zones, segments, leaves]
  simp only [State.switchTest_eq, headId, head]
  split
  · next id p _ _ =>
    rw [due]
    split
    · rw [onto, State.switchZones_zonesOnto]
      rfl
    · exact zones
  · exact zones

theorem State.zonesFor_congr {s t : State} (view : t.zoneView = s.zoneView) (jobs : List Job) (segments : List Segment) :
    t.zonesFor jobs segments = s.zonesFor jobs segments := by
  have belt : t.str.belt = s.str.belt := by
    simp only [State.zoneView, Prod.mk.injEq] at view
    obtain ⟨-, -, -, -, -, belt⟩ := view
    exact belt
  refine State.zsv_switchTest_congr ?_ rfl rfl
  simpa [State.zoneView] using view

theorem State.zsv_of_zoneView {s t : State} (view : t.zoneView = s.zoneView) : t.zsv = s.zsv := by
  simp only [State.zoneView, Prod.mk.injEq] at view
  obtain ⟨-, -, -, -, zones, -⟩ := view
  exact zones

/-! ## The depth conditions (R39) -/

/-- The depth condition fails at a record. -/
def StepRecord.tooDeep (grade : Nat) (r : StepRecord) : Prop :=
  (r.kind = .knife ∧ r.gradedFace grade < r.depth.getD 0)
    ∨ ((r.kind = .box ∨ r.kind = .inverted) ∧ r.gradedFace grade < 2 * r.depth.getD 0)

theorem StepRecord.depthFits_eq_false_iff (grade : Nat) (r : StepRecord) : r.depthFits grade = false ↔ r.tooDeep grade := by
  unfold StepRecord.depthFits StepRecord.tooDeep StepRecord.depthOf
  cases r.kind <;> simp

/-- What `depthFailure` asks of an index. -/
theorem depthFails_iff (grade : Nat) (steps : List StepRecord) (i : Nat) :
    (steps[i]?.map fun r => !r.depthFits grade).getD false = true ↔ ∃ r, steps[i]? = some r ∧ r.tooDeep grade := by
  simp only [← StepRecord.depthFits_eq_false_iff]
  cases steps[i]? <;> simp

theorem depthFailure_eq_some {grade : Nat} {steps : List StepRecord} {i : Nat}
    (fails : ∃ r, steps[i]? = some r ∧ r.tooDeep grade) (lowest : ∀ k < i, ¬∃ r, steps[k]? = some r ∧ r.tooDeep grade) :
    depthFailure grade steps = some i := by
  have inside : i < steps.length := by
    obtain ⟨r, found, -⟩ := fails
    exact (List.getElem?_eq_some_iff.mp found).1
  rw [depthFailure, List.find?_range_eq_some]
  refine ⟨(depthFails_iff grade steps i).mpr fails, List.mem_range.mpr inside, fun k below => ?_⟩
  rw [Bool.not_eq_true', ← Bool.not_eq_true, depthFails_iff]
  exact lowest k below

theorem depthFailure_eq_none {grade : Nat} {steps : List StepRecord}
    (fits : ∀ i : Nat, ¬∃ r : StepRecord, steps[i]? = some r ∧ r.tooDeep grade) : depthFailure grade steps = none := by
  rw [depthFailure, List.find?_range_eq_none]
  intro k _
  rw [Bool.not_eq_true', ← Bool.not_eq_true, depthFails_iff]
  exact fits k

/-! ## QUEUE JOB -/

/-- The job that a payload of QUEUE JOB spells. -/
def Job.ofPayload (p : List Byte) : Job :=
  { jobId := fieldAt p 0 2, patternId := fieldAt p 2 1, panelCount := fieldAt p 3 2, grade := fieldAt p 5 2, panelsDone := 0
    cancelPending := false }

section
variable {p : List Byte} {s : State} (seven : p.length = 7)
include seven

theorem handleQueueJob_range (bad : jobInRange (fieldAt p 0 2) (fieldAt p 2 1) (fieldAt p 3 2) (fieldAt p 5 2) = false) :
    handleQueueJob p s = (s, [0x03#8]) := by
  simp only [handleQueueJob, seven, bad]
  rfl

variable (range : jobInRange (fieldAt p 0 2) (fieldAt p 2 1) (fieldAt p 3 2) (fieldAt p 5 2) = true)
include range

theorem handleQueueJob_inUse (used : (s.seq.jobs.any fun j => j.jobId == fieldAt p 0 2) = true) :
    handleQueueJob p s = (s, [0x04#8]) := by
  simp only [handleQueueJob, seven, range, used]
  rfl

variable (fresh : (s.seq.jobs.any fun j => j.jobId == fieldAt p 0 2) = false)
include fresh

theorem handleQueueJob_state (unready : (s.pst.pattern (fieldAt p 2 1)).state ≠ .valid) :
    handleQueueJob p s = (s, [0x02#8]) := by
  simp only [handleQueueJob, seven, range, fresh, if_pos unready]
  rfl

variable (valid : (s.pst.pattern (fieldAt p 2 1)).state = .valid)
include valid

theorem handleQueueJob_depth {i : Nat}
    (deep : depthFailure (fieldAt p 5 2) (s.pst.pattern (fieldAt p 2 1)).steps = some i) :
    handleQueueJob p s = (s, 0x03#8 :: beBytes 1 i) := by
  simp only [handleQueueJob, seven, range, fresh, valid, deep]
  rfl

variable (shallow : depthFailure (fieldAt p 5 2) (s.pst.pattern (fieldAt p 2 1)).steps = none)
include shallow

theorem handleQueueJob_length (bad : lengthsFit (finishedLength (s.pst.pattern (fieldAt p 2 1)).steps (fieldAt p 5 2))
    s.tunnel s.cutDistance = false) : handleQueueJob p s = (s, [0x03#8]) := by
  simp only [handleQueueJob, seven, range, fresh, valid, shallow, bad]
  rfl

variable (fits : lengthsFit (finishedLength (s.pst.pattern (fieldAt p 2 1)).steps (fieldAt p 5 2)) s.tunnel s.cutDistance = true)
include fits

theorem handleQueueJob_full (full : 16 ≤ s.seq.jobs.length) : handleQueueJob p s = (s, [0x05#8]) := by
  simp only [handleQueueJob, seven, range, fresh, valid, shallow, fits, if_pos full]
  rfl

theorem handleQueueJob_ok (place : s.seq.jobs.length < 16) : handleQueueJob p s =
    ((if s.seq.jobs.isEmpty then (s.onSeq fun q => { q with jobs := q.jobs ++ [Job.ofPayload p] }).switchTest
      else s.onSeq fun q => { q with jobs := q.jobs ++ [Job.ofPayload p] }), 0x00#8 :: beBytes 1 (s.seq.jobs.length + 1)) := by
  simp only [handleQueueJob, seven, range, fresh, valid, shallow, fits, if_neg (not_le.mpr place), State.onSeq_seq,
    List.length_append]
  rfl

end

theorem exec_queueJob_refused (tag : BitVec 16) {p : List Byte} {s : State} (taken : s.taken) {reply : List Byte}
    (refused : handleQueueJob p s.restartSilence = (s.restartSilence, reply)) :
    exec (.queueJob tag p) s = .next (s.onlyReplies 0x20#8 tag reply) :=
  congrArg Host.Outcome.next (hostRequest_refused 0x20#8 .configuredOnly handleQueueJob tag p taken refused)

theorem exec_queueJob_taken (tag : BitVec 16) {p : List Byte} {s t : State} (taken : s.taken) {reply : List Byte}
    (queued : handleQueueJob p s.restartSilence = (t, reply)) :
    exec (.queueJob tag p) s = .next (t.pushReply 0x20#8 tag reply) := by
  refine congrArg Host.Outcome.next ?_
  rw [hostRequest_taken 0x20#8 .configuredOnly handleQueueJob tag p taken, queued]

/-- Settles O23: the checks in their order, each by its own equation of the rule. -/
theorem jobQueued : Obligations.JobQueued := by
  intro tag p s taken seven id pattern count grade steps lp ok fresh valid shallow answers
  have range : ok → jobInRange id pattern count grade = true := decide_eq_true
  have unused (h : fresh) : (s.restartSilence.seq.jobs.any fun j => j.jobId == id) = false := by
    simpa [fresh] using h
  refine ⟨fun bad => ?_, fun good used => ?_, fun good new unready => ?_, fun good new ready => ⟨fun i deep lowest => ?_, ?_⟩⟩
  · exact exec_queueJob_refused tag taken (handleQueueJob_range seven (decide_eq_false bad))
  · refine exec_queueJob_refused tag taken (handleQueueJob_inUse seven (range good) ?_)
    simpa [fresh] using used
  · exact exec_queueJob_refused tag taken (handleQueueJob_state seven (range good) (unused new) unready)
  · exact exec_queueJob_refused tag taken
      (handleQueueJob_depth seven (range good) (unused new) ready (depthFailure_eq_some deep lowest))
  · intro flat
    have noDeep : depthFailure grade steps = none := depthFailure_eq_none flat
    refine ⟨fun long => ?_, fun tunnel cut full => ?_, fun tunnel cut place => ?_⟩
    · refine exec_queueJob_refused tag taken (handleQueueJob_length seven (range good) (unused new) ready noDeep ?_)
      exact decide_eq_false fun fits => long.elim (not_lt.mpr fits.1) (not_lt.mpr fits.2)
    · exact exec_queueJob_refused tag taken (handleQueueJob_full seven (range good) (unused new) ready noDeep
        (decide_eq_true ⟨tunnel, cut⟩) full)
    · have queued := exec_queueJob_taken tag taken (handleQueueJob_ok seven (range good) (unused new) ready noDeep
        (decide_eq_true ⟨tunnel, cut⟩) place)
      by_cases empty : s.seq.jobs = []
      · have first : s.restartSilence.seq.jobs.isEmpty = true := List.isEmpty_iff.mpr empty
        rw [if_pos first, zonesOnly_switchTest (s.restartSilence.onSeq _)] at queued
        refine ⟨_, queued, fun more => absurd empty more, fun _ => ?_⟩
        refine State.zsv_switchTest_congr rfl ?_ rfl
        exact congrArg (· ++ [Job.ofPayload p]) empty
      · have more : ¬s.restartSilence.seq.jobs.isEmpty = true := mt List.isEmpty_iff.mp empty
        rw [if_neg more] at queued
        exact ⟨s.zsv, queued, fun _ => rfl, fun none => absurd none empty⟩

end Sys2Proof.Machine
end

section
/-! SUPPORT. The arm conditions (R45) and the ends that the waste target is the greatest of (R54, R79). Settles O31. -/

namespace Sys2Proof.Machine

/-! ## The greatest of some ends -/

theorem greatest_eq_max? (l : List Int) : greatest l = l.max? := by cases l <;> rfl

theorem greatest_eq_none_iff (l : List Int) : greatest l = none ↔ ∀ e, e ∉ l := by
  rw [greatest_eq_max?, List.max?_eq_none_iff, List.eq_nil_iff_forall_not_mem]

theorem greatest_eq_some_iff (l : List Int) (x : Int) : greatest l = some x ↔ x ∈ l ∧ ∀ e ∈ l, e ≤ x := by
  rw [greatest_eq_max?, List.max?_eq_some_iff]

/-- Some ends may be taken as their greatest one. -/
theorem greatest_append (l k : List Int) : greatest ((greatest l).toList ++ k) = greatest (l ++ k) := by
  cases l with
  | nil => rfl
  | cons x rest => exact congrArg some (List.foldl_append ..).symm

/-- What `spliceAhead` asks of a mark. -/
theorem Mark.ahead_iff (head : Int) (id : Nat) (m : Mark) :
    (m.kind == .splice id && decide (head < m.coord)) = true ↔ m.kind = .splice id ∧ head < m.coord := by
  simp

section
variable {s : State} {job : Job} {id : Nat} (head : s.headJob = some job)
  (named : (s.pst.pattern job.patternId).profileId = some id)
include head named

theorem State.headJobProfileId_of_named : s.headJobProfileId = some id := (State.headJobProfileId_eq head).trans named

/-! ## The arm conditions -/

theorem State.armMet_iff : s.armMet = true ↔
    (∀ i ∈ s.zoneNumbers, (s.zone i).state = .ready) ∧ s.zsv.profile = some id
      ∧ (s.wtr.headFabric = some id ∨ ∃ m ∈ s.wtr.marks, m.kind = .splice id ∧ s.headCoord < m.coord)
      ∧ s.str.segments.length < 64 := by
  have segments : s.segmentsUnmet = true ↔ 64 ≤ s.str.segments.length := decide_eq_true_iff
  have met : s.armMet = true ↔ ¬s.zonesUnmet = true ∧ ¬s.fabricUnmet = true ∧ ¬s.segmentsUnmet = true := by
    simp [State.armMet, and_assoc]
  have fabric : (¬(s.wtr.headFabric ≠ some id ∧ ∀ m ∈ s.wtr.marks, m.kind = .splice id → m.coord ≤ s.headCoord)) ↔
      s.wtr.headFabric = some id ∨ ∃ m ∈ s.wtr.marks, m.kind = .splice id ∧ s.headCoord < m.coord := by
    simp only [ne_eq, not_and_or, not_not, not_forall, not_le, exists_prop]
  rw [met, State.zonesUnmet_iff head named, State.fabricUnmet_iff head named, segments, not_not, fabric, not_le, and_assoc]

theorem State.fabricMatches_iff : s.fabricMatches = true ↔ s.wtr.headFabric = some id := by
  simp [State.fabricMatches, State.headJobProfileId_of_named head named]

/-! ## The nearest SPLICE ahead (R79) -/

theorem State.matchingSplice_eq : s.matchingSplice =
    (s.wtr.marks.find? fun m => m.kind == .splice id && decide (s.headCoord < m.coord)).map Mark.stop := by
  rw [State.matchingSplice, State.headJobProfileId_of_named head named]
  rfl

end

/-- `m` is the first SPLICE of the profile in the list that lies ahead of the head. -/
def State.nearestSplice (s : State) (id : Nat) (m : Mark) : Prop :=
  ∃ before after, s.wtr.marks = before ++ m :: after ∧ (m.kind = .splice id ∧ s.headCoord < m.coord)
    ∧ ∀ k ∈ before, ¬(k.kind = .splice id ∧ s.headCoord < k.coord)

theorem State.find?_ahead_iff (s : State) (id : Nat) (m : Mark) :
    (s.wtr.marks.find? fun m => m.kind == .splice id && decide (s.headCoord < m.coord)) = some m ↔ s.nearestSplice id m := by
  rw [List.find?_eq_some_iff_append, Mark.ahead_iff]
  constructor
  · rintro ⟨ahead, before, after, list, first⟩
    exact ⟨before, after, list, ahead, fun k mem both => by simpa [both] using first k mem⟩
  · rintro ⟨before, after, list, ahead, first⟩
    refine ⟨ahead, before, after, list, fun k mem => ?_⟩
    rw [Bool.not_eq_true', ← Bool.not_eq_true, Mark.ahead_iff]
    exact first k mem

theorem State.exists_nearestSplice_iff (s : State) (id : Nat) :
    (∃ m, s.nearestSplice id m) ↔ ∃ m ∈ s.wtr.marks, m.kind = .splice id ∧ s.headCoord < m.coord := by
  simp only [← State.find?_ahead_iff, ← Option.isSome_iff_exists, List.find?_isSome, Mark.ahead_iff]

theorem State.nearestSplice.least {s : State} {id : Nat} {m k : Mark} (nearest : s.nearestSplice id m)
    (sorted : s.wtr.marks.Pairwise fun a b => a.coord ≤ b.coord) (mem : k ∈ s.wtr.marks)
    (ahead : k.kind = .splice id ∧ s.headCoord < k.coord) : m.coord ≤ k.coord := by
  obtain ⟨before, after, list, -, first⟩ := nearest
  rw [list] at sorted mem
  rcases List.mem_append.mp mem with earlier | here
  · exact absurd ahead (first k earlier)
  · rcases List.mem_cons.mp here with rfl | later
    · exact le_rfl
    · exact List.rel_of_pairwise_cons (List.pairwise_append.mp sorted).2.1 later

/-! ## The waste target (R54) -/

/-- The ends that apply to the waste target. -/
def State.appliedEnds (s : State) : List Int :=
  (s.marksInWindow s.headSpan).map (Mark.endAt s.inspectCoord)
    ++ (if s.fabricMatches then [] else s.matchingSplice.toList)

theorem State.newTarget_eq (s : State) : s.newTarget = (greatest s.appliedEnds).map fun e => e + (s.clearanceCounts : Int) := by
  rw [State.newTarget, State.targetEnds, State.windowEnd, greatest_append]
  rfl

theorem State.mem_appliedEnds_iff {s : State} {job : Job} {id : Nat} (head : s.headJob = some job)
    (named : (s.pst.pattern job.patternId).profileId = some id) (e : Int) : e ∈ s.appliedEnds ↔
      (∃ m, (m ∈ s.wtr.marks ∧ m.coord ≤ s.headCoord + s.headSpan ∧ s.headCoord < m.endAt s.inspectCoord)
        ∧ e = m.endAt s.inspectCoord)
      ∨ (s.wtr.headFabric ≠ some id ∧ ∃ m, s.nearestSplice id m ∧ e = m.stop) := by
  have window : e ∈ (s.marksInWindow s.headSpan).map (Mark.endAt s.inspectCoord) ↔
      ∃ m, (m ∈ s.wtr.marks ∧ m.coord ≤ s.headCoord + s.headSpan ∧ s.headCoord < m.endAt s.inspectCoord)
        ∧ e = m.endAt s.inspectCoord := by
    simp only [State.marksInWindow, List.mem_map, List.mem_filter, decide_eq_true_iff, eq_comm (a := e)]
  have splice : e ∈ (if s.fabricMatches then [] else s.matchingSplice.toList) ↔
      s.wtr.headFabric ≠ some id ∧ ∃ m, s.nearestSplice id m ∧ e = m.stop := by
    rw [Ne, ← State.fabricMatches_iff head named, State.matchingSplice_eq head named]
    cases s.fabricMatches <;> simp [State.find?_ahead_iff, eq_comm (a := e)]
  rw [State.appliedEnds, List.mem_append, window, splice]

/-- Settles O31: the conditions by `armMet_iff`, the target as the greatest of the ends that apply. -/
theorem armConditions : Obligations.ArmConditions := by
  intro s job id head named splice nearest inWindow applies
  have ends (e : Int) : e ∈ s.appliedEnds ↔ applies e := State.mem_appliedEnds_iff head named e
  refine ⟨State.armMet_iff head named, ?_, fun x => ?_, s.exists_nearestSplice_iff id,
    fun sorted m first k mem ahead => State.nearestSplice.least first sorted mem ahead⟩
  · rw [State.newTarget_eq, Option.map_eq_none_iff, greatest_eq_none_iff]
    exact forall_congr' fun e => not_congr (ends e)
  · simp only [State.newTarget_eq, Option.map_eq_some_iff, greatest_eq_some_iff, ends, and_assoc, eq_comm (a := x)]

end Sys2Proof.Machine
end

section
/-! SUPPORT. The end of a WAIT in RUNNING and in WASTE, and what SEQ does at the end of an event (R44, R47, R55, R59 to R61).
Settles O35. -/

namespace Sys2Proof.Machine

theorem exec_waitEnd {s : State} (mode : s.seq.mode = .runWait) : exec .waitEnd s = .next (s.reach s.waitExpiry).settle :=
  congrArg Host.Outcome.next (if_pos mode)

/-- The event of a WAIT's end finds the WAIT run. -/
theorem State.waitRun_reach {s : State} (free : s.held = false) :
    (s.reach s.waitExpiry).waitRun (s.reach s.waitExpiry).settle :=
  State.waitRun_settle (s := s.reach s.waitExpiry) free (le_max_right _ _)

/-- Not held, the walk to a forming record next begins its feed, which stands. -/
theorem State.walkOn_begins {s : State} {p : OpenPanel} {r : StepRecord} (panel : s.seq.openPanel = some p)
    (free : s.held = false) (next : s.headJobSteps[p.pointer + 1]? = some r) (forming : r.forming) : s.walkOn =
      (s.onSeq fun q => { q with step := none, openPanel := some { p with pointer := p.pointer + 1 } }).beginFeed r := by
  rw [State.walkOn_forming panel next forming, State.takeWalk_forming _ _ _ free]
  simp [State.onSeq, panel]

@[simp] theorem State.beginFeed_clock (s : State) (r : StepRecord) : (s.beginFeed r).clock = s.clock := by
  rw [State.beginFeed_eq]
  rfl

/-- The begin of a step's feed asks for no belt index. -/
@[simp] theorem State.beginFeed_pendingIdx (s : State) (r : StepRecord) :
    (s.beginFeed r).str.pendingIdx = s.str.pendingIdx := by
  rw [State.beginFeed_str]
  split <;> rfl

@[simp] theorem State.beginFeed_moving (s : State) (r : StepRecord) : (s.beginFeed r).str.moving = s.str.moving := by
  rw [State.beginFeed_str]
  split <;> rfl

/-- A hold point is left for HOLDING. -/
theorem SeqMode.whenHeld_ne {m : SeqMode} (point : m = .armed ∨ m = .wasteWait ∨ m = .runWait) : m.whenHeld ≠ m := by
  rcases point with rfl | rfl | rfl <;> nofun

theorem State.settle_of_hold_point {s : State} (held : s.held = true)
    (point : s.seq.mode = .armed ∨ s.seq.mode = .wasteWait ∨ s.seq.mode = .runWait) :
    s.settle = { s with seq := { s.seq with mode := s.seq.mode.whenHeld }, evu := s.evu.raise .seqHold } := by
  rw [State.settle_of_held held, Evu.whenHeld, if_neg (SeqMode.whenHeld_ne point)]

/-- Settles O35: the two events by what a WAIT that has run turns into, and the end of an event mode by mode. -/
theorem waitsEnd : Obligations.WaitsEnd := by
  intro s
  refine ⟨fun other => congrArg Host.Outcome.next (if_neg other), fun other => congrArg Host.Outcome.next (if_neg other), ?_, ?_,
    ?_⟩
  · intro mode free r record st step p panel now
    have expiry : now = max s.clock s.waitExpiry := by
      simp only [now, State.waitExpiry, State.waitInterval, mode, step]
      cases s.seq.lastStrokeStart <;> rfl
    obtain ⟨running, -⟩ := State.waitRun_reach (s := s) free
    obtain ⟨stroke, -⟩ := running mode r record st step
    rw [expiry]
    refine ⟨fun pleat => ?_, fun spacer next found forming => ⟨_, execWaitEnd_spacer mode free record step spacer, ?_⟩⟩
    · rw [exec_waitEnd mode, stroke pleat]
      rfl
    · rw [State.walkOn_begins (by exact panel) (by exact free) (by exact found) forming,
        State.armedStart_of_not_armed (by simp)]
      exact ⟨State.beginFeed_clock _ next, by simp [State.indexBelt], by simp, State.stepFed_beginFeed _ next,
        State.beginFeed_pendingIdx _ next, State.beginFeed_moving _ next⟩
  · intro mode free c chunk target aim ahead now a
    have expiry : now = max s.clock s.waitExpiry := by
      simp only [now, State.waitExpiry, State.waitInterval, mode, chunk]
      cases s.seq.lastStrokeStart <;> rfl
    obtain ⟨-, waste⟩ := State.waitRun_reach (s := s) free
    obtain ⟨feeds, -⟩ := waste mode c chunk target aim
    rw [expiry, exec_wasteWaitEnd mode]
    exact congrArg Host.Outcome.next (feeds ahead)
  · intro q
    refine ⟨fun held => ⟨State.settle_of_hold_point held, fun p mode => ?_⟩, fun free => ⟨fun mode st step => ?_,
      fun mode c chunk => ?_, fun mode => ?_, fun mode => ?_, fun mode => ?_, fun mode jobs => ?_, fun mode r record => ?_⟩⟩
    · exact State.settle_of_atRest (by simp [State.atRest, mode, held])
    · rw [State.waiting_iff_of_runWait mode step]
      exact ⟨State.settle_of_waiting (.inl mode) free, fun run => State.waitRun_settle free (not_lt.mp run)⟩
    · rw [State.waiting_iff_of_wasteWait mode chunk]
      exact ⟨State.settle_of_waiting (.inr mode) free, fun run => State.waitRun_settle free (not_lt.mp run)⟩
    · rw [State.settle_of_armed mode free, State.armedStart]
      exact if_congr ⟨And.right, And.intro mode⟩ rfl rfl
    · exact State.settle_of_holding_runWait mode free
    · exact State.settle_of_holding_wasteWait mode free
    · rw [State.settle_of_holding_armed mode free, State.toArmed_of_free jobs free]
      exact (State.settle_of_armed (s := s.setMode .armed) rfl free).symm
    · rw [State.settle_of_holding_runFeed mode free record]
      exact s.stepFed_beginFeed r

end Sys2Proof.Machine
end

section
/-! SUPPORT. CANCEL JOB (R40, R44, R47, R105): another job, the head job with and without a stay in WASTE. Settles O24. -/

namespace Sys2Proof.Machine

/-! ## The head job leaves -/

/-- With no job left the zone profile stands. -/
theorem State.zonesFor_nil (s : State) (segments : List Segment) : s.zonesFor [] segments = s.zsv := rfl

theorem State.removeHead_eq (s : State) : s.removeHead =
    { s with seq := { s.seq with jobs := s.seq.jobs.tail }, zsv := s.zonesFor s.seq.jobs.tail s.str.segments } :=
  zonesOnly_switchTest (s.onSeq fun q => { q with jobs := q.jobs.tail })

theorem State.held_removeHead (s : State) : s.removeHead.held = s.held := s.held_headLeaves

theorem State.panelOpen_of_none {s : State} (shut : s.seq.openPanel = none) : s.panelOpen = false := by
  simp [State.panelOpen, shut]

theorem State.panelOpen_of_ne_none {s : State} (opened : s.seq.openPanel ≠ none) : s.panelOpen = true :=
  Option.isSome_iff_ne_none.mpr opened

section
variable {s : State} {j : Job} {rest : List Job} (queue : s.seq.jobs = j :: rest)
include queue

theorem State.headJob_of_cons : s.headJob = some j := by simp [State.headJob, queue]

theorem State.markHeadCancelled_eq : s.markHeadCancelled =
    { s with seq := { s.seq with jobs := { j with cancelPending := true } :: rest } } := by
  simp [State.markHeadCancelled, State.onSeq, queue]

/-- A stay that CANCEL JOB of the head job ends: the job leaves with JOB_DONE. -/
theorem State.endStay_markHeadCancelled : s.markHeadCancelled.endStay =
    { s with
      seq := { s.seq with jobs := rest, chunk := none, wasteTarget := none, lastStrokeStart := none }
      zsv := s.zonesFor rest s.str.segments, evu := s.evu.raise .jobDone } := by
  have cancelled : s.markHeadCancelled.headCancelPending = true := by
    rw [State.markHeadCancelled_eq queue]
    rfl
  rw [State.endStay_cancelled cancelled, State.zonesFor_congr (s := s) rfl, State.markHeadCancelled_eq queue]
  rfl

end

/-! ## CANCEL JOB of the head job -/

theorem State.cancelHead_of_marked {s : State} (stays : s.panelOpen = true ∨ s.seq.mode = .wasteFeed) :
    s.cancelHead = s.markHeadCancelled := by
  unfold State.cancelHead
  rcases stays with opened | feeding
  · rw [if_pos opened]
  · rw [feeding]
    exact ite_self _

theorem State.cancelHead_of_wasteWait {s : State} (shut : s.seq.openPanel = none) (mode : s.seq.mode = .wasteWait) :
    s.cancelHead = s.markHeadCancelled.endStay.toArmed := by
  simp only [State.cancelHead, State.panelOpen_of_none shut, mode]
  rfl

theorem State.cancelHead_of_holding_wasteWait {s : State} (shut : s.seq.openPanel = none)
    (mode : s.seq.mode = .holding .wasteWait) :
    s.cancelHead = s.markHeadCancelled.endStay.setMode (.holding .armed) := by
  simp only [State.cancelHead, State.panelOpen_of_none shut, mode]
  rfl

/-- With no panel open and no stay in WASTE the head job leaves at once. -/
theorem State.cancelHead_of_no_stay {s : State} (shut : s.seq.openPanel = none) (rests : s.seq.mode.inWaste = false) :
    s.cancelHead = if s.seq.jobs.tail.isEmpty then s.removeHead.toIdle else s.removeHead := by
  have left : s.removeHead.seq.jobs = s.seq.jobs.tail := by rw [State.removeHead_eq]
  unfold State.cancelHead
  rw [State.panelOpen_of_none shut, if_neg Bool.false_ne_true, left]
  split
  case h_1 mode | h_2 mode | h_3 mode => simp [mode, SeqMode.inWaste] at rests
  case h_4 => rfl

/-! ## The request -/

section
variable (tag : BitVec 16) {p : List Byte} {s : State} (taken : s.taken) (two : p.length = 2)
include taken two

theorem exec_cancelJob_noSuch (none : ∀ j ∈ s.seq.jobs, j.jobId ≠ fieldAt p 0 2) :
    exec (.cancelJob tag p) s = .next (s.onlyReplies 0x21#8 tag [0x06#8]) := by
  have unknown : (s.restartSilence.seq.jobs.any fun j => j.jobId == fieldAt p 0 2) = false := by simpa using none
  refine congrArg Host.Outcome.next (hostRequest_refused 0x21#8 .configuredOnly handleCancelJob tag p taken ?_)
  simp only [handleCancelJob, two, unknown]
  rfl

variable {j : Job} {rest : List Job} (queue : s.seq.jobs = j :: rest)
include queue

theorem exec_cancelJob_other (other : j.jobId ≠ fieldAt p 0 2) (queued : ∃ k ∈ rest, k.jobId = fieldAt p 0 2) :
    exec (.cancelJob tag p) s = .next (({ s.restartSilence with
      seq := { s.seq with jobs := j :: rest.filter fun k => k.jobId != fieldAt p 0 2 } } : State).pushReply
        0x21#8 tag [0x00#8]) := by
  have known : (s.restartSilence.seq.jobs.any fun j => j.jobId == fieldAt p 0 2) = true := by
    obtain ⟨k, mem, same⟩ := queued
    exact List.any_eq_true.mpr ⟨k, by rw [State.restartSilence_seq, queue]; exact List.mem_cons_of_mem _ mem, by simp [same]⟩
  have head : ¬s.restartSilence.headJob.map Job.jobId = some (fieldAt p 0 2) := by
    rw [State.headJob_of_cons (s := s.restartSilence) queue]
    simpa using other
  have removed : handleCancelJob p s.restartSilence = (({ s.restartSilence with
      seq := { s.seq with jobs := j :: rest.filter fun k => k.jobId != fieldAt p 0 2 } } : State), [0x00#8]) := by
    simp only [handleCancelJob, two, known, if_neg head]
    simp [State.onSeq, queue, other, statusOnly, Status.code]
  refine congrArg Host.Outcome.next ?_
  rw [hostRequest_taken 0x21#8 .configuredOnly handleCancelJob tag p taken, removed]

theorem exec_cancelJob_head (head : j.jobId = fieldAt p 0 2) :
    exec (.cancelJob tag p) s = .next (s.restartSilence.cancelHead.settle.pushReply 0x21#8 tag [0x00#8]) := by
  have known : (s.restartSilence.seq.jobs.any fun j => j.jobId == fieldAt p 0 2) = true := by
    rw [State.restartSilence_seq, queue]
    simp [head]
  have first : s.restartSilence.headJob.map Job.jobId = some (fieldAt p 0 2) := by
    rw [State.headJob_of_cons (s := s.restartSilence) queue, Option.map_some, head]
  have cancelled : handleCancelJob p s.restartSilence = (s.restartSilence.cancelHead.settle, [0x00#8]) := by
    simp only [handleCancelJob, two, known, if_pos first]
    rfl
  refine congrArg Host.Outcome.next ?_
  rw [hostRequest_taken 0x21#8 .configuredOnly handleCancelJob tag p taken, cancelled]

end

/-- The zones for another queue do not follow the silence timer. -/
theorem State.zonesFor_restartSilence (s : State) (jobs : List Job) (segments : List Segment) :
    s.restartSilence.zonesFor jobs segments = s.zonesFor jobs segments :=
  State.zonesFor_congr (s := s) (t := s.restartSilence) rfl _ _

/-- Settles O24: each clause by what `cancelHead` does there, and what the end of the event leaves or takes. -/
theorem jobCancelled : Obligations.JobCancelled := by
  intro tag p s taken two id does
  refine ⟨exec_cancelJob_noSuch tag taken two, fun j rest queue => ⟨exec_cancelJob_other tag taken two queue, fun head => ?_⟩⟩
  have cancels := exec_cancelJob_head tag taken two queue head
  have ended := State.endStay_markHeadCancelled (s := s.restartSilence) queue
  rw [State.zonesFor_restartSilence s rest s.restartSilence.str.segments] at ended
  intro marked
  refine ⟨fun stays => ?_, fun shut rests => ⟨?_, fun empty => ?_⟩, fun shut mode held => ?_, fun shut mode => ?_⟩
  · have settled : marked.settle = marked := stays.elim (fun ⟨_, rest⟩ => State.settle_of_atRest rest)
      fun feeding => State.settle_of_stands (by exact feeding ▸ rfl)
    have marks : s.restartSilence.panelOpen = true ∨ s.restartSilence.seq.mode = .wasteFeed :=
      stays.imp (fun ⟨opened, _⟩ => State.panelOpen_of_ne_none opened) fun feeding => feeding
    rw [State.cancelHead_of_marked marks,
      State.markHeadCancelled_eq (s := s.restartSilence) queue] at cancels
    exact cancels.trans (congrArg (fun t : State => Host.Outcome.next (t.pushReply 0x21#8 tag [0x00#8])) settled)
  · intro more left
    have gone : s.restartSilence.removeHead = left := by
      rw [State.removeHead_eq, State.zonesFor_restartSilence, State.restartSilence_seq, queue]
      rfl
    have modeLeft : left.seq.mode = s.seq.mode := rfl
    have heldLeft : left.held = s.held := gone ▸ s.restartSilence.held_removeHead
    rw [State.cancelHead_of_no_stay (s := s.restartSilence) shut rests, State.restartSilence_seq, queue, List.tail_cons,
      if_neg (by exact mt List.isEmpty_iff.mp more), gone] at cancels
    refine ⟨fun stands => ?_, fun mode free => ?_⟩
    · have settled : left.settle = left := by
        rcases stands with mode | ⟨r, mode⟩ | ⟨⟨p, mode⟩, held⟩
        · exact State.settle_of_stands (by simp [modeLeft, mode, SeqMode.stands])
        · exact State.settle_of_stands (by simp [modeLeft, mode, SeqMode.stands])
        · exact State.settle_of_atRest (by simp [State.atRest, heldLeft, held, modeLeft, mode])
      rwa [settled] at cancels
    · rwa [State.settle_of_armed (by exact mode) (heldLeft.trans free)] at cancels
  · rw [State.cancelHead_of_no_stay (s := s.restartSilence) shut rests, State.removeHead_eq, State.restartSilence_seq, queue,
      List.tail_cons, empty, State.settle_of_stands (by rfl)] at cancels
    exact cancels
  · rw [State.cancelHead_of_holding_wasteWait (s := s.restartSilence) shut mode, State.settle_of_atRest, ended] at cancels
    · exact cancels
    · simp only [State.atRest, State.setMode_seq]
      exact (State.held_endStay _).trans held
  · intro left
    have heldEnded : s.restartSilence.markHeadCancelled.endStay.held = s.held := State.held_endStay _
    have jobs : s.restartSilence.markHeadCancelled.endStay.seq.jobs = rest := by rw [ended]
    rw [State.cancelHead_of_wasteWait (s := s.restartSilence) shut mode, State.settle_toArmed] at cancels
    refine ⟨fun empty => ?_, fun more held => ?_, fun more free => ?_⟩
    · rw [State.toArmed_of_empty (jobs.trans empty), State.armedStart_of_not_armed (by exact nofun), ended] at cancels
      exact cancels
    · rw [State.toArmed_of_held (jobs ▸ more) (heldEnded.trans held), State.armedStart_of_not_armed (by exact nofun),
        ended] at cancels
      exact cancels
    · rw [State.toArmed_of_free (jobs ▸ more) (heldEnded.trans free), ended] at cancels
      exact cancels

end Sys2Proof.Machine
end

section
/-! SUPPORT. The walk on at the end of an event, and RESUME from each state of SEQ (R44, R47, R51, R55, R59). Settles O28. -/

namespace Sys2Proof.Machine

/-! ## The walk on -/

/-- Held, the walk to a forming record next stops in HOLDING before its feed (R44). -/
theorem State.walkOn_holds {s : State} {p : OpenPanel} {r : StepRecord} (panel : s.seq.openPanel = some p)
    (held : s.held = true) (next : s.headJobSteps[p.pointer + 1]? = some r) (forming : r.forming) : s.walkOn =
      (s.onSeq fun q => { q with step := none, openPanel := some { p with pointer := p.pointer + 1 } }).enterHolding
        .runFeed := by
  rw [State.walkOn_forming panel next forming, State.takeWalk_held _ _ _ held]
  simp [State.onSeq, panel]

/-- Where the walk comes to a step or ends the panel, only the standing trigger is left to take. -/
theorem State.settle_takeWalk (s : State) (w : WalkStop) : (s.takeWalk w).settle = (s.takeWalk w).armedStart := by
  cases w with
  | forming i r cs =>
    cases held : s.held with
    | true =>
      rw [State.takeWalk_held i r cs held]
      exact State.settle_eq_armedStart_of_holding rfl held
    | false =>
      rw [State.takeWalk_forming i r cs held]
      exact State.settle_eq_armedStart_of_stands (by simp [SeqMode.stands])
  | ended i => exact State.settle_toArmed _
  | lost => exact State.settle_toArmed _

theorem State.settle_walkOn {s : State} (opened : s.seq.openPanel ≠ none) : s.walkOn.settle = s.walkOn.armedStart := by
  obtain ⟨p, panel⟩ := Option.ne_none_iff_exists'.mp opened
  simp only [State.walkOn, panel, State.settle_takeWalk]

/-- COMP_LIMIT is all that the begin of a step's feed can change of the segments. -/
theorem State.beginFeed_foldsMissed (s : State) (r : StepRecord) :
    (s.beginFeed r).str.segments.map Segment.foldsMissed = s.str.segments.map Segment.foldsMissed := by
  rw [State.beginFeed_str]
  split
  · exact map_modifyLast_unseen _ (fun g : Segment => g.setFlags PanelFlags.setCompLimit) (fun _ => rfl) _
  · rfl

/-- The next step of the open panel, with a forming record there: its FEED, or HOLDING before it. -/
theorem State.walkOn_next {s : State} {p : OpenPanel} {r : StepRecord} (panel : s.seq.openPanel = some p)
    (next : s.headJobSteps[p.pointer + 1]? = some r) (forming : r.forming) :
    s.walkOn.settle = s.walkOn ∧ s.walkOn.seq.openPanel = some { p with pointer := p.pointer + 1 }
      ∧ s.walkOn.seq.lastStrokeStart = s.seq.lastStrokeStart ∧ s.walkOn.seq.bladePort = s.seq.bladePort
      ∧ s.walkOn.str.segments.map Segment.foldsMissed = s.str.segments.map Segment.foldsMissed
      ∧ (s.held = false → s.stepFed s.walkOn r)
      ∧ (s.held = true → s.walkOn.seq.mode = .holding .runFeed ∧ s.walkOn.evu = s.evu.raise .seqHold
          ∧ s.walkOn.fca = s.fca) := by
  rw [State.settle_walkOn (by simp [panel])]
  cases held : s.held with
  | false =>
    rw [State.walkOn_begins panel held next forming, State.armedStart_of_not_armed (by simp)]
    exact ⟨rfl, by simp, by simp, by simp, State.beginFeed_foldsMissed _ r, fun _ => State.stepFed_beginFeed _ r, nofun⟩
  | true =>
    rw [State.walkOn_holds panel held next forming, State.armedStart_of_not_armed (by exact nofun)]
    exact ⟨rfl, rfl, rfl, rfl, rfl, nofun, fun _ => ⟨rfl, rfl, rfl⟩⟩

/-! ## RESUME -/

theorem State.releaseHolds_eq (s : State) : s.releaseHolds = { s with seq := { s.seq with
    hostHold := false, silentHold := false, rollHold := if s.rcu.change = none then false else s.seq.rollHold } } := by
  simp [State.releaseHolds, State.onSeq]

section
variable (tag : BitVec 16) {s : State} (taken : s.taken)
include taken

theorem exec_resume_refused (guard : s.seq.guardIsOpen = true) :
    exec (.resume tag []) s = .next (s.onlyReplies 0x26#8 tag [0x02#8]) := by
  have refused : handleResume [] s.restartSilence = (s.restartSilence, [0x02#8]) := if_pos guard
  exact congrArg Host.Outcome.next (hostRequest_refused 0x26#8 .configuredOnly handleResume tag [] taken refused)

variable (shut : s.seq.guardIsOpen = false)
include shut

theorem exec_resume_unfaulted (working : ∀ r, s.seq.mode ≠ .fault r) :
    exec (.resume tag []) s = .next (s.restartSilence.releaseHolds.settle.pushReply 0x26#8 tag [0x00#8]) := by
  have released : handleResume [] s.restartSilence = (s.restartSilence.releaseHolds.settle, [0x00#8]) := by
    rw [handleResume, if_neg (by simp), if_neg (by simp [shut])]
    split
    · next r mode => exact absurd mode (working r)
    · rfl
  refine congrArg Host.Outcome.next ?_
  rw [hostRequest_taken 0x26#8 .configuredOnly handleResume tag [] taken, released]

theorem exec_resume_faulted {r : SeqFaultReason} (mode : s.seq.mode = .fault r) :
    exec (.resume tag []) s =
      .next (s.restartSilence.releaseHolds.leaveFault.settle.pushReply 0x26#8 tag [0x00#8]) := by
  have released : handleResume [] s.restartSilence = (s.restartSilence.releaseHolds.leaveFault.settle, [0x00#8]) := by
    simp only [handleResume, State.restartSilence_seq, shut, mode]
    rfl
  refine congrArg Host.Outcome.next ?_
  rw [hostRequest_taken 0x26#8 .configuredOnly handleResume tag [] taken, released]

end

/-- A motion in progress stands through the end of an event. -/
theorem SeqMode.stands_of_moving {m : SeqMode} (moving : m.moving = true) : m.stands = true := by
  cases m <;> first | rfl | cases moving

theorem State.armedStart_of_not_calm {s : State} (mode : s.seq.mode = .armed)
    (trigger : ¬(s.seq.triggers.source ≠ .command ∨ s.armMet = false)) : s.armedStart = s.startPanel := by
  simp only [not_or, ne_eq, not_not, Bool.not_eq_false] at trigger
  exact State.armedStart_of_armed mode trigger.1 trigger.2

/-- Settles O28: the holds released, then what the end of the event does from each return point and from FAULT. -/
theorem resumeReleases : Obligations.ResumeReleases := by
  intro tag s taken t does mode idle calm
  refine ⟨exec_resume_refused tag taken, fun shut => ⟨fun stands => ?_, fun p holding => ?_, fun r faulted => ?_⟩⟩
  · have working (r : SeqFaultReason) : s.seq.mode ≠ .fault r := fun fault => by
      simp [fault, SeqMode.moving] at stands
    have resumes := exec_resume_unfaulted tag taken shut working
    rw [State.releaseHolds_eq, State.settle_of_stands] at resumes
    · exact resumes
    · show s.seq.mode.stands = true
      rcases stands with idling | moving
      · rw [idling]; rfl
      · exact SeqMode.stands_of_moving moving
  · have modeHeld : t.seq.mode = .holding p := holding
    have resumes : does t.settle := by
      have resumes := exec_resume_unfaulted tag taken shut (by simp [holding])
      rwa [State.releaseHolds_eq] at resumes
    refine ⟨fun held => ?_, fun free => ⟨fun point st step => ?_, fun point c chunk => ?_, fun point empty => ?_,
      fun point jobs => ?_, fun point r record => ?_⟩⟩
    · rwa [State.settle_of_atRest (by simp [State.atRest, modeHeld, held])] at resumes
    · rw [State.settle_of_holding_runWait (by rw [modeHeld, point]) free] at resumes
      refine ⟨fun waits => ?_, fun run => ⟨_, resumes, ?_⟩⟩
      · rwa [State.settle_of_waiting (s := t.setMode .runWait) (.inl rfl) free
          ((State.waiting_iff_of_runWait (s := t.setMode .runWait) rfl step).mp waits)] at resumes
      · exact State.waitRun_settle (s := t.setMode .runWait) free
          (not_lt.mp (mt (State.waiting_iff_of_runWait (s := t.setMode .runWait) rfl step).mpr run))
    · rw [State.settle_of_holding_wasteWait (by rw [modeHeld, point]) free] at resumes
      refine ⟨fun waits => ?_, fun run => ⟨_, resumes, ?_⟩⟩
      · rwa [State.settle_of_waiting (s := t.setMode .wasteWait) (.inr rfl) free
          ((State.waiting_iff_of_wasteWait (s := t.setMode .wasteWait) rfl chunk).mp waits)] at resumes
      · exact State.waitRun_settle (s := t.setMode .wasteWait) free
          (not_lt.mp (mt (State.waiting_iff_of_wasteWait (s := t.setMode .wasteWait) rfl chunk).mpr run))
    · rwa [State.settle_of_holding_armed (by rw [modeHeld, point]) free, State.toArmed_of_empty (by exact empty),
        State.armedStart_of_not_armed (by exact nofun)] at resumes
    · rw [State.settle_of_holding_armed (by rw [modeHeld, point]) free,
        State.toArmed_of_free (by exact jobs) free] at resumes
      refine ⟨fun quiet => ?_, fun trigger => ?_⟩
      · rwa [State.armedStart_of_calm (by exact quiet)] at resumes
      · rwa [State.armedStart_of_not_calm rfl (by exact trigger)] at resumes
    · rw [State.settle_of_holding_runFeed (by rw [modeHeld, point]) free (by exact record)] at resumes
      exact ⟨_, resumes, t.stepFed_beginFeed r, by simp [t]⟩
  · have resumes : does t.leaveFault.settle := by
      have resumes := exec_resume_faulted tag taken shut faulted
      rwa [State.releaseHolds_eq] at resumes
    refine ⟨fun closed => ?_, fun opened => ?_, fun p panel next found forming => ?_⟩
    · have leaves : t.leaveFault = t.toArmed := by
        rw [State.leaveFault, State.panelOpen_of_none (by exact closed)]
        rfl
      rw [leaves, State.settle_toArmed] at resumes
      refine ⟨fun empty => ?_, fun jobs held => ?_, fun jobs free => ⟨fun quiet => ?_, fun trigger => ?_⟩⟩
      · rwa [State.toArmed_of_empty (by exact empty), State.armedStart_of_not_armed (by exact nofun)] at resumes
      · rwa [State.toArmed_of_held (by exact jobs) held, State.armedStart_of_not_armed (by exact nofun)] at resumes
      · rwa [State.toArmed_of_free (by exact jobs) free, State.armedStart_of_calm (by exact quiet)] at resumes
      · rwa [State.toArmed_of_free (by exact jobs) free, State.armedStart_of_not_calm rfl (by exact trigger)] at resumes
    · rwa [State.leaveFault, if_pos (State.panelOpen_of_ne_none (by exact opened)),
        State.settle_walkOn (by exact opened)] at resumes
    · obtain ⟨settled, panel', -, -, -, fed, holds⟩ := State.walkOn_next (s := t) (by exact panel) (by exact found) forming
      rw [State.leaveFault, if_pos (State.panelOpen_of_ne_none (by simp [t, panel])), settled] at resumes
      exact ⟨_, resumes, panel', fed, holds⟩

end Sys2Proof.Machine
end

section
/-! SUPPORT. The end of the work in progress, a panel's or a stay's (R40, R52, R62), what the entry to a state of SEQ leaves, and the
endings that waited for a motion (R49, R52, R53, R64). -/

namespace Sys2Proof.Machine

/-! ## Entry to a state of SEQ -/

/-- `t` is `s` with SEQ in another state: what the state carries and the notices are all that may differ. No chunk or waste target
comes about, and no class is taken back. -/
structure EntersMode (s t : State) : Prop where
  frame : t = { s with
    seq := { s.seq with
      mode := t.seq.mode, paceTimer := t.seq.paceTimer, step := t.seq.step, chunk := t.seq.chunk
      wasteTarget := t.seq.wasteTarget, ending := t.seq.ending }
    evu := t.evu }
  chunk : s.seq.chunk = none → t.seq.chunk = none
  target : s.seq.wasteTarget = none → t.seq.wasteTarget = none
  notices : ∀ i, s.evu.pendingSet.getLsbD i = true → t.evu.pendingSet.getLsbD i = true

namespace EntersMode

theorem refl (s : State) : EntersMode s s := ⟨rfl, id, id, fun _ => id⟩

theorem trans {s t u : State} (h : EntersMode s t) (k : EntersMode t u) : EntersMode s u where
  frame := by
    have step := k.frame
    rw [h.frame] at step
    exact step
  chunk := k.chunk ∘ h.chunk
  target := k.target ∘ h.target
  notices i := k.notices i ∘ h.notices i

theorem setMode (s : State) (m : SeqMode) : EntersMode s (s.setMode m) := ⟨rfl, id, id, fun _ => id⟩

theorem toIdle (s : State) : EntersMode s s.toIdle := ⟨rfl, fun _ => rfl, fun _ => rfl, fun _ => id⟩

theorem enterHolding (s : State) (p : ReturnPoint) : EntersMode s (s.enterHolding p) :=
  ⟨rfl, id, id, fun _ => Evu.raise_getLsbD_of_set .seqHold⟩

theorem enterFault (s : State) (r : SeqFaultReason) : EntersMode s (s.enterFault r) := by
  unfold State.enterFault
  split
  · exact refl s
  · exact ⟨rfl, fun _ => rfl, fun _ => rfl, fun _ => Evu.raise_getLsbD_of_set .seqFault⟩

theorem toArmed (s : State) : EntersMode s s.toArmed := by
  rw [State.toArmed_eq]
  split
  · exact toIdle s
  · split
    · exact enterHolding s .armed
    · exact setMode s .armed

section
variable {s t : State} (h : EntersMode s t)
include h

theorem jobs : t.seq.jobs = s.seq.jobs := by rw [h.frame]
theorem openPanel : t.seq.openPanel = s.seq.openPanel := by rw [h.frame]
theorem lastStrokeStart : t.seq.lastStrokeStart = s.seq.lastStrokeStart := by rw [h.frame]
theorem feedTotal : t.seq.feedTotal = s.seq.feedTotal := by rw [h.frame]
theorem wasteTotal : t.seq.wasteTotal = s.seq.wasteTotal := by rw [h.frame]
theorem triggers : t.seq.triggers = s.seq.triggers := by rw [h.frame]
theorem feedPort : t.seq.feedPort = s.seq.feedPort := by rw [h.frame]
theorem bladePort : t.seq.bladePort = s.seq.bladePort := by rw [h.frame]
theorem guardIsOpen : t.seq.guardIsOpen = s.seq.guardIsOpen := by rw [h.frame]
theorem fca : t.fca = s.fca := by rw [h.frame]
theorem str : t.str = s.str := by rw [h.frame]
theorem zsv : t.zsv = s.zsv := by rw [h.frame]
theorem rcu : t.rcu = s.rcu := by rw [h.frame]
theorem wtr : t.wtr = s.wtr := by rw [h.frame]
theorem clock : t.clock = s.clock := by rw [h.frame]
theorem pst : t.pst = s.pst := by rw [h.frame]
theorem slm : t.slm = s.slm := by rw [h.frame]
theorem line : t.line = s.line := by rw [h.frame]
theorem holdReasons : t.holdReasons = s.holdReasons := by rw [h.frame]; rfl

/-- What the end of a panel leaves is left by the entry to a state after it. -/
theorem panelEnded {r : State} {reachedEnd : Bool} (ended : r.panelEnded s reachedEnd) : r.panelEnded t reachedEnd := by
  unfold State.panelEnded at *
  rw [h.openPanel, h.lastStrokeStart, h.fca, h.str, h.jobs, h.zsv]
  obtain ⟨panel, stroke, lp, segments, last, left⟩ := ended
  refine ⟨panel, stroke, lp, segments, last, fun j rest queue => ?_⟩
  have outcome := left j rest queue
  split at outcome
  · next done =>
    obtain ⟨rest', notice, zones⟩ := outcome
    rw [if_pos done]
    exact ⟨rest', h.notices 2 notice, zones⟩
  · next more =>
    rw [if_neg more]
    exact outcome

end

end EntersMode

/-! ## The end of the work in progress -/

theorem State.endWork_of_panel {s : State} (opened : s.seq.openPanel ≠ none) : s.endWork = s.endPanel false :=
  if_pos (State.panelOpen_of_ne_none opened)

theorem State.endWork_of_stay {s : State} (shut : s.seq.openPanel = none) (stays : s.seq.mode.inWaste = true) :
    s.endWork = s.endStay := by
  simp only [State.endWork, State.panelOpen_of_none shut, stays]
  rfl

theorem State.endWork_of_none {s : State} (shut : s.seq.openPanel = none) (rests : s.seq.mode.inWaste = false) :
    s.endWork = s := by
  simp only [State.endWork, State.panelOpen_of_none shut, rests]
  rfl

theorem State.openPanel_endWork (s : State) : s.endWork.seq.openPanel = none := by
  by_cases shut : s.seq.openPanel = none
  · cases stays : s.seq.mode.inWaste with
    | true =>
      rw [State.endWork_of_stay shut stays]
      cases cancelled : s.headCancelPending with
      | true => rw [State.endStay_cancelled cancelled]; exact shut
      | false => rw [State.endStay_kept cancelled]; exact shut
    | false => rw [State.endWork_of_none shut stays]; exact shut
  · rw [State.endWork_of_panel shut]
    exact (State.panelEnded_endPanel s false).1

/-- What the end of the work may change: the queue and what a panel or a stay carries, the segments, the zones and the notices. -/
theorem State.endWork_frame (s : State) : s.endWork = { s with
    seq := { s.seq with
      jobs := s.endWork.seq.jobs, openPanel := s.endWork.seq.openPanel
      lastStrokeStart := s.endWork.seq.lastStrokeStart
      step := s.endWork.seq.step, chunk := s.endWork.seq.chunk, wasteTarget := s.endWork.seq.wasteTarget }
    fca := { s.fca with panelLp := s.endWork.fca.panelLp }
    str := s.endWork.str, zsv := s.endWork.zsv, evu := s.endWork.evu } := by
  by_cases shut : s.seq.openPanel = none
  · cases stays : s.seq.mode.inWaste with
    | true =>
      rw [State.endWork_of_stay shut stays]
      cases cancelled : s.headCancelPending with
      | true => rw [State.endStay_cancelled cancelled]; rfl
      | false => rw [State.endStay_kept cancelled]; rfl
    | false => rw [State.endWork_of_none shut stays]
  · rw [State.endWork_of_panel shut, State.endPanel_eq]
    split <;> rfl

@[simp] theorem State.endWork_mode (s : State) : s.endWork.seq.mode = s.seq.mode := by rw [State.endWork_frame]
@[simp] theorem State.endWork_feedTotal (s : State) : s.endWork.seq.feedTotal = s.seq.feedTotal := by rw [State.endWork_frame]
@[simp] theorem State.endWork_wasteTotal (s : State) : s.endWork.seq.wasteTotal = s.seq.wasteTotal := by rw [State.endWork_frame]
@[simp] theorem State.endWork_triggers (s : State) : s.endWork.seq.triggers = s.seq.triggers := by rw [State.endWork_frame]
@[simp] theorem State.endWork_feedPort (s : State) : s.endWork.seq.feedPort = s.seq.feedPort := by rw [State.endWork_frame]
@[simp] theorem State.endWork_bladePort (s : State) : s.endWork.seq.bladePort = s.seq.bladePort := by rw [State.endWork_frame]
@[simp] theorem State.endWork_ending (s : State) : s.endWork.seq.ending = s.seq.ending := by rw [State.endWork_frame]
@[simp] theorem State.endWork_guardIsOpen (s : State) : s.endWork.seq.guardIsOpen = s.seq.guardIsOpen := by rw [State.endWork_frame]
@[simp] theorem State.endWork_wtr (s : State) : s.endWork.wtr = s.wtr := by rw [State.endWork_frame]
@[simp] theorem State.endWork_pst (s : State) : s.endWork.pst = s.pst := by rw [State.endWork_frame]
@[simp] theorem State.endWork_rcu (s : State) : s.endWork.rcu = s.rcu := by rw [State.endWork_frame]
@[simp] theorem State.endWork_slm (s : State) : s.endWork.slm = s.slm := by rw [State.endWork_frame]
@[simp] theorem State.endWork_clock (s : State) : s.endWork.clock = s.clock := by rw [State.endWork_frame]

/-- The zones after the end of the work are as they were, or tested for the queue that is left. -/
theorem State.zsv_endWork (s : State) :
    s.endWork.zsv = s.zsv ∨ ∃ jobs segments, s.endWork.zsv = s.zonesFor jobs segments := by
  by_cases shut : s.seq.openPanel = none
  · cases stays : s.seq.mode.inWaste with
    | true =>
      rw [State.endWork_of_stay shut stays]
      cases cancelled : s.headCancelPending with
      | true =>
        obtain ⟨-, -, zones⟩ := State.endStay_jobs_of_cancelled cancelled
        exact .inr ⟨_, _, zones⟩
      | false => exact .inl (State.endStay_jobs_of_kept cancelled).2
    | false => exact .inl (by rw [State.endWork_of_none shut stays])
  · rw [State.endWork_of_panel shut, State.endPanel_eq]
    split
    · exact .inr ⟨_, _, rfl⟩
    · exact .inl rfl

theorem State.anyZoneFault_endWork (s : State) : s.endWork.anyZoneFault = s.anyZoneFault := by
  refine FaultsKept.anyZoneFault (fun i => ?_) (by rw [State.endWork_frame])
  obtain same | ⟨jobs, segments, tested⟩ := s.zsv_endWork
  · simp only [State.zone, same]
  · simp only [State.zone, tested]
    exact faultsKept_switchTest _ i

theorem State.held_endWork (s : State) : s.endWork.held = s.held := by
  have zones := s.anyZoneFault_endWork
  rw [State.endWork_frame] at zones ⊢
  exact State.held_congr rfl rfl rfl rfl zones

theorem State.holdReasons_endWork (s : State) : s.endWork.holdReasons = s.holdReasons := by
  have zones := s.anyZoneFault_endWork
  rw [State.endWork_frame] at zones ⊢
  simp only [State.holdReasons, zones]

/-- What the end of the work leaves: of a panel, what `panelEnded` says; of a stay in WASTE, no chunk and no waste target, and a
cancel-pending head job gone with the zone profile tested for the next; of neither, the queue and the zones (R40, R62, R90). -/
def State.workEnded (s t : State) : Prop :=
  (s.seq.openPanel ≠ none → s.panelEnded t false)
  ∧ (s.seq.openPanel = none → t.seq.openPanel = none ∧ t.str = s.str ∧ t.fca = s.fca
    ∧ (s.seq.mode.inWaste = false → t.seq.jobs = s.seq.jobs ∧ t.zsv = s.zsv)
    ∧ (s.seq.mode.inWaste = true → t.seq.chunk = none ∧ t.seq.wasteTarget = none
      ∧ (s.headCancelPending = false → t.seq.jobs = s.seq.jobs ∧ t.zsv = s.zsv)
      ∧ (s.headCancelPending = true → t.seq.jobs = s.seq.jobs.tail ∧ t.evu.pendingSet.getLsbD 2 = true
        ∧ t.zsv = s.zonesFor s.seq.jobs.tail s.str.segments)))

theorem State.workEnded_endWork (s : State) : s.workEnded s.endWork := by
  refine ⟨fun opened => ?_, fun shut => ?_⟩
  · rw [State.endWork_of_panel opened]
    exact s.panelEnded_endPanel false
  · refine ⟨s.openPanel_endWork, ?_⟩
    cases stays : s.seq.mode.inWaste with
    | false =>
      rw [State.endWork_of_none shut stays]
      exact ⟨rfl, rfl, fun _ => ⟨rfl, rfl⟩, nofun⟩
    | true =>
      rw [State.endWork_of_stay shut stays]
      obtain ⟨chunk, target, -, str, fca, -, -, -⟩ := s.endStay_frame
      exact ⟨str, fca, nofun, fun _ =>
        ⟨chunk, target, State.endStay_jobs_of_kept, State.endStay_jobs_of_cancelled⟩⟩

/-- The entry to a state keeps what the end of the work left. -/
theorem EntersMode.workEnded {r s t : State} (h : EntersMode s t) (ended : r.workEnded s) : r.workEnded t := by
  obtain ⟨panel, none⟩ := ended
  refine ⟨fun opened => h.panelEnded (panel opened), fun shut => ?_⟩
  obtain ⟨gone, str, fca, rests, stays⟩ := none shut
  refine ⟨h.openPanel.trans gone, h.str.trans str, h.fca.trans fca, fun none => ?_, fun waste => ?_⟩
  · rw [h.jobs, h.zsv]
    exact rests none
  · obtain ⟨chunk, target, kept, cancelled⟩ := stays waste
    rw [h.jobs, h.zsv]
    refine ⟨h.chunk chunk, h.target target, kept, fun pending => ?_⟩
    obtain ⟨left, notice, zones⟩ := cancelled pending
    exact ⟨left, h.notices 2 notice, zones⟩

theorem State.panelEnded_congr {r s t : State} (view : r.zoneView = s.zoneView) (jobs : r.seq.jobs = s.seq.jobs)
    (str : r.str = s.str) {reachedEnd : Bool} (ended : r.panelEnded t reachedEnd) : s.panelEnded t reachedEnd := by
  have zsv : r.zsv = s.zsv := State.zsv_of_zoneView view
  unfold State.panelEnded at *
  simp only [State.zonesFor_congr (s := s) (t := r) view, jobs, str, zsv] at ended
  exact ended

/-- What the end of the work leaves follows, of the state before, the queue, the panel, the stay, FCA, STR and what the switch
test reads. -/
theorem State.workEnded_congr {r s t : State} (view : r.zoneView = s.zoneView) (jobs : r.seq.jobs = s.seq.jobs)
    (panel : r.seq.openPanel = s.seq.openPanel) (stay : r.seq.mode.inWaste = s.seq.mode.inWaste) (fca : r.fca = s.fca)
    (str : r.str = s.str) (ended : r.workEnded t) : s.workEnded t := by
  have zsv : r.zsv = s.zsv := State.zsv_of_zoneView view
  have cancel : r.headCancelPending = s.headCancelPending := by simp only [State.headCancelPending, State.headJob, jobs]
  obtain ⟨opened, shut⟩ := ended
  rw [panel] at opened shut
  refine ⟨fun some => State.panelEnded_congr view jobs str (opened some), fun none => ?_⟩
  have left := shut none
  simp only [State.zonesFor_congr (s := s) (t := r) view, jobs, str, zsv, fca, stay, cancel] at left
  exact left

/-- The outcome of a stay that has ended, for each head job. -/
theorem State.workEnded.stay {s t : State} (ended : s.workEnded t) (shut : s.seq.openPanel = none)
    (stays : s.seq.mode.inWaste = true) (j : Job) (rest : List Job) (queue : s.seq.jobs = j :: rest) :
    (j.cancelPending = false → t.seq.jobs = s.seq.jobs ∧ t.zsv = s.zsv)
    ∧ (j.cancelPending = true → t.seq.jobs = rest ∧ t.evu.pendingSet.getLsbD 2 = true
      ∧ t.zsv = s.zonesFor rest s.str.segments) := by
  obtain ⟨-, none⟩ := ended
  obtain ⟨-, -, -, -, stay⟩ := none shut
  obtain ⟨-, -, left⟩ := stay stays
  rwa [State.headCancelPending_eq (State.headJob_of_cons queue), queue, List.tail_cons, ← queue] at left

/-! ## The endings that waited for a motion -/

/-- The work that an ending waited for is over, and no ending waits. -/
def State.workFinished (s : State) : State := (s.onSeq fun q => { q with ending := Ending.none }).endWork

theorem State.workFinished_ending (s : State) : s.workFinished.seq.ending = Ending.none := State.endWork_ending _

theorem State.workFinished_mode (s : State) : s.workFinished.seq.mode = s.seq.mode := State.endWork_mode _

theorem State.held_workFinished (s : State) : s.workFinished.held = s.held := State.held_endWork _

theorem State.workEnded_workFinished (s : State) : s.workEnded s.workFinished :=
  State.workEnded_congr (r := s.onSeq fun q => { q with ending := Ending.none }) rfl rfl rfl rfl rfl rfl
    (State.workEnded_endWork _)

section
variable {s : State}

theorem State.finishEnding_of_stop (stop : s.seq.ending.stop = true) : s.finishEnding =
    (if s.seq.ending.webEnd then s.workFinished.enterFault .webEnd else s.workFinished).toIdle := if_pos stop

theorem State.finishEnding_of_webEnd (stop : s.seq.ending.stop = false) (web : s.seq.ending.webEnd = true) :
    s.finishEnding = s.workFinished.enterFault .webEnd := by
  simp only [State.finishEnding, stop, web]
  rfl

theorem State.finishEnding_of_abort (stop : s.seq.ending.stop = false) (web : s.seq.ending.webEnd = false) :
    s.finishEnding = s.workFinished.toArmed := by
  simp only [State.finishEnding, stop, web]
  rfl

end

theorem EntersMode.finishEnding (s : State) : EntersMode s.workFinished s.finishEnding := by
  cases stop : s.seq.ending.stop with
  | true =>
    rw [State.finishEnding_of_stop stop]
    split
    · exact (EntersMode.enterFault _ .webEnd).trans (.toIdle _)
    · exact .toIdle _
  | false =>
    cases web : s.seq.ending.webEnd with
    | true => exact State.finishEnding_of_webEnd stop web ▸ .enterFault _ .webEnd
    | false => exact State.finishEnding_of_abort stop web ▸ .toArmed _

theorem State.workEnded_finishEnding (s : State) : s.workEnded s.finishEnding :=
  (EntersMode.finishEnding s).workEnded s.workEnded_workFinished

section
variable (s : State)

theorem State.finishEnding_wtr : s.finishEnding.wtr = s.wtr :=
  (EntersMode.finishEnding s).wtr.trans (State.endWork_wtr _)
theorem State.finishEnding_pst : s.finishEnding.pst = s.pst :=
  (EntersMode.finishEnding s).pst.trans (State.endWork_pst _)
theorem State.finishEnding_rcu : s.finishEnding.rcu = s.rcu :=
  (EntersMode.finishEnding s).rcu.trans (State.endWork_rcu _)
theorem State.finishEnding_slm : s.finishEnding.slm = s.slm :=
  (EntersMode.finishEnding s).slm.trans (State.endWork_slm _)
theorem State.finishEnding_clock : s.finishEnding.clock = s.clock :=
  (EntersMode.finishEnding s).clock.trans (State.endWork_clock _)
theorem State.finishEnding_feedTotal : s.finishEnding.seq.feedTotal = s.seq.feedTotal :=
  (EntersMode.finishEnding s).feedTotal.trans (State.endWork_feedTotal _)
theorem State.finishEnding_wasteTotal : s.finishEnding.seq.wasteTotal = s.seq.wasteTotal :=
  (EntersMode.finishEnding s).wasteTotal.trans (State.endWork_wasteTotal _)
theorem State.finishEnding_triggers : s.finishEnding.seq.triggers = s.seq.triggers :=
  (EntersMode.finishEnding s).triggers.trans (State.endWork_triggers _)
theorem State.finishEnding_feedPort : s.finishEnding.seq.feedPort = s.seq.feedPort :=
  (EntersMode.finishEnding s).feedPort.trans (State.endWork_feedPort _)
theorem State.finishEnding_bladePort : s.finishEnding.seq.bladePort = s.seq.bladePort :=
  (EntersMode.finishEnding s).bladePort.trans (State.endWork_bladePort _)

end

theorem State.enterFault_mode (s : State) (r : SeqFaultReason) : (s.enterFault r).seq.mode = .fault r := by
  unfold State.enterFault
  split
  · next same => exact same
  · rfl

theorem State.enterFault_ending (s : State) (r : SeqFaultReason) : (s.enterFault r).seq.ending = s.seq.ending := by
  unfold State.enterFault
  split <;> rfl

/-- SEQ_FAULT is raised at the entry to FAULT, and where the reason changes (R184). -/
theorem State.enterFault_notice {s : State} {r : SeqFaultReason} (other : s.seq.mode ≠ .fault r) :
    (s.enterFault r).evu.pendingSet.getLsbD 4 = true := by
  rw [State.enterFault, if_neg other]
  exact Evu.raise_getLsbD_self s.evu .seqFault

theorem State.toArmed_ending {s : State} (none : s.seq.ending = Ending.none) : s.toArmed.seq.ending = Ending.none := by
  rw [State.toArmed_eq]
  split
  · rfl
  · split <;> exact none

/-- Where SEQ goes after a panel or a stay that was to end: STOP LINE before a web end, a web end before ABORT PANEL (log 9). -/
theorem State.finishEnding_mode (s : State) : s.finishEnding.seq.mode =
    if s.seq.ending.stop then .idle else if s.seq.ending.webEnd then .fault .webEnd
    else if s.finishEnding.seq.jobs = [] then .idle else if s.held then .holding .armed else .armed := by
  cases stop : s.seq.ending.stop with
  | true =>
    rw [State.finishEnding_of_stop stop]
    rfl
  | false =>
    cases web : s.seq.ending.webEnd with
    | true =>
      rw [State.finishEnding_of_webEnd stop web]
      exact State.enterFault_mode _ .webEnd
    | false =>
      rw [State.finishEnding_of_abort stop web, ← s.held_workFinished]
      exact State.toArmed_mode _

theorem State.finishEnding_ending (s : State) : s.finishEnding.seq.ending = Ending.none := by
  cases stop : s.seq.ending.stop with
  | true =>
    rw [State.finishEnding_of_stop stop]
    rfl
  | false =>
    cases web : s.seq.ending.webEnd with
    | true => rw [State.finishEnding_of_webEnd stop web, State.enterFault_ending, s.workFinished_ending]
    | false =>
      rw [State.finishEnding_of_abort stop web]
      exact State.toArmed_ending s.workFinished_ending

/-- A web end that waited raises SEQ_FAULT, with a STOP LINE or without. -/
theorem State.finishEnding_notice {s : State} (web : s.seq.ending.webEnd = true) (other : s.seq.mode ≠ .fault .webEnd) :
    s.finishEnding.evu.pendingSet.getLsbD 4 = true := by
  have raised : (s.workFinished.enterFault .webEnd).evu.pendingSet.getLsbD 4 = true :=
    State.enterFault_notice (s.workFinished_mode ▸ other)
  cases stop : s.seq.ending.stop with
  | true =>
    rw [State.finishEnding_of_stop stop, if_pos web]
    exact raised
  | false => exact State.finishEnding_of_webEnd stop web ▸ raised

/-- After the endings that waited nothing is left for SEQ to do but a standing trigger. -/
theorem State.settle_finishEnding (s : State) : s.finishEnding.settle = s.finishEnding.armedStart := by
  cases stop : s.seq.ending.stop with
  | true =>
    rw [State.finishEnding_of_stop stop]
    exact State.settle_eq_armedStart_of_stands rfl
  | false =>
    cases web : s.seq.ending.webEnd with
    | true =>
      rw [State.finishEnding_of_webEnd stop web]
      exact State.settle_eq_armedStart_of_stands (by rw [State.enterFault_mode]; rfl)
    | false =>
      rw [State.finishEnding_of_abort stop web]
      exact State.settle_toArmed _

end Sys2Proof.Machine
end

section
/-! SUPPORT. ABORT PANEL and STOP LINE (R40, R47, R49, R52, R53): refused, waiting for a motion, and at once. Settles O29. -/

namespace Sys2Proof.Machine

/-! ## ABORT PANEL -/

theorem State.abortRefused_of_shut {s : State} (rests : s.seq.mode = .idle ∨ s.seq.mode = .armed
    ∨ (s.seq.openPanel = none ∧ ((∃ p, s.seq.mode = .holding p) ∨ ∃ r, s.seq.mode = .fault r))) : s.abortRefused = true := by
  unfold State.abortRefused
  rcases rests with mode | mode | ⟨shut, ⟨p, mode⟩ | ⟨r, mode⟩⟩
  · rw [mode]
  · rw [mode]
  all_goals simp [mode, State.panelOpen_of_none shut]

section
variable (tag : BitVec 16) {s : State} (taken : s.taken)
include taken

theorem exec_abortPanel_refused (refused : s.abortRefused = true) :
    exec (.abortPanel tag []) s = .next (s.onlyReplies 0x27#8 tag [0x02#8]) := by
  refine congrArg Host.Outcome.next (hostRequest_refused 0x27#8 .configuredOnly handleAbortPanel tag [] taken ?_)
  exact (if_neg (by simp)).trans (if_pos refused)

theorem exec_abortPanel_accepted (accepted : s.abortRefused = false) :
    exec (.abortPanel tag []) s = .next (s.restartSilence.abortPanel.settle.pushReply 0x27#8 tag [0x00#8]) := by
  have handled : handleAbortPanel [] s.restartSilence = (s.restartSilence.abortPanel.settle, [0x00#8]) :=
    (if_neg (by simp)).trans (if_neg (Bool.eq_false_iff.mp accepted))
  refine congrArg Host.Outcome.next ?_
  rw [hostRequest_taken 0x27#8 .configuredOnly handleAbortPanel tag [] taken, handled]

theorem exec_stopLine :
    exec (.stopLine tag []) s = .next (s.restartSilence.stopLine.pushReply 0x28#8 tag [0x00#8]) := by
  have handled : handleStopLine [] s.restartSilence = (s.restartSilence.stopLine, [0x00#8]) := if_neg (by simp)
  refine congrArg Host.Outcome.next ?_
  rw [hostRequest_taken 0x28#8 .configuredOnly handleStopLine tag [] taken, handled]

end

theorem State.abortPanel_of_moving {s : State} (moving : s.seq.mode.moving = true) :
    s.abortPanel = s.onSeq fun q => { q with ending := { q.ending with abort := true } } := by
  unfold State.abortPanel
  cases mode : s.seq.mode <;> simp [mode, SeqMode.moving] at moving <;> rfl

theorem State.abortPanel_of_waiting {s : State} (mode : s.seq.mode = .wasteWait ∨ s.seq.mode = .runWait) :
    s.abortPanel = s.endWork.toArmed := by
  unfold State.abortPanel
  rcases mode with mode | mode <;> rw [mode]

/-- What the end of the work in a WAIT leaves to the standing trigger: SEQ, not held, is IDLE or ARMED. -/
theorem State.toArmed_endWork_mode {s : State} (free : s.held = false) : s.endWork.toArmed.seq.mode =
    if s.endWork.toArmed.seq.jobs = [] then .idle else .armed := by
  have free' := s.held_endWork.trans free
  rw [State.toArmed_mode, free']
  rfl

/-! ## STOP LINE -/

theorem State.stopLine_of_moving {s : State} (moving : s.seq.mode.moving = true) :
    s.stopLine = s.onSeq fun q => { q with ending := { q.ending with stop := true } } := by
  unfold State.stopLine
  cases mode : s.seq.mode <;> simp [mode, SeqMode.moving] at moving <;> rfl

theorem State.stopLine_of_still {s : State} (working : s.seq.mode ≠ .idle) (still : s.seq.mode.moving = false) :
    s.stopLine = s.endWork.toIdle := by
  unfold State.stopLine
  cases mode : s.seq.mode <;> simp [mode, SeqMode.moving] at working still <;> rfl

/-- What ends the work of the silence-restarted state ends that of the state. -/
theorem State.workEnded_of_restartSilence {s t : State} (ended : s.restartSilence.workEnded t) : s.workEnded t :=
  State.workEnded_congr (r := s.restartSilence) rfl rfl rfl rfl rfl rfl ended

/-- Settles O29: each clause by what the command does in that state; the end of the work by `workEnded_endWork`. -/
theorem panelAbortedLineStopped : Obligations.PanelAbortedLineStopped := by
  refine ⟨fun tag s taken => ?_, fun tag s taken => ?_⟩
  · intro does stands
    have ended := State.workEnded_of_restartSilence s.restartSilence.workEnded_endWork
    refine ⟨fun rests => exec_abortPanel_refused tag taken (State.abortRefused_of_shut rests), fun moving => ?_,
      fun p mode opened held => ?_, fun r mode opened => ?_, fun opened mode free => ?_, fun shut mode free => ?_⟩
    · have accepted : s.abortRefused = false := by
        unfold State.abortRefused
        cases mode : s.seq.mode <;> simp [mode, SeqMode.moving] at moving ⊢
      have aborts := exec_abortPanel_accepted tag taken accepted
      rw [State.abortPanel_of_moving (s := s.restartSilence) moving,
        State.settle_of_stands (by exact SeqMode.stands_of_moving moving)] at aborts
      exact aborts
    · have aborts := exec_abortPanel_accepted tag taken (by simp [State.abortRefused, mode, State.panelOpen_of_ne_none opened])
      have acts : s.restartSilence.abortPanel = (s.restartSilence.endPanel false).setMode (.holding .armed) := by
        simp only [State.abortPanel, State.restartSilence_seq, mode]
      rw [acts, State.settle_of_atRest] at aborts
      · refine ⟨_, aborts, ?_, rfl⟩
        exact State.panelEnded_congr (r := s.restartSilence) (s := s) rfl rfl rfl
          ((EntersMode.setMode _ _).panelEnded (State.panelEnded_endPanel _ false))
      · exact (State.held_endPanel _ false).trans held
    · have aborts := exec_abortPanel_accepted tag taken (by simp [State.abortRefused, mode, State.panelOpen_of_ne_none opened])
      have acts : s.restartSilence.abortPanel = s.restartSilence.endWork := by
        rw [State.endWork_of_panel (s := s.restartSilence) opened]
        simp only [State.abortPanel, State.restartSilence_seq, mode]
      have faulted : s.restartSilence.endWork.seq.mode = .fault r := (State.endWork_mode _).trans mode
      rw [acts, State.settle_of_stands (by rw [faulted]; rfl)] at aborts
      exact ⟨_, aborts, ended.1 opened, faulted⟩
    all_goals
      have aborts := exec_abortPanel_accepted tag taken (by simp [State.abortRefused, mode])
      have enters := EntersMode.toArmed s.restartSilence.endWork
      rw [State.abortPanel_of_waiting (s := s.restartSilence) (by simp [mode]), State.settle_toArmed] at aborts
      have endedThere := enters.workEnded ended
      have stand : stands s.restartSilence.endWork.toArmed :=
        ⟨enters.wtr.trans (State.endWork_wtr _), enters.pst.trans (State.endWork_pst _), enters.rcu.trans (State.endWork_rcu _),
          enters.slm.trans (State.endWork_slm _), enters.clock.trans (State.endWork_clock _),
          enters.triggers.trans (State.endWork_triggers _), enters.feedTotal.trans (State.endWork_feedTotal _)⟩
      have goes := State.toArmed_endWork_mode (s := s.restartSilence) free
    · exact ⟨_, aborts, endedThere.1 opened, stand, goes⟩
    · have stays : s.seq.mode.inWaste = true := by rw [mode]; rfl
      obtain ⟨-, str, fca, -, stay⟩ := endedThere.2 shut
      obtain ⟨chunk, target, -⟩ := stay stays
      refine ⟨_, aborts, stand, str, fca, enters.wasteTotal.trans (State.endWork_wasteTotal _), chunk, target, goes,
        fun j rest queue => ?_⟩
      obtain ⟨kept, left⟩ := endedThere.stay shut stays j rest queue
      exact ⟨kept, fun pending => have ⟨jobs, notice, zones⟩ := left pending; ⟨jobs, zones, notice⟩⟩
  · intro does
    have stops := exec_stopLine tag taken
    refine ⟨fun mode => ?_, fun moving => ?_, fun working still => ?_⟩
    · have idle : s.restartSilence.stopLine = s.restartSilence := by
        simp only [State.stopLine, State.restartSilence_seq, mode]
      rwa [idle] at stops
    · rwa [State.stopLine_of_moving (s := s.restartSilence) moving] at stops
    · rw [State.stopLine_of_still (s := s.restartSilence) working still] at stops
      have enters := EntersMode.toIdle s.restartSilence.endWork
      have ended := enters.workEnded (State.workEnded_of_restartSilence s.restartSilence.workEnded_endWork)
      refine ⟨_, stops, rfl, rfl, enters.holdReasons.trans (State.holdReasons_endWork _),
        enters.feedTotal.trans (State.endWork_feedTotal _), enters.wasteTotal.trans (State.endWork_wasteTotal _),
        enters.triggers.trans (State.endWork_triggers _), ended.1, fun shut => ?_⟩
      obtain ⟨-, str, -, rests, -⟩ := ended.2 shut
      refine ⟨str, rests, fun stays j rest queue => ?_⟩
      obtain ⟨kept, left⟩ := ended.stay shut stays j rest queue
      exact ⟨kept, fun pending => have ⟨jobs, notice, zones⟩ := left pending; ⟨jobs, zones, notice⟩⟩

end Sys2Proof.Machine
end

section
/-! SUPPORT. The advance of the pleat head (R63, R70, R73, R76 to R78): the open mark's growth and close, the marks reached and passed,
and what the advance leaves. Settles O34. -/

namespace Sys2Proof.Machine

/-! ## The open mark -/

theorem find?_isOpen_of_shut {l : List Mark} (shut : ∀ m ∈ l, m.isOpen = false) : l.find? Mark.isOpen = none :=
  List.find?_eq_none.mpr fun m mem => by simp [shut m mem]

theorem find?_isOpen_of_only {before after : List Mark} {m : Mark} (opened : m.isOpen = true)
    (shut : ∀ k ∈ before ++ after, k.isOpen = false) : (before ++ m :: after).find? Mark.isOpen = some m := by
  have none : before.find? Mark.isOpen = none :=
    find?_isOpen_of_shut fun k mem => shut k (List.mem_append_left _ mem)
  simp [List.find?_append, none, opened]

theorem filter_not_isOpen_of_only {before after : List Mark} {m : Mark} (opened : m.isOpen = true)
    (shut : ∀ k ∈ before ++ after, k.isOpen = false) :
    ((before ++ m :: after).filter fun x => !x.isOpen) = before ++ after := by
  have kept (l : List Mark) (sub : ∀ k ∈ l, k ∈ before ++ after) : (l.filter fun x => !x.isOpen) = l :=
    List.filter_eq_self.mpr fun k mem => by simp [shut k (sub k mem)]
  rw [List.filter_append, List.filter_cons_of_neg (by simp [opened]), kept _ fun k => List.mem_append_left _,
    kept _ fun k => List.mem_append_right _]

/-- The open mark of a stored extent reaches at least the inspection coordinate. -/
theorem Mark.endAt_of_isOpen {m : Mark} (opened : m.isOpen = true) (extent : m.coord < m.stop) (inspect : Int) :
    m.endAt inspect = max m.stop inspect := by
  rw [Mark.endAt, if_pos opened]
  omega

theorem State.growOpenMark_of_shut {s : State} (shut : ∀ m ∈ s.wtr.marks, m.isOpen = false) :
    s.growOpenMark.wtr.marks = s.wtr.marks := by
  rw [State.growOpenMark, find?_isOpen_of_shut shut]

theorem State.growOpenMark_of_open {s : State} {before after : List Mark} {m : Mark}
    (list : s.wtr.marks = before ++ m :: after) (opened : m.isOpen = true)
    (shut : ∀ k ∈ before ++ after, k.isOpen = false) : s.growOpenMark.wtr.marks =
      (placeRegion s.freeCtr s.inspectCoord { m with stop := m.endAt s.inspectCoord } (before ++ after)).2 := by
  rw [State.growOpenMark, list, find?_isOpen_of_only opened shut]
  show (placeRegion _ _ _ (s.wtr.marks.filter fun x => !x.isOpen)).2 = _
  rw [list, filter_not_isOpen_of_only opened shut]

/-- The growth reaches the marks alone. -/
theorem State.growOpenMark_eq (s : State) :
    s.growOpenMark = { s with wtr := { s.wtr with marks := s.growOpenMark.wtr.marks } } := by
  unfold State.growOpenMark
  split <;> rfl

/-! ## The marks reached -/

/-- The marks of a list that the head reaches for the first time (R76). -/
def newlyReached (head : Int) (l : List Mark) : List Mark := l.filter fun m => !m.reached && decide (m.coord ≤ head)

theorem Mark.isDefect_kind (m : Mark) : m.kind.isDefect = !m.isSplice := by
  unfold MarkKind.isDefect Mark.isSplice
  cases m.kind <;> rfl

theorem fabricAfter_of_defect {m : Mark} (defect : m.isSplice = false) (fabric : Option Nat) : fabricAfter fabric m = fabric := by
  unfold fabricAfter
  unfold Mark.isSplice at defect
  cases kind : m.kind <;> simp [kind] at defect ⊢

theorem foldl_fabricAfter_of_defects {l : List Mark} (defects : ∀ m ∈ l, m.isSplice = false) (fabric : Option Nat) :
    l.foldl fabricAfter fabric = fabric := by
  induction l generalizing fabric with
  | nil => rfl
  | cons m rest ih =>
    rw [List.foldl_cons, fabricAfter_of_defect (defects m List.mem_cons_self), ih fun k mem => defects k (List.mem_cons_of_mem _ mem)]

/-- The last SPLICE gives the head fabric profile. -/
theorem foldl_fabricAfter_of_last_splice {before after : List Mark} {m : Mark} {p : Nat} (splice : m.kind = .splice p)
    (defects : ∀ x ∈ after, x.isSplice = false) (fabric : Option Nat) :
    (before ++ m :: after).foldl fabricAfter fabric = some p := by
  have named (f : Option Nat) : fabricAfter f m = some p := by simp [fabricAfter, splice]
  rw [List.foldl_append, List.foldl_cons, named, foldl_fabricAfter_of_defects defects]

/-- The segments once the open panel has taken the kinds of marks newly reached. -/
def State.reachedStr (s : State) (now : List Mark) : Str :=
  if s.panelOpen then
    { s.str with segments := modifyLast (fun g => { g with flags := { g.flags with
        splice := g.flags.splice || now.any Mark.isSplice
        defect := g.flags.defect || now.any fun m => !m.isSplice } }) s.str.segments }
  else s.str

theorem State.reachMarks_eq (s : State) : s.reachMarks =
    { s with
      wtr := { s.wtr with
        marks := s.wtr.marks.map fun m => if m.coord ≤ s.headCoord then { m with reached := true } else m
        headFabric := (newlyReached s.headCoord s.wtr.marks).foldl fabricAfter s.wtr.headFabric }
      str := s.reachedStr (newlyReached s.headCoord s.wtr.marks) } := by
  have kinds : (fun m : Mark => m.kind.isDefect) = fun m => !m.isSplice := funext Mark.isDefect_kind
  unfold State.reachMarks State.reachedStr
  dsimp only
  rw [kinds]
  split <;> rfl

/-! ## The advance -/

/-- The marks once the open mark has grown and a pending close is made (R73, R78). -/
def State.advancedMarks (s : State) : List Mark :=
  if s.wtr.closePending then s.growOpenMark.wtr.marks.map (Mark.close s.inspectCoord) else s.growOpenMark.wtr.marks

theorem State.closed_eq (s : State) :
    (if s.growOpenMark.wtr.closePending then s.growOpenMark.closeOpenMark else s.growOpenMark) =
      { s with wtr := { s.wtr with marks := s.advancedMarks, closePending := false } } := by
  unfold State.advancedMarks
  cases pending : s.wtr.closePending with
  | true =>
    rw [State.growOpenMark_eq]
    simp only [pending]
    rfl
  | false =>
    rw [State.growOpenMark_eq]
    simp only [pending]
    rfl

/-- What an advance makes of WTR and of the open panel's segment, in the order of R78. -/
theorem State.takeAdvance_eq (s : State) : s.takeAdvance =
    { s with
      wtr := { s.wtr with
        marks := (s.advancedMarks.map fun m => if m.coord ≤ s.headCoord then { m with reached := true } else m).filter
          fun m => m.isOpen || decide (s.headCoord < m.stop)
        headFabric := (newlyReached s.headCoord s.advancedMarks).foldl fabricAfter s.wtr.headFabric
        closePending := false }
      str := s.reachedStr (newlyReached s.headCoord s.advancedMarks) } := by
  unfold State.takeAdvance
  dsimp only
  rw [State.closed_eq, State.reachMarks_eq]
  rfl

/-- The counts of a feed: in the feed total, and in RUNNING in the raw counts of the open segment (R58). -/
def State.fed (s : State) (counts : Nat) : State :=
  { s with
    seq := { s.seq with feedTotal := s.seq.feedTotal + counts, feedPort := none }
    str := if s.seq.mode = .runFeed
      then { s.str with segments := modifyLast (fun g => { g with rawCounts := g.rawCounts + counts }) s.str.segments }
      else s.str }

theorem State.feedAdvance_eq (s : State) (counts : Nat) : s.feedAdvance counts = (s.fed counts).takeAdvance := by
  unfold State.feedAdvance State.fed
  dsimp only
  split <;> rfl

/-- An advance reaches the feed total, the feed, WTR and the segments. -/
theorem State.feedAdvance_frame (s : State) (counts : Nat) : s.feedAdvance counts =
    { s with
      seq := { s.seq with feedTotal := s.seq.feedTotal + counts, feedPort := none }
      wtr := (s.feedAdvance counts).wtr, str := (s.feedAdvance counts).str } := by
  rw [State.feedAdvance_eq, State.takeAdvance_eq]
  rfl

theorem State.growOpenMark_marks_guard (s : State) (level : Bool) :
    ({ s with seq := { s.seq with guardIsOpen := level } } : State).growOpenMark.wtr.marks = s.growOpenMark.wtr.marks := by
  unfold State.growOpenMark
  dsimp only
  cases s.wtr.marks.find? Mark.isOpen <;> rfl

theorem State.advancedMarks_guard (s : State) (level : Bool) :
    ({ s with seq := { s.seq with guardIsOpen := level } } : State).advancedMarks = s.advancedMarks := by
  unfold State.advancedMarks
  rw [State.growOpenMark_marks_guard]
  rfl

/-- An advance does not follow the GUARD input. -/
theorem State.feedAdvance_guard (s : State) (level : Bool) (counts : Nat) :
    ({ s with seq := { s.seq with guardIsOpen := level } } : State).feedAdvance counts =
      { s.feedAdvance counts with seq := { (s.feedAdvance counts).seq with guardIsOpen := level } } := by
  have marks : (({ s with seq := { s.seq with guardIsOpen := level } } : State).fed counts).advancedMarks =
      (s.fed counts).advancedMarks := (s.fed counts).advancedMarks_guard level
  rw [State.feedAdvance_eq, State.feedAdvance_eq, State.takeAdvance_eq, State.takeAdvance_eq, marks]
  rfl

/-! ## The events that advance the head -/

section
variable {s : State}

theorem execFeedDone_of_none (still : s.seq.feedPort = none) : exec .feedDone s = .next s := by
  show execFeedDone s = _
  simp only [execFeedDone, still]

/-- What SEQ does at FEED_DONE once WTR has taken the advance. -/
def State.afterFeed (t : State) : State :=
  if t.seq.ending.any then t.finishEnding
  else if t.seq.mode = .wasteFeed then
    if t.headCancelPending then t.endStay.toArmed else t.setMode .wasteWait
  else t.setMode .runWait

theorem execFeedDone_of_some {c : Nat} (feeding : s.seq.feedPort = some c) :
    exec .feedDone s = .next (s.feedAdvance c).afterFeed.settle.useFree := by
  show execFeedDone s = _
  simp only [execFeedDone, feeding]
  rfl

theorem execGuardOpen_idle (fed moved : Nat) (idle : s.seq.mode = .idle) :
    exec (.guardOpen fed moved) s = .next { s with seq := { s.seq with guardIsOpen := true } } :=
  congrArg Host.Outcome.next (if_pos (beq_iff_eq.mpr idle))

theorem execGuardOpen_working (fed moved : Nat) (working : s.seq.mode ≠ .idle) : exec (.guardOpen fed moved) s =
    .next ((s.onSeq fun q => { q with guardIsOpen := true }).guardStop fed moved).useFree :=
  congrArg Host.Outcome.next (if_neg (mt beq_iff_eq.mp working))

end

theorem LineOnly.wtr {s t : State} (h : LineOnly s t) : t.wtr = s.wtr := by
  unfold LineOnly at h
  rw [h]

theorem BeltOnly.wtr {s t : State} (h : BeltOnly s t) : t.wtr = s.wtr := by
  unfold BeltOnly at h
  rw [h]

theorem State.afterFeed_wtr (t : State) : t.afterFeed.wtr = t.wtr := by
  unfold State.afterFeed
  split
  · exact (EntersMode.finishEnding t).wtr.trans (State.endWork_wtr _)
  · split
    · split
      · obtain ⟨-, -, -, -, -, wtr, -, -⟩ := t.endStay_frame
        exact (EntersMode.toArmed _).wtr.trans wtr
      · rfl
    · rfl

/-- GUARD_OPEN leaves WTR as the advance of the feed in progress does. -/
theorem State.guardStop_wtr (s : State) (fed moved : Nat) :
    (s.guardStop fed moved).wtr = if s.seq.feedPort = none then s.wtr else (s.feedAdvance fed).wtr := by
  have belt (a : State) : (a.stopBelt moved).wtr = a.wtr := (beltOnly_stopBelt a moved).wtr
  unfold State.guardStop
  dsimp only
  rw [(EntersMode.enterFault _ .guard).wtr, State.endWork_wtr, belt]
  unfold State.feeding
  cases s.seq.feedPort <;> rfl

/-- Settles O34: the advance by `takeAdvance_eq`; the events by what else they leave of WTR. -/
theorem advanceReachesMarks : Obligations.AdvanceReachesMarks := by
  intro s c head inspect t closed
  have advance : t = (s.fed c).takeAdvance := s.feedAdvance_eq c
  have closes : closed = Mark.close inspect := by
    funext ⟨kind, coord, stop, reached⟩
    cases kind with
    | splice p => rfl
    | defect tag o => cases o <;> rfl
  have taken := (s.fed c).takeAdvance_eq
  rw [← advance] at taken
  refine ⟨?_, ?_, fun feeding => ?_, fun working moved => ?_, fun m opened extent => Mark.endAt_of_isOpen opened extent inspect,
    ?_, ?_, ?_, fun grown grows => ?_⟩
  · rw [taken]; rfl
  · rw [taken]; rfl
  · refine ⟨_, execFeedDone_of_some feeding, ?_⟩
    have settled : t.afterFeed.settle.wtr = t.afterFeed.wtr := (lineOnly_settle _).wtr
    exact settled.trans t.afterFeed_wtr
  · refine ⟨_, execGuardOpen_working c moved working, fun feeding => ?_, fun still => ?_⟩
    · have guarded : ((s.onSeq fun q => { q with guardIsOpen := true }).feedAdvance c).wtr = t.wtr :=
        (congrArg State.wtr (s.feedAdvance_guard true c)).trans rfl
      exact (State.guardStop_wtr _ c moved).trans ((if_neg feeding).trans guarded)
    · exact (State.guardStop_wtr _ c moved).trans (if_pos still)
  · rw [taken]
  · rw [taken]; rfl
  · rw [taken]; rfl
  · intro list now
    have marks : (s.fed c).advancedMarks = list := by
      have grew : (s.fed c).growOpenMark.wtr.marks = grown := by
        rcases grows with ⟨shut, rfl⟩ | ⟨before, m, after, split, opened, shut, rfl⟩
        · exact State.growOpenMark_of_shut shut
        · exact State.growOpenMark_of_open split opened shut
      simp only [list, closes]
      exact congrArg (fun l => if s.wtr.closePending then l.map (Mark.close inspect) else l) grew
    rw [marks] at taken
    refine ⟨?_, fun defects => ?_, fun before m p after new splice defects => ?_, fun running opened => ?_, fun other shut => ?_⟩
    · rw [taken]; rfl
    · rw [taken]; exact foldl_fabricAfter_of_defects defects _
    · rw [taken]
      exact (congrArg (List.foldl fabricAfter s.wtr.headFabric) new).trans
        (foldl_fabricAfter_of_last_splice splice defects _)
    · have str : t.str = (s.fed c).reachedStr now := congrArg State.str taken
      have fed : (s.fed c).str = { s.str with
          segments := modifyLast (fun g => { g with rawCounts := g.rawCounts + c }) s.str.segments } := if_pos running
      rw [str, State.reachedStr, if_pos (State.panelOpen_of_ne_none (s := s.fed c) opened), fed, modifyLast_modifyLast]
    · have str : t.str = (s.fed c).reachedStr now := congrArg State.str taken
      rw [str, State.reachedStr, State.panelOpen_of_none (s := s.fed c) shut]
      exact if_neg other

end Sys2Proof.Machine
end

section
/-! SUPPORT. FEED_DONE (R40, R44, R52, R53, R55, R58, R59, R62, R64): what the advance leaves of each block, the entry to the WAIT, and
the endings that waited for the feed. Settles O33. -/

namespace Sys2Proof.Machine

/-! ## What the advance leaves -/

section
variable (s : State) (c : Nat)

theorem State.feedAdvance_seq : (s.feedAdvance c).seq = { s.seq with feedTotal := s.seq.feedTotal + c, feedPort := none } := by
  rw [State.feedAdvance_frame]

@[simp] theorem State.feedAdvance_mode : (s.feedAdvance c).seq.mode = s.seq.mode := by rw [State.feedAdvance_frame]
@[simp] theorem State.feedAdvance_ending : (s.feedAdvance c).seq.ending = s.seq.ending := by rw [State.feedAdvance_frame]
@[simp] theorem State.feedAdvance_triggers : (s.feedAdvance c).seq.triggers = s.seq.triggers := by
  rw [State.feedAdvance_frame]
@[simp] theorem State.feedAdvance_feedTotal : (s.feedAdvance c).seq.feedTotal = s.seq.feedTotal + c := by
  rw [State.feedAdvance_frame]
@[simp] theorem State.feedAdvance_wasteTotal : (s.feedAdvance c).seq.wasteTotal = s.seq.wasteTotal := by
  rw [State.feedAdvance_frame]
@[simp] theorem State.feedAdvance_feedPort : (s.feedAdvance c).seq.feedPort = none := by rw [State.feedAdvance_frame]
@[simp] theorem State.feedAdvance_jobs : (s.feedAdvance c).seq.jobs = s.seq.jobs := by rw [State.feedAdvance_frame]
@[simp] theorem State.feedAdvance_openPanel : (s.feedAdvance c).seq.openPanel = s.seq.openPanel := by
  rw [State.feedAdvance_frame]
@[simp] theorem State.feedAdvance_fca : (s.feedAdvance c).fca = s.fca := by rw [State.feedAdvance_frame]
@[simp] theorem State.feedAdvance_zsv : (s.feedAdvance c).zsv = s.zsv := by rw [State.feedAdvance_frame]
@[simp] theorem State.feedAdvance_evu : (s.feedAdvance c).evu = s.evu := by rw [State.feedAdvance_frame]
@[simp] theorem State.feedAdvance_pst : (s.feedAdvance c).pst = s.pst := by rw [State.feedAdvance_frame]
@[simp] theorem State.feedAdvance_rcu : (s.feedAdvance c).rcu = s.rcu := by rw [State.feedAdvance_frame]
@[simp] theorem State.feedAdvance_slm : (s.feedAdvance c).slm = s.slm := by rw [State.feedAdvance_frame]
@[simp] theorem State.feedAdvance_hlp : (s.feedAdvance c).hlp = s.hlp := by rw [State.feedAdvance_frame]
@[simp] theorem State.feedAdvance_clock : (s.feedAdvance c).clock = s.clock := by rw [State.feedAdvance_frame]

theorem State.held_feedAdvance : (s.feedAdvance c).held = s.held := by
  rw [State.feedAdvance_frame]
  rfl

theorem State.headCancelPending_feedAdvance : (s.feedAdvance c).headCancelPending = s.headCancelPending := by
  rw [State.feedAdvance_frame]
  rfl

/-- The WAIT after a feed has run or not as it had before the advance. -/
theorem State.waiting_feedAdvance (m : SeqMode) (interval : Nat) :
    ((s.feedAdvance c).setMode m).waiting interval ↔ s.waiting interval := by
  rw [State.feedAdvance_frame]
  rfl

theorem State.feedAdvance_str : (s.feedAdvance c).str =
    (s.fed c).reachedStr (newlyReached (s.fed c).headCoord (s.fed c).advancedMarks) := by
  rw [State.feedAdvance_eq, State.takeAdvance_eq]

/-- Marks reached change the flags of a segment alone. -/
theorem State.reachedStr_rawCounts (now : List Mark) :
    (s.reachedStr now).segments.map Segment.rawCounts = s.str.segments.map Segment.rawCounts := by
  unfold State.reachedStr
  split
  · refine map_modifyLast_unseen Segment.rawCounts _ (fun _ => ?_) _
    rfl
  · rfl

/-- An advance changes the segments of STR alone. -/
theorem State.feedAdvance_str_eq : (s.feedAdvance c).str = { s.str with segments := (s.feedAdvance c).str.segments } := by
  rw [State.feedAdvance_str]
  unfold State.reachedStr State.fed
  dsimp only
  split <;> split <;> rfl

theorem State.feedAdvance_rawCounts : (s.feedAdvance c).str.segments.map Segment.rawCounts =
    if s.seq.mode = .runFeed then modifyLast (· + c) (s.str.segments.map Segment.rawCounts)
    else s.str.segments.map Segment.rawCounts := by
  rw [State.feedAdvance_str, State.reachedStr_rawCounts]
  unfold State.fed
  dsimp only
  split
  · exact map_modifyLast Segment.rawCounts _ (· + c) (fun _ => rfl) _
  · rfl

variable {s}

theorem State.feedAdvance_str_of_shut (other : s.seq.mode ≠ .runFeed) (shut : s.seq.openPanel = none) :
    (s.feedAdvance c).str = s.str := by
  rw [State.feedAdvance_str, State.reachedStr, State.panelOpen_of_none (s := s.fed c) shut]
  exact if_neg other

end

/-! ## The entry to a WAIT -/

/-- SEQ enters a WAIT that has not run, or where it is held the hold point of it. -/
theorem State.settle_setMode_wait {s : State} {m : SeqMode} (wait : m = .runWait ∨ m = .wasteWait)
    (stays : s.clock < (s.setMode m).waitExpiry ∨ s.held = true) : (s.setMode m).settle =
      { s with
        seq := { s.seq with mode := if s.held then m.whenHeld else m }
        evu := if s.held then s.evu.raise .seqHold else s.evu } := by
  cases held : s.held with
  | true =>
    rw [State.settle_of_hold_point (s := s.setMode m) held (.inr wait.symm)]
    rfl
  | false =>
    rw [State.settle_of_waiting (s := s.setMode m) wait.symm.symm held (stays.resolve_right (by simp [held]))]
    rfl

/-- With nothing waiting the work ends as it does for an ABORT PANEL that waited. -/
theorem State.finishEnding_of_calm {s : State} (calm : s.seq.ending.any = false) : s.finishEnding = s.endWork.toArmed := by
  obtain ⟨⟨abort, stop⟩, web⟩ : (s.seq.ending.abort = false ∧ s.seq.ending.stop = false) ∧ s.seq.ending.webEnd = false := by
    simpa [Ending.any] using calm
  have none : s.seq.ending = Ending.none := by
    cases ending : s.seq.ending
    simp_all [Ending.none]
  have same : s.workFinished = s.endWork := by
    unfold State.workFinished State.onSeq
    rw [← none]
  rw [State.finishEnding_of_abort stop web, same]

section
variable {t : State}

theorem State.afterFeed_of_runFeed (calm : t.seq.ending.any = false) (mode : t.seq.mode = .runFeed) :
    t.afterFeed = t.setMode .runWait := by
  simp [State.afterFeed, calm, mode]

theorem State.afterFeed_of_wasteFeed (calm : t.seq.ending.any = false) (mode : t.seq.mode = .wasteFeed)
    (kept : t.headCancelPending = false) : t.afterFeed = t.setMode .wasteWait := by
  simp [State.afterFeed, calm, mode, kept]

theorem State.afterFeed_of_ending (ending : t.seq.ending.any = true) : t.afterFeed = t.finishEnding := if_pos ending

/-- A stay ends after the feed alike for an ending that waited and for a cancel-pending head job. -/
theorem State.afterFeed_of_stay (mode : t.seq.mode = .wasteFeed) (shut : t.seq.openPanel = none)
    (ends : t.seq.ending.any = true ∨ t.headCancelPending = true) : t.afterFeed = t.finishEnding := by
  cases ending : t.seq.ending.any with
  | true => exact State.afterFeed_of_ending ending
  | false =>
    have cancelled := ends.resolve_left (by simp [ending])
    rw [State.finishEnding_of_calm ending, State.endWork_of_stay shut (by rw [mode]; rfl)]
    simp [State.afterFeed, ending, mode, cancelled]

end

/-- Settles O33: the advance by its frame; the WAITs by `settle_setMode_wait` and `waitRun_settle`; the endings by `finishEnding`. -/
theorem feedCompletes : Obligations.FeedCompletes := by
  intro s
  refine ⟨execFeedDone_of_none, fun c feeding => ?_⟩
  intro total stands
  have done := execFeedDone_of_some feeding
  have free := s.held_feedAdvance c
  have entered (m : SeqMode) : (s.feedAdvance c).setMode m =
      { s.feedAdvance c with seq := { s.seq with feedTotal := total, feedPort := none, mode := m } } := by
    unfold State.setMode State.onSeq
    rw [State.feedAdvance_seq]
  have waitsRun {m : SeqMode} {st : StepRun} (mode : m = .runWait) (step : s.seq.step = some st) :
      s.waiting st.interval ↔ ((s.feedAdvance c).setMode m).clock < ((s.feedAdvance c).setMode m).waitExpiry :=
    (s.waiting_feedAdvance c m _).symm.trans
      (State.waiting_iff_of_runWait mode ((congrArg Seq.step (s.feedAdvance_seq c)).trans step))
  have waitsWaste {m : SeqMode} {k : ChunkRun} (mode : m = .wasteWait) (chunk : s.seq.chunk = some k) :
      s.waiting k.interval ↔ ((s.feedAdvance c).setMode m).clock < ((s.feedAdvance c).setMode m).waitExpiry :=
    (s.waiting_feedAdvance c m _).symm.trans
      (State.waiting_iff_of_wasteWait mode ((congrArg Seq.chunk (s.feedAdvance_seq c)).trans chunk))
  have finished (ends : (s.feedAdvance c).afterFeed = (s.feedAdvance c).finishEnding) :
      exec .feedDone s = .next (s.feedAdvance c).finishEnding.armedStart.useFree := by
    rw [done, ends, State.settle_finishEnding]
  have ended := State.workEnded_finishEnding (s.feedAdvance c)
  have goes := State.finishEnding_mode (s.feedAdvance c)
  rw [State.feedAdvance_ending, free] at goes
  have stand : stands (s.feedAdvance c).finishEnding :=
    ⟨State.finishEnding_wtr _, (State.finishEnding_pst _).trans (s.feedAdvance_pst c),
      (State.finishEnding_rcu _).trans (s.feedAdvance_rcu c), (State.finishEnding_slm _).trans (s.feedAdvance_slm c),
      (State.finishEnding_clock _).trans (s.feedAdvance_clock c),
      (State.finishEnding_triggers _).trans (s.feedAdvance_triggers c)⟩
  have fedOn := (State.finishEnding_feedTotal _).trans (s.feedAdvance_feedTotal c)
  have fedOut := (State.finishEnding_feedPort _).trans (s.feedAdvance_feedPort c)
  refine ⟨fun calm => ⟨fun st step mode stays => ?_, fun k chunk mode kept stays => ?_, ?_⟩, fun ending mode opened => ?_,
    fun ends mode shut => ?_⟩
  · rw [State.afterFeed_of_runFeed (by simpa using calm) (by simpa using mode),
      State.settle_setMode_wait (s := s.feedAdvance c) (.inl rfl) (stays.imp (waitsRun rfl step).mp free.trans), free] at done
    refine ⟨_, done, ?_, ?_, ?_, s.feedAdvance_fca c, s.feedAdvance_zsv c, s.feedAdvance_slm c, s.feedAdvance_rcu c,
      s.feedAdvance_pst c, s.feedAdvance_hlp c, s.feedAdvance_clock c⟩
    · exact congrArg (fun q : Seq => { q with mode := if s.held then .holding .runWait else .runWait }) (s.feedAdvance_seq c)
    · simp only [State.useFree, State.feedAdvance_evu]
    · exact (s.feedAdvance_rawCounts c).trans (if_pos mode)
  · rw [State.afterFeed_of_wasteFeed (by simpa using calm) (by simpa using mode)
        ((s.headCancelPending_feedAdvance c).trans kept),
      State.settle_setMode_wait (s := s.feedAdvance c) (.inr rfl) (stays.imp (waitsWaste rfl chunk).mp free.trans), free] at done
    refine ⟨_, done, ?_, ?_, fun shut => ?_, s.feedAdvance_fca c, s.feedAdvance_zsv c, s.feedAdvance_clock c⟩
    · exact congrArg (fun q : Seq => { q with mode := if s.held then .holding .wasteWait else .wasteWait }) (s.feedAdvance_seq c)
    · simp only [State.useFree, State.feedAdvance_evu]
    · exact State.feedAdvance_str_of_shut c (by simp [mode]) shut
  · intro enteredAt
    have there (m : SeqMode) : enteredAt m = (s.feedAdvance c).setMode m := (entered m).symm
    rw [there, there]
    refine ⟨fun mode free' st step ran => ?_, fun mode kept free' k chunk ran => ?_⟩
    · rw [State.afterFeed_of_runFeed (by simpa using calm) (by simpa using mode)] at done
      refine ⟨_, done, State.waitRun_settle ?_ ?_⟩
      · exact free.trans free'
      · exact not_lt.mp (mt (waitsRun rfl step).mpr ran)
    · rw [State.afterFeed_of_wasteFeed (by simpa using calm) (by simpa using mode)
        ((s.headCancelPending_feedAdvance c).trans kept)] at done
      refine ⟨_, done, State.waitRun_settle ?_ ?_⟩
      · exact free.trans free'
      · exact not_lt.mp (mt (waitsWaste rfl chunk).mpr ran)
  · have ends := finished (State.afterFeed_of_ending (by simpa using ending))
    exact ⟨_, ends, ended.1 (by simpa using opened), fedOn, fedOut, stand, goes⟩
  · have shutThere : (s.feedAdvance c).seq.openPanel = none := (s.feedAdvance_openPanel c).trans shut
    have modeThere : (s.feedAdvance c).seq.mode = .wasteFeed := (s.feedAdvance_mode c).trans mode
    have cancels := s.headCancelPending_feedAdvance c
    have str := State.feedAdvance_str_of_shut (s := s) c (by simp [mode]) shut
    have view : (s.feedAdvance c).zoneView = s.zoneView := by
      rw [State.feedAdvance_frame, str]
      rfl
    have ends := finished (State.afterFeed_of_stay modeThere shutThere (by simpa [cancels] using ends))
    obtain ⟨panel, str', fca, -, stay⟩ := ended.2 shutThere
    obtain ⟨chunk, target, kept, left⟩ := stay (by rw [modeThere]; rfl)
    rw [cancels, s.feedAdvance_jobs c] at kept left
    rw [s.feedAdvance_zsv c] at kept
    rw [State.zonesFor_congr (s := s) (t := s.feedAdvance c) view, str] at left
    exact ⟨_, ends, stand, str'.trans str, fca.trans (s.feedAdvance_fca c), fedOn,
      (State.finishEnding_wasteTotal _).trans (s.feedAdvance_wasteTotal c), fedOut, chunk, target, panel,
      by rw [State.finishEnding_ending]; rfl, kept, left,
      fun web => State.finishEnding_notice (by simpa using web) (by simp [mode]), goes⟩

end Sys2Proof.Machine
end

section
/-! SUPPORT. FOLD edges and STROKE_DONE (R44, R52, R53, R60 to R62, R64): the fold check under each confirm mode, and the endings that
waited for the stroke. Settles O37. -/

namespace Sys2Proof.Machine

/-! ## The events -/

section
variable {s : State}

theorem execFoldEdge_ignored {e : Edge} (other : s.seq.bladePort = none ∨ s.seq.triggers.foldEdge ≠ e) :
    exec (.foldEdge e) s = .next s := by
  refine congrArg Host.Outcome.next (if_neg fun ⟨stroking, same⟩ => ?_)
  exact other.elim (fun none => by simp [none] at stroking) fun different => different same

theorem execFoldEdge_counted {e : Edge} (stroking : s.seq.bladePort ≠ none) (same : s.seq.triggers.foldEdge = e) :
    exec (.foldEdge e) s = .next { s with seq := { s.seq with foldEdges := s.seq.foldEdges + 1 } } :=
  congrArg Host.Outcome.next (if_pos ⟨Option.isSome_iff_ne_none.mpr stroking, same⟩)

theorem execStrokeDone_of_none (still : s.seq.bladePort = none) : exec .strokeDone s = .next s := by
  show execStrokeDone s = _
  simp only [execStrokeDone, still]

/-- The state as the blades have stopped. -/
def State.bladesStopped (s : State) : State := { s with seq := { s.seq with bladePort := none } }

variable {r : StepRecord} (stroking : s.seq.bladePort ≠ none) (record : s.currentRecord = some r)
include stroking record

theorem execStrokeDone_checked {st : StepRun} (calm : s.seq.ending.any = false) (step : s.seq.step = some st) :
    exec .strokeDone s = .next (s.bladesStopped.foldCheck r st.retries).settle := by
  obtain ⟨blades, port⟩ := Option.ne_none_iff_exists'.mp stroking
  show execStrokeDone s = _
  simp only [execStrokeDone, port, record]
  refine congrArg (fun t : State => Host.Outcome.next t.settle) ((if_neg (Bool.eq_false_iff.mp calm)).trans ?_)
  show s.bladesStopped.foldCheck r ((s.seq.step.map StepRun.retries).getD 0) = _
  rw [step]
  rfl

theorem execStrokeDone_ended (ending : s.seq.ending.any = true) :
    exec .strokeDone s = .next (s.bladesStopped.lastFoldCheck r).finishEnding.armedStart := by
  obtain ⟨blades, port⟩ := Option.ne_none_iff_exists'.mp stroking
  rw [← State.settle_finishEnding]
  show execStrokeDone s = _
  simp only [execStrokeDone, port, record]
  exact congrArg (fun t : State => Host.Outcome.next t.settle) (if_pos ending)

end

/-! ## The fold check -/

theorem StepKind.pleat_of_foldsNeeded {k : StepKind} (needs : 0 < k.foldsNeeded) : k = .knife ∨ k = .box ∨ k = .inverted := by
  cases k <;> simp [StepKind.foldsNeeded] at needs ⊢

section
variable {s : State} {r : StepRecord} {retries : Nat}

theorem State.foldCheck_of_folded (folded : r.confirm = .ignore ∨ r.kind.foldsNeeded ≤ s.seq.foldEdges) :
    s.foldCheck r retries = s.walkOn := if_pos folded

variable (missed : ¬r.kind.foldsNeeded ≤ s.seq.foldEdges)
include missed

theorem State.foldCheck_of_stop (mode : r.confirm = .stop) : s.foldCheck r retries = s.foldMissed.enterFault .fold := by
  simp [State.foldCheck, mode, missed]

theorem State.foldCheck_of_retry (mode : r.confirm = .retry) (more : retries < 2) :
    s.foldCheck r retries = s.setMode .runWait := by
  simp [State.foldCheck, mode, missed, more]

/-- SKIP, and RETRY after 2 retries, record the miss and walk on. -/
theorem State.foldCheck_of_recorded (mode : r.confirm = .skip ∨ r.confirm = .retry ∧ 2 ≤ retries) :
    s.foldCheck r retries = s.foldMissed.walkOn := by
  rcases mode with mode | ⟨mode, used⟩
  · simp [State.foldCheck, mode, missed]
  · simp [State.foldCheck, mode, missed, Nat.not_lt.mpr used]

end

theorem State.foldMissed_foldsMissed (s : State) : s.foldMissed.str.segments.map Segment.foldsMissed =
    modifyLast (· + 1) (s.str.segments.map Segment.foldsMissed) :=
  map_modifyLast Segment.foldsMissed Segment.missFold (· + 1) (fun _ => rfl) _

theorem State.lastFoldCheck_eq (s : State) (r : StepRecord) : s.lastFoldCheck r =
    if r.confirm ≠ .ignore ∧ s.seq.foldEdges < r.kind.foldsNeeded then s.foldMissed else s := by
  by_cases missed : r.confirm ≠ .ignore ∧ s.seq.foldEdges < r.kind.foldsNeeded
  · obtain ⟨checks, few⟩ := missed
    rw [if_pos ⟨checks, few⟩]
    exact if_neg (not_or.mpr ⟨checks, not_le.mpr few⟩)
  · rw [if_neg missed]
    refine if_pos ?_
    rwa [not_and_or, not_not, not_lt] at missed

/-! ## What the end of the work leaves of STR -/

/-- The end of the work closes a segment at most. -/
theorem State.endWork_str_eq (s : State) :
    s.endWork.str = { s.str with segments := s.endWork.str.segments, lastEnd := s.endWork.str.lastEnd } := by
  by_cases shut : s.seq.openPanel = none
  · obtain ⟨-, none⟩ := s.workEnded_endWork
    obtain ⟨-, str, -⟩ := none shut
    rw [str]
  · obtain ⟨-, -, str⟩ := s.endPanel_keeps false
    rw [State.endWork_of_panel shut, str]
    rfl

theorem State.finishEnding_str_eq (s : State) : s.finishEnding.str =
    { s.str with segments := s.finishEnding.str.segments, lastEnd := s.finishEnding.str.lastEnd } := by
  rw [(EntersMode.finishEnding s).str]
  exact State.endWork_str_eq _

/-- Settles O37: each confirm mode by what `foldCheck` does there; the endings by `finishEnding`. -/
theorem foldsChecked : Obligations.FoldsChecked := by
  intro s
  refine ⟨fun e => ⟨execFoldEdge_ignored, execFoldEdge_counted⟩, execStrokeDone_of_none,
    fun stroking mode calm r record st step p panel => ?_, fun stroking mode ending r record => ?_⟩
  · intro needed seen missed
    have needs : needed = r.kind.foldsNeeded := by cases kind : r.kind <;> simp only [needed, kind] <;> rfl
    have check := execStrokeDone_checked stroking record calm step
    have retried (confirm : r.confirm = .retry) (unseen : ¬seen) (more : st.retries < 2) :
        exec .strokeDone s = .next (s.bladesStopped.setMode .runWait).settle := by
      rw [check, State.foldCheck_of_retry (s := s.bladesStopped) (needs ▸ unseen) confirm more]
    have waits : s.waiting st.interval ↔
        (s.bladesStopped.setMode .runWait).clock < (s.bladesStopped.setMode .runWait).waitExpiry :=
      State.waiting_iff_of_runWait (s := s.bladesStopped.setMode .runWait) rfl step
    refine ⟨fun confirm unseen => ?_, fun confirm unseen more free waiting => ?_, fun confirm unseen more free ran => ?_,
      fun confirm unseen more held => ?_, fun next record' forming => ?_⟩
    · have faults : s.bladesStopped.foldMissed.seq.mode ≠ .fault .fold := by
        show s.seq.mode ≠ .fault .fold
        simp [mode]
      rw [check, State.foldCheck_of_stop (s := s.bladesStopped) (needs ▸ unseen) confirm, State.enterFault, if_neg faults,
        State.settle_of_stands (by rfl)]
      rfl
    · have free' : s.bladesStopped.held = false := free
      rw [retried confirm unseen more, State.settle_setMode_wait (s := s.bladesStopped) (.inl rfl) (.inl (waits.mp waiting)),
        free']
      rfl
    · have pleat : r.kind = .knife ∨ r.kind = .box ∨ r.kind = .inverted :=
        StepKind.pleat_of_foldsNeeded (needs ▸ Nat.zero_lt_of_lt (not_le.mp unseen))
      rw [retried confirm unseen more, State.settle_of_pleat (s := s.bladesStopped.setMode .runWait) rfl (by exact free)
        (not_lt.mp (mt waits.mpr ran)) record step pleat]
      rfl
    · have held' : s.bladesStopped.held = true := held
      rw [retried confirm unseen more, State.settle_setMode_wait (s := s.bladesStopped) (.inl rfl) (.inr held'), held']
      rfl
    · intro recorded passes
      have missedOrNot : (s.bladesStopped.foldCheck r st.retries = s.bladesStopped.walkOn ∧ ¬recorded)
          ∨ (s.bladesStopped.foldCheck r st.retries = s.bladesStopped.foldMissed.walkOn ∧ recorded) := by
        by_cases missing : recorded
        · obtain ⟨unseen, mode⟩ := missing
          exact .inr ⟨State.foldCheck_of_recorded (s := s.bladesStopped) (needs ▸ unseen) mode, unseen, mode⟩
        · refine .inl ⟨State.foldCheck_of_folded (s := s.bladesStopped) ?_, missing⟩
          exact passes.elim (fun folded => .inr (needs ▸ folded)) fun other => .inl (other.resolve_right missing)
      rcases missedOrNot with ⟨walks, kept⟩ | ⟨walks, missing⟩
      · obtain ⟨settled, pointer, stroke, port, folds, feeds, holds⟩ :=
          State.walkOn_next (s := s.bladesStopped) panel record' forming
        rw [walks, settled] at check
        exact ⟨_, check, port, pointer, stroke, feeds, holds, fun missing => absurd missing kept, fun _ => folds⟩
      · obtain ⟨settled, pointer, stroke, port, folds, feeds, holds⟩ :=
          State.walkOn_next (s := s.bladesStopped.foldMissed) panel record' forming
        rw [walks, settled] at check
        exact ⟨_, check, port, pointer, stroke, feeds, holds,
          fun _ => folds.trans s.bladesStopped.foldMissed_foldsMissed, fun kept => absurd missing kept⟩
  · intro needed u
    have needs : needed = r.kind.foldsNeeded := by cases kind : r.kind <;> simp only [needed, kind] <;> rfl
    have either : (s.bladesStopped.lastFoldCheck r = s.bladesStopped.foldMissed ∧ u = s.foldMissed)
        ∨ (s.bladesStopped.lastFoldCheck r = s.bladesStopped ∧ u = s) := by
      rw [State.lastFoldCheck_eq, ← needs]
      by_cases missing : r.confirm ≠ .ignore ∧ s.seq.foldEdges < needed
      · exact .inl ⟨if_pos missing, if_pos missing⟩
      · exact .inr ⟨if_neg missing, if_neg missing⟩
    have last : s.bladesStopped.lastFoldCheck r = { s.bladesStopped with str := u.str } := by
      rcases either with ⟨last, is⟩ | ⟨last, is⟩ <;> (rw [last, is]; rfl)
    have only : u = { s with str := { s.str with segments := u.str.segments } } := by
      rcases either with ⟨-, is⟩ | ⟨-, is⟩
      · rw [is]
        rfl
      · rw [is]
    have ends := execStrokeDone_ended stroking record ending
    rw [last] at ends
    have opened : s.seq.openPanel ≠ none := fun none => by simp [State.currentRecord, none] at record
    have ended : State.panelEnded { s.bladesStopped with str := u.str } _ false :=
      (State.workEnded_finishEnding { s.bladesStopped with str := u.str }).1 opened
    have str := State.finishEnding_str_eq { s.bladesStopped with str := u.str }
    have requests : u.str.pendingIdx = s.str.pendingIdx := by rw [only]
    have belt : u.str.belt = s.str.belt := by rw [only]
    refine ⟨_, ends,
      State.panelEnded_congr (r := { s.bladesStopped with str := u.str }) (s := u) ?_ ?_ rfl ended,
      State.finishEnding_pst _, State.finishEnding_rcu _,
      State.finishEnding_slm _, State.finishEnding_clock _, State.finishEnding_triggers _, State.finishEnding_bladePort _,
      by rw [State.finishEnding_ending]; rfl, State.finishEnding_feedTotal _, ?_, ?_, State.finishEnding_wtr _,
      fun web => State.finishEnding_notice web ?_, State.finishEnding_mode _⟩
    · rw [only]
      rfl
    · rw [only]
      rfl
    · exact (congrArg Str.pendingIdx str).trans requests
    · exact (congrArg Str.belt str).trans belt
    · show s.seq.mode ≠ .fault .webEnd
      simp [mode]

end Sys2Proof.Machine
end

section
/-! SUPPORT. GUARD_OPEN (R62, R63, R85, R90, R92 to R96, R105): the belt stop and the consequences of the advance, the coordinates of the
segments, and the work that ends. Settles O39. -/

namespace Sys2Proof.Machine

/-! ## The consequences of a belt advance -/

/-- The cut of the oldest segment, as the table of R96 gives it. -/
theorem State.cutChecked_cons (s : State) (belt : Nat) (g : Segment) (rest : List Segment) :
    s.cutChecked belt (g :: rest) = ((g.cutDue belt s.cutDistance).map fun c => Cutter.cutting c.1 c.2).getD .idle := by
  unfold State.cutChecked Segment.cutDue
  dsimp only
  split
  · split <;> rfl
  · cases g.b1 with
    | none => rfl
    | some b1 =>
      dsimp only
      split <;> rfl

/-- A cut check reads no flag of a segment. -/
theorem State.cutChecked_map_zoneFlagged (s u : State) (belt : Nat) (l : List Segment) :
    s.cutChecked belt (l.map u.zoneFlagged) = s.cutChecked belt l := by
  cases l with
  | nil => rfl
  | cons g rest =>
    rw [List.map_cons, State.cutChecked_cons, State.cutChecked_cons]
    rfl

/-- A cut check is made with the cutter IDLE (R96). -/
theorem State.cutCheck_eq (s : State) : s.cutCheck = { s with str := { s.str with
    cutter := if s.str.cutter = .idle then s.cutChecked s.str.belt s.str.segments else s.str.cutter } } := by
  have stands (c : Cutter) (same : c = s.str.cutter) : s = { s with str := { s.str with cutter := c } } := by rw [same]
  unfold State.cutCheck
  cases cutter : s.str.cutter with
  | cutting kind offset =>
    rw [if_neg nofun]
    exact stands _ cutter.symm
  | idle =>
    rw [if_pos rfl]
    cases segments : s.str.segments with
    | nil => exact stands _ cutter.symm
    | cons g rest =>
      rw [State.cutChecked_cons]
      dsimp only
      cases g.cutDue s.str.belt s.cutDistance with
      | none => exact stands _ cutter.symm
      | some cut => rfl

theorem State.beltConsequences_taken (u : State) : u.advanceTaken u.beltConsequences := by
  unfold State.advanceTaken
  intro flagged
  have zones : flagged.handOverAdvance.switchTest = { flagged with zsv := flagged.handOverAdvance.switchTest.zsv } :=
    (zonesOnly_handOverAdvance flagged).trans (zonesOnly_switchTest _)
  show flagged.handOverAdvance.switchTest.cutCheck = _
  rw [State.cutCheck_eq, zones]
  refine congrArg (fun c => ({ flagged with
    zsv := flagged.handOverAdvance.switchTest.zsv, str := { flagged.str with cutter := c } } : State)) ?_
  exact congrArg (fun c => if u.str.cutter = Cutter.idle then c else u.str.cutter)
    (u.cutChecked_map_zoneFlagged u u.str.belt u.str.segments)

/-- `t` is `s` after a belt stop or advance: the zones, the cutter and the segments' flags may differ, no coordinate and no count. -/
structure FlagsOnly (s t : State) : Prop where
  frame : t = { s with str := { s.str with segments := t.str.segments, cutter := t.str.cutter }, zsv := t.zsv }
  segments : ∃ f : Segment → PanelFlags → PanelFlags, t.str.segments = s.str.segments.map fun g => g.setFlags (f g)

theorem FlagsOnly.refl (s : State) : FlagsOnly s s :=
  ⟨rfl, fun _ => id, (List.map_id _).symm⟩

theorem FlagsOnly.beltConsequences (s : State) : FlagsOnly s s.beltConsequences where
  frame := by rw [s.beltConsequences_taken]
  segments := by
    have flagged := congrArg (fun t : State => t.str.segments) s.beltConsequences_taken
    exact ⟨fun g _ => (s.zoneFlagged g).flags, flagged⟩

theorem FlagsOnly.rawCounts {s t : State} (h : FlagsOnly s t) :
    t.str.segments.map Segment.rawCounts = s.str.segments.map Segment.rawCounts := by
  obtain ⟨f, segments⟩ := h.segments
  rw [segments, List.map_map]
  rfl

/-! ## Coordinates -/

/-- No coordinate of a segment is above B (R85). -/
def Str.lowered (t : Str) : Prop := ∀ g ∈ t.segments, g.b0 ≤ t.belt ∧ ∀ b, g.b1 = some b → b ≤ t.belt

theorem forall_mem_modifyLast {α : Type} {p : α → Prop} {f : α → α} {l : List α} (all : ∀ x ∈ l, p x)
    (keeps : ∀ x, p x → p (f x)) : ∀ x ∈ modifyLast f l, p x := by
  rcases List.eq_nil_or_concat l with rfl | ⟨init, last, rfl⟩
  · exact all
  · simp only [List.concat_eq_append, modifyLast_append_singleton, List.forall_mem_append, List.forall_mem_singleton]
      at all ⊢
    exact ⟨all.1, keeps last all.2⟩

theorem Segment.lower_le (belt : Nat) (g : Segment) :
    (g.lower belt).b0 ≤ belt ∧ ∀ b, (g.lower belt).b1 = some b → b ≤ belt := by
  refine ⟨min_le_right _ _, fun b closed => ?_⟩
  obtain ⟨b', -, rfl⟩ := Option.map_eq_some_iff.mp closed
  exact min_le_right _ _

theorem FlagsOnly.lowered {s t : State} (h : FlagsOnly s t) (low : s.str.lowered) : t.str.lowered := by
  have belt : t.str.belt = s.str.belt := by rw [h.frame]
  obtain ⟨f, segments⟩ := h.segments
  intro g mem
  rw [segments] at mem
  obtain ⟨g', mem', rfl⟩ := List.mem_map.mp mem
  rw [belt]
  exact low g' mem'

/-- With no belt request the open segment closes at B. -/
theorem Str.closeSegment_lowered {t : Str} (idle : t.pendingIdx = []) (low : t.lowered) (reachedEnd : Bool) :
    (t.closeSegment reachedEnd).lowered := by
  have commanded : t.commanded = t.belt := by simp [Str.commanded, idle]
  refine forall_mem_modifyLast low fun g ⟨start, _⟩ => ⟨start, fun b closed => ?_⟩
  exact (Option.some.inj closed).symm.le.trans commanded.le

theorem State.endWork_lowered {s : State} (idle : s.str.pendingIdx = []) (low : s.str.lowered) : s.endWork.str.lowered := by
  by_cases shut : s.seq.openPanel = none
  · obtain ⟨-, none⟩ := s.workEnded_endWork
    obtain ⟨-, str, -⟩ := none shut
    rwa [str]
  · obtain ⟨-, -, str⟩ := s.endPanel_keeps false
    rw [State.endWork_of_panel shut, str]
    exact Str.closeSegment_lowered idle low false

/-- The end of the work counts no fabric. -/
theorem State.endWork_rawCounts (s : State) :
    s.endWork.str.segments.map Segment.rawCounts = s.str.segments.map Segment.rawCounts := by
  by_cases shut : s.seq.openPanel = none
  · obtain ⟨-, none⟩ := s.workEnded_endWork
    obtain ⟨-, str, -⟩ := none shut
    rw [str]
  · obtain ⟨-, -, str⟩ := s.endPanel_keeps false
    rw [State.endWork_of_panel shut, str]
    refine map_modifyLast_unseen Segment.rawCounts _ (fun _ => ?_) _
    rfl

/-- The end of the work takes Lp alone from FCA. -/
theorem State.endWork_fca (s : State) : s.endWork.fca = { s.fca with panelLp := s.endWork.fca.panelLp } := by
  rw [State.endWork_frame]

/-! ## GUARD_OPEN -/

/-- A feed in progress has advanced by what the encoder reports. -/
def State.fedShort (s : State) (fed : Nat) : State := if s.seq.feedPort = none then s else s.feedAdvance fed

/-- B once the drive has stopped (R85). -/
def Str.stoppedAt (t : Str) (moved : Nat) : Nat := t.belt + (if t.moving then min moved (t.pendingIdx.headD 0) else 0)

/-- The line with its feed cut short, its blades and its belt stopped, GUARD open and no ending waiting (R63, R85). -/
def State.halted (s : State) (fed moved : Nat) : State :=
  { s.fedShort fed with
    seq := { (s.fedShort fed).seq with guardIsOpen := true, bladePort := none, ending := Ending.none }
    str := { (s.fedShort fed).str with
      belt := s.str.stoppedAt moved, pendingIdx := [], moving := false
      lastEnd := (s.fedShort fed).str.lastEnd.map (min · (s.str.stoppedAt moved))
      segments := (s.fedShort fed).str.segments.map (Segment.lower (s.str.stoppedAt moved)) } }

section
variable (s : State) (fed moved : Nat)

/-- The advance of a feed cut short reaches the feed total, the feed, WTR and the segments. -/
theorem State.fedShort_frame : s.fedShort fed =
    { s with
      seq := { s.seq with
        feedTotal := s.seq.feedTotal + (if s.seq.feedPort = none then 0 else fed), feedPort := none }
      wtr := (s.fedShort fed).wtr, str := { s.str with segments := (s.fedShort fed).str.segments } } := by
  unfold State.fedShort
  split
  · next still => rw [← still]; rfl
  · rw [← State.feedAdvance_str_eq]
    exact s.feedAdvance_frame fed

theorem State.fedShort_rawCounts : (s.fedShort fed).str.segments.map Segment.rawCounts =
    if s.seq.mode = .runFeed ∧ s.seq.feedPort ≠ none then modifyLast (· + fed) (s.str.segments.map Segment.rawCounts)
    else s.str.segments.map Segment.rawCounts := by
  unfold State.fedShort
  split
  · next still => rw [if_neg fun running => running.2 still]
  · next feeding =>
    rw [State.feedAdvance_rawCounts]
    simp only [feeding, ne_eq, not_false_eq_true, and_true]

theorem State.halted_rawCounts : (s.halted fed moved).str.segments.map Segment.rawCounts =
    (s.fedShort fed).str.segments.map Segment.rawCounts := by
  show ((s.fedShort fed).str.segments.map (Segment.lower _)).map Segment.rawCounts = _
  rw [List.map_map]
  rfl

theorem State.halted_lowered : (s.halted fed moved).str.lowered := by
  intro g mem
  obtain ⟨g', -, rfl⟩ := List.mem_map.mp mem
  exact Segment.lower_le _ g'

/-- The line halted, with the consequences of the advance where an index was in motion or pending. -/
def State.stopped : State :=
  if s.str.pendingIdx.isEmpty then s.halted fed moved else (s.halted fed moved).beltConsequences

theorem State.flagsOnly_stopped : FlagsOnly (s.halted fed moved) (s.stopped fed moved) := by
  unfold State.stopped
  split
  · exact .refl _
  · exact .beltConsequences _

/-- The feed cut short with GUARD open. -/
theorem State.fedShort_guard : (if (s.onSeq fun q => { q with guardIsOpen := true }).feeding
      then (s.onSeq fun q => { q with guardIsOpen := true }).feedAdvance fed
      else s.onSeq fun q => { q with guardIsOpen := true }) =
    (s.fedShort fed).onSeq fun q => { q with guardIsOpen := true } := by
  unfold State.fedShort State.feeding
  by_cases still : s.seq.feedPort = none
  · rw [if_pos still]
    exact if_neg (by simp [State.onSeq, still])
  · rw [if_neg still]
    exact (if_pos (Option.isSome_iff_ne_none.mpr still)).trans (s.feedAdvance_guard true fed)

theorem State.stopBelt_fedShort : (((s.fedShort fed).onSeq fun q => { q with guardIsOpen := true }).onSeq fun q =>
    { q with bladePort := none, ending := Ending.none }).stopBelt moved = s.stopped fed moved := by
  have idle : (s.fedShort fed).str.pendingIdx = s.str.pendingIdx := by rw [State.fedShort_frame]
  have belt : (s.fedShort fed).str.stoppedAt moved = s.str.stoppedAt moved := by
    rw [State.fedShort_frame]
    rfl
  unfold State.stopped State.halted
  rw [← belt, ← idle]
  rfl

theorem execGuardOpen_stops (working : s.seq.mode ≠ .idle) :
    exec (.guardOpen fed moved) s = .next ((s.stopped fed moved).endWork.enterFault .guard).useFree := by
  rw [execGuardOpen_working fed moved working, ← s.stopBelt_fedShort fed moved, ← s.fedShort_guard fed]
  rfl

end

/-- Settles O39: the halt and the consequences by `flagsOnly_stopped`, the end of the work by `workEnded_endWork`. -/
theorem guardStopsAll : Obligations.GuardStopsAll := by
  refine ⟨fun s => rfl, fun fed moved s => ⟨execGuardOpen_idle fed moved, fun working => ?_⟩⟩
  intro fedOn belt halted
  have halts : halted = s.halted fed moved := rfl
  have flags := s.flagsOnly_stopped fed moved
  have enters := EntersMode.enterFault (s.stopped fed moved).endWork .guard
  have ended := enters.workEnded (s.stopped fed moved).workEnded_endWork
  have base : s.stopped fed moved = { s with
      seq := { s.seq with
        feedTotal := s.seq.feedTotal + (if s.seq.feedPort = none then 0 else fed), feedPort := none
        guardIsOpen := true, bladePort := none, ending := Ending.none }
      wtr := (s.stopped fed moved).wtr
      str := { s.str with
        belt := belt, pendingIdx := [], moving := false, segments := (s.stopped fed moved).str.segments
        lastEnd := (s.stopped fed moved).str.lastEnd, cutter := (s.stopped fed moved).str.cutter }
      zsv := (s.stopped fed moved).zsv } := by
    rw [flags.frame]
    unfold State.halted
    rw [s.fedShort_frame fed]
    rfl
  have jobs : (s.stopped fed moved).seq.jobs = s.seq.jobs := by rw [base]
  have panel : (s.stopped fed moved).seq.openPanel = s.seq.openPanel := by rw [base]
  have mode : (s.stopped fed moved).seq.mode = s.seq.mode := by rw [base]
  have still : (s.stopped fed moved).seq.feedPort = none := by rw [base]
  have blades : (s.stopped fed moved).seq.bladePort = none := by rw [base]
  have ending : (s.stopped fed moved).seq.ending = Ending.none := by rw [base]
  have idle : (s.stopped fed moved).str.pendingIdx = [] := by rw [base]
  have str := State.endWork_str_eq (s.stopped fed moved)
  have fca := enters.fca.trans (State.endWork_fca (s.stopped fed moved))
  have strT : ((s.stopped fed moved).endWork.enterFault .guard).str = (s.stopped fed moved).endWork.str := enters.str
  have counts : ((s.stopped fed moved).endWork.enterFault .guard).str.segments.map Segment.rawCounts =
      (s.fedShort fed).str.segments.map Segment.rawCounts := by
    rw [strT, State.endWork_rawCounts, flags.rawCounts, State.halted_rawCounts]
  refine ⟨s.stopped fed moved, _, execGuardOpen_stops s fed moved working, fun none => ?_, fun busy => ?_,
    counts.trans (s.fedShort_rawCounts fed), fun opened => ended.1 (panel ▸ opened), fun shut => ?_, ?_, State.enterFault_mode _ _,
    ?_, ?_, ?_, ?_, ?_, ?_, ?_, ?_, ?_, ?_, ?_, ?_, ?_, fun other => ?_, fun opened j rest queue => ?_, ?_⟩
  · exact if_pos (List.isEmpty_iff.mpr none)
  · have consequences : s.stopped fed moved = (s.halted fed moved).beltConsequences :=
      if_neg (mt List.isEmpty_iff.mp busy)
    rw [consequences]
    exact State.beltConsequences_taken _
  · obtain ⟨-, same, -, rests, stays⟩ := ended.2 (panel.trans shut)
    rw [mode] at rests stays
    refine ⟨same, fun none => ?_, fun waste => ?_⟩
    · exact jobs ▸ rests none
    · obtain ⟨chunk, target, -⟩ := stays waste
      refine ⟨chunk, target, fun j rest queue => ?_⟩
      obtain ⟨kept, left⟩ := ended.stay (panel.trans shut) (mode ▸ waste) j rest (jobs.trans queue)
      exact ⟨jobs ▸ kept, left⟩
  · exact enters.guardIsOpen.trans ((State.endWork_guardIsOpen _).trans (by rw [base]))
  · exact enters.openPanel.trans (State.openPanel_endWork _)
  · exact enters.feedPort.trans ((State.endWork_feedPort _).trans still)
  · exact enters.bladePort.trans ((State.endWork_bladePort _).trans blades)
  · exact congrArg Ending.any ((State.enterFault_ending _ .guard).trans ((State.endWork_ending _).trans ending))
  · exact (congrArg Str.pendingIdx (strT.trans str)).trans idle
  · exact (congrArg Str.moving (strT.trans str)).trans (by rw [base])
  · exact enters.feedTotal.trans ((State.endWork_feedTotal _).trans (by rw [base]))
  · exact (congrArg Str.belt (strT.trans str)).trans (by rw [base])
  · exact enters.wasteTotal.trans ((State.endWork_wasteTotal _).trans (by rw [base]))
  · exact enters.clock.trans ((State.endWork_clock _).trans (by rw [base]))
  · exact (congrArg Fca.residue fca).trans (by rw [base])
  · exact (congrArg Fca.tension fca).trans (by rw [base])
  · exact (congrArg Fca.lastG fca).trans (by rw [base])
  · exact State.enterFault_notice (by rw [State.endWork_mode, mode]; exact other)
  · obtain ⟨-, -, -, -, -, left⟩ := ended.1 (panel ▸ opened)
    have outcome := left j rest (jobs.trans queue)
    split at outcome
    · next done => exact outcome.1.trans (if_pos done).symm
    · next more => exact outcome.1.trans (if_neg more).symm
  · have low : ((s.stopped fed moved).endWork.enterFault .guard).str.lowered := by
      rw [strT]
      exact State.endWork_lowered idle (flags.lowered (s.halted_lowered fed moved))
    exact low

end Sys2Proof.Machine
end

section
/-! SUPPORT. The deliveries of an unwind's station (R138 to R141, R149, R151 to R155) and the web end (R64). Settles O51. -/

namespace Sys2Proof.Machine

/-! ## The web end -/

theorem State.webEnd_of_idle {s : State} (idle : s.seq.mode = .idle) : s.webEnd = s := by
  rw [State.webEnd, idle]

theorem State.webEnd_of_moving {s : State} (moving : s.seq.mode.moving = true) :
    s.webEnd = { s with seq := { s.seq with ending := { s.seq.ending with webEnd := true } } } := by
  unfold State.webEnd
  cases mode : s.seq.mode <;> simp [mode, SeqMode.moving] at moving <;> rfl

theorem State.webEnd_of_still {s : State} (working : s.seq.mode ≠ .idle) (still : s.seq.mode.moving = false) :
    s.webEnd = s.endWork.enterFault .webEnd := by
  unfold State.webEnd
  cases mode : s.seq.mode <;> simp [mode, SeqMode.moving] at working still <;> rfl

/-! ## Run states -/

section
variable {s : State} {u : UnwindId} {rs : RunState}

theorem State.unwindStatus_of_none (none : s.rcu.change = none) :
    s.unwindStatus u rs = s.onUnwind u fun x => { x with runState := some rs } := by
  have change : (s.onUnwind u fun x => { x with runState := some rs }).rcu.change = Option.none :=
    (Rcu.onUnwind_change ..).trans none
  simp only [State.unwindStatus, change]

variable {c : Change} (change : s.rcu.change = some c)
include change

/-- A run state during a change. -/
theorem State.unwindStatus_of_some : s.unwindStatus u rs =
    if c.phase = .stopping ∧ c.old = u ∧ rs = .stopped
    then (s.onUnwind u fun x => { x with runState := some rs }).enterPhase .splicing
    else if c.phase = .restarting ∧ c.new = u ∧ rs = .atSpeed
    then ((s.onUnwind u fun x => { x with runState := some rs }).endChange .done none).raise .changeDone
    else s.onUnwind u fun x => { x with runState := some rs } := by
  have change' : (s.onUnwind u fun x => { x with runState := some rs }).rcu.change = some c :=
    (Rcu.onUnwind_change ..).trans change
  simp only [State.unwindStatus, change']

theorem State.enterPhase_eq (p : ChangePhase) : s.enterPhase p = { s with rcu := { s.rcu with
    change := some { c with phase := p, deadline := s.clock + s.rcu.settings.timeout p } } } := by
  simp only [State.enterPhase, State.onRcu, change, Option.map_some]

theorem State.endChange_eq (o : ChangeOutcome) (cause : Option ChangeCause) : s.endChange o cause =
    { s with rcu := { s.rcu with
      change := none, outcome := o, outcomePhase := some c.phase, outcomeCause := cause } } := by
  simp only [State.endChange, State.onRcu, change, Option.map_some]

end

/-! ## Request codes -/

theorem ChangePhase.beforeSplice_iff (p : ChangePhase) :
    p.beforeSplice = true ↔ p = .filling ∨ p = .stopping ∨ p = .splicing := by
  cases p <;> simp [ChangePhase.beforeSplice]

section
variable {s : State} {u : UnwindId}

theorem State.unwindCode_removed (s : State) (u : UnwindId) : s.unwindCode u 2 = s.rollRemoved u := rfl

theorem State.unwindCode_rollEnd (s : State) (u : UnwindId) : s.unwindCode u 3 = s.rollEnd u := rfl

theorem State.rollEnd_of_inactive (inactive : (s.rcu.unwind u).state ≠ .active) : s.rollEnd u = s := if_neg inactive

theorem State.rollEnd_of_active (active : (s.rcu.unwind u).state = .active) : s.rollEnd u = s.activeRollEnd u := if_pos active

theorem State.activeRollEnd_of_none (none : s.rcu.change = none) : s.activeRollEnd u = s.webEnd := by
  simp only [State.activeRollEnd, none]

theorem State.standbyRemoved_of_new {c : Change} (change : s.rcu.change = some c) (new : c.new = u)
    (early : c.phase ≠ .restarting) : s.standbyRemoved u = s.changeBroken .removed := by
  simp only [State.standbyRemoved, change, new, early, ne_eq, not_false_eq_true, and_self, if_true, State.breakChange_eq]

theorem State.standbyRemoved_of_other (other : ¬∃ c, s.rcu.change = some c ∧ c.new = u ∧ c.phase ≠ .restarting) :
    s.standbyRemoved u = s := by
  unfold State.standbyRemoved
  split
  · next c change => exact if_neg fun named => other ⟨c, change, named⟩
  · rfl

variable {c : Change} (change : s.rcu.change = some c)
include change

theorem State.activeRollEnd_of_old (old : c.old = u) : s.activeRollEnd u =
    if c.phase.beforeSplice then ((s.endChange .failed (some .rollEnd)).raise .changeAbort).webEnd else s := by
  simp only [State.activeRollEnd, change, old, if_true]

theorem State.activeRollEnd_of_new (old : c.old ≠ u) : s.activeRollEnd u =
    if c.phase = .restarting then (s.failChange .rollEnd).webEnd else s := by
  simp only [State.activeRollEnd, change, old, if_false]

end

/-! ## Readings -/

theorem Rcu.state_of_activeUnwind {r : Rcu} {u : UnwindId} (active : r.activeUnwind = some u) : (r.unwind u).state = .active := by
  unfold Rcu.activeUnwind at active
  split at active
  · next a => exact Option.some.inj active ▸ a
  · split at active
    · next b => exact Option.some.inj active ▸ b
    · cases active

/-- What keeps the states of the records keeps the ACTIVE one. -/
theorem Rcu.activeUnwind_onUnwind (r : Rcu) (u : UnwindId) {f : Unwind → Unwind} (keeps : ∀ x, (f x).state = x.state) :
    (r.onUnwind u f).activeUnwind = r.activeUnwind := by
  cases u with
  | a =>
    show (if (f r.unwindA).state = .active then _ else _) = _
    rw [keeps]
    rfl
  | b =>
    show (if r.unwindA.state = .active then _ else if (f r.unwindB).state = .active then _ else _) = _
    rw [keeps]
    rfl

/-- A change may start with this unwind ACTIVE (R148, R152). -/
def State.changeAllowed (s : State) (u : UnwindId) : Prop :=
  s.slm.mode ≠ .stopped ∧ (s.rcu.unwind u.other).state = .ready
    ∧ (∀ n, 9 ≤ n → n ≤ 12 → (s.station n).state ≠ .lost) ∧ s.wtr.spliceCount < 4

theorem State.changeRefused_eq_none_iff {s : State} {u : UnwindId} (active : s.rcu.activeUnwind = some u)
    (idle : s.rcu.change = none) : s.changeRefused = none ↔ s.changeAllowed u := by
  have lost : (s.stationLost 9 || s.stationLost 10 || s.stationLost 11 || s.stationLost 12) = false ↔
      ∀ n, 9 ≤ n → n ≤ 12 → (s.station n).state ≠ .lost := by
    simp only [Bool.or_eq_false_iff, State.stationLost, beq_eq_false_iff_ne]
    constructor
    · rintro ⟨⟨⟨l9, l10⟩, l11⟩, l12⟩ n low high
      interval_cases n <;> assumption
    · intro all
      exact ⟨⟨⟨all 9 (by omega) (by omega), all 10 (by omega) (by omega)⟩, all 11 (by omega) (by omega)⟩,
        all 12 (by omega) (by omega)⟩
  unfold State.changeRefused State.changeAllowed
  rw [← lost]
  clear lost
  generalize (s.stationLost 9 || s.stationLost 10 || s.stationLost 11 || s.stationLost 12) = anyLost
  simp only [active, idle, Option.map_some]
  split_ifs <;> simp_all

section
variable {s : State} {u : UnwindId}

/-- An automatic change starts (R148, R152). -/
theorem State.tryAuto_of_free (free : s.changeRefused = none) (active : s.rcu.activeUnwind = some u) : s.tryAuto u =
    ({ s with rcu := { s.rcu with
        change := some { phase := .filling, old := u, new := u.other
                         deadline := s.clock + s.rcu.settings.timeout .filling, automatic := true } } } : State).onUnwind u
      fun x => { x with autoStarted := true } := by
  simp only [State.tryAuto, free, State.startChange, active]
  rfl

/-- A change that may not start raises ROLL_LOW once (R152). -/
theorem State.tryAuto_of_refused (refused : s.changeRefused ≠ none) : s.tryAuto u =
    if (s.rcu.unwind u).lowRaised then s else (s.onUnwind u fun x => { x with lowRaised := true }).raise .rollLow := by
  obtain ⟨status, is⟩ := Option.ne_none_iff_exists'.mp refused
  simp only [State.tryAuto, is]

end

/-- Settles O51: the deliveries case by case, as their rules name the change and the record; the web end by `workEnded_endWork`. -/
theorem unwindsDeliver : Obligations.UnwindsDeliver := by
  refine ⟨State.breakChange_eq, fun u s => ?_, fun s => ⟨State.webEnd_of_idle, State.webEnd_of_moving, fun working still => ?_⟩⟩
  · intro sets gone
    refine ⟨rfl, rfl, rfl, State.breakChange_eq _ _, fun rs => ?_, ?_, fun remaining => ?_⟩
    · intro stored
      refine ⟨State.unwindStatus_of_none, fun c change => ?_⟩
      have status := State.unwindStatus_of_some (u := u) (rs := rs) change
      have change' : stored.rcu.change = some c := (Rcu.onUnwind_change ..).trans change
      intro halted speeds
      refine ⟨fun halts => ?_, fun speeded => ?_, fun still slow => ?_⟩
      · rw [status, if_pos halts]
        refine (State.enterPhase_eq (s := stored) change' .splicing).trans ?_
        simp only [stored, sets, RollSettings.timeout, Rcu.onUnwind_settings]
      · have ⟨restarting, _, _⟩ := speeded
        have other : ¬halted := fun ⟨stopping, _⟩ => nomatch stopping.symm.trans restarting
        rw [status, if_neg other, if_pos speeded]
        refine (congrArg (State.raise · .changeDone) (State.endChange_eq (s := stored) change' .done none)).trans ?_
        rw [restarting]
        rfl
      · rw [status, if_neg still, if_neg slow]
        rfl
    · intro x emptied
      have removes := s.unwindCode_removed u
      have ends := s.unwindCode_rollEnd u
      refine ⟨fun empty => if_pos empty, fun filled => if_neg filled, fun empty => ?_, fun full => ?_, fun ready => ?_,
        fun active => ?_, fun inactive => ends.trans (State.rollEnd_of_inactive inactive), fun active => ?_,
        fun code one two three => ?_⟩
      · rw [removes, State.rollRemoved, empty]
      · rw [removes, State.rollRemoved]
        rcases full with full | full <;> (rw [full]; rfl)
      · have acts : s.rollRemoved u = emptied (s.standbyRemoved u) := by
          rw [State.rollRemoved, ready]
          rfl
        rw [removes, acts]
        intro fromChange
        refine ⟨fun ⟨c, change, new, early⟩ => ?_, fun other => ?_⟩
        · rw [State.standbyRemoved_of_new change new early]
        · rw [State.standbyRemoved_of_other other]
      · rw [removes, ends, State.rollRemoved, active]
      · rw [ends, State.rollEnd_of_active active]
        refine ⟨State.activeRollEnd_of_none, fun c change => ?_⟩
        intro early failed
        refine ⟨fun old before => ?_, fun other late => ?_, ?_⟩
        · rw [State.activeRollEnd_of_old change old, if_pos ((ChangePhase.beforeSplice_iff _).mpr before),
            State.endChange_eq change]
          rfl
        · rw [State.activeRollEnd_of_new change other, if_pos late]
          refine congrArg State.webEnd ?_
          rw [State.failChange, State.endChange_eq (s := s.addRoll) change]
          rfl
        · rintro (⟨old, after⟩ | ⟨other, early⟩)
          · rw [State.activeRollEnd_of_old change old, if_neg (mt (ChangePhase.beforeSplice_iff _).mp after)]
          · rw [State.activeRollEnd_of_new change other, if_neg early]
      · exact (if_neg one).trans ((if_neg two).trans (if_neg three))
    · refine ⟨fun inactive => if_neg inactive, fun active => ?_⟩
      intro stored tries allowed
      have reads : s.unwindReading u remaining = if stored.autoDue u remaining then stored.tryAuto u else stored :=
        if_pos (Rcu.state_of_activeUnwind active)
      have due : stored.autoDue u remaining = true ↔ tries := by
        simp only [State.autoDue, stored, sets, Rcu.onUnwind_settings, Rcu.onUnwind_change, Rcu.onUnwind_unwind, tries]
        simp [and_assoc]
      have activeThere : stored.rcu.activeUnwind = some u :=
        (Rcu.activeUnwind_onUnwind s.rcu u (f := fun x => { x with remaining := some remaining }) fun _ => by rfl).trans active
      have allow : stored.changeAllowed u ↔ allowed := by
        simp only [State.changeAllowed, stored, sets, Rcu.onUnwind_unwind_other]
        rfl
      refine ⟨fun calm => ?_, fun trying may => ?_, fun trying mayNot => ?_⟩
      · rw [reads, if_neg (mt due.mp calm)]
      all_goals
        have ⟨_, idle, _⟩ := trying
        have idleThere : stored.rcu.change = none := (Rcu.onUnwind_change ..).trans idle
        have free := State.changeRefused_eq_none_iff activeThere idleThere
        rw [reads, if_pos (due.mpr trying)]
      · rw [State.tryAuto_of_free (free.mpr (allow.mpr may)) activeThere]
        simp only [stored, sets, RollSettings.timeout, Rcu.onUnwind_settings]
        rfl
      · have raised : (stored.rcu.unwind u).lowRaised = (s.rcu.unwind u).lowRaised :=
          (congrArg Unwind.lowRaised (Rcu.onUnwind_unwind s.rcu u _)).trans rfl
        rw [State.tryAuto_of_refused (mt free.mp (mt allow.mp mayNot)), raised]
        exact ⟨fun low => if_pos low, fun low => if_neg (by simp [low])⟩
  · intro t
    have is : t = s.endWork.enterFault .webEnd := State.webEnd_of_still working still
    have enters := EntersMode.enterFault s.endWork .webEnd
    have ended := enters.workEnded s.workEnded_endWork
    rw [is]
    refine ⟨State.enterFault_mode _ _, enters.rcu.trans (State.endWork_rcu _), enters.feedTotal.trans (State.endWork_feedTotal _),
      enters.wasteTotal.trans (State.endWork_wasteTotal _),
      fun other => State.enterFault_notice (by rw [State.endWork_mode]; exact other), ended.1, fun shut => ?_⟩
    obtain ⟨-, str, -, rests, stays⟩ := ended.2 shut
    refine ⟨str, rests, fun waste => ?_⟩
    obtain ⟨chunk, target, -⟩ := stays waste
    exact ⟨chunk, target, ended.stay shut waste⟩

end Sys2Proof.Machine
end

section
/-! SUPPORT. The mark list (R69, R70): where a mark enters, what a merge gathers, and the mark that a DEFECT region becomes.
Settles O42. -/

namespace Sys2Proof.Machine

/-! ## The place of a mark in the list (R69) -/

theorem markBefore_iff (a b : Mark) : markBefore a b = true ↔
    a.coord < b.coord ∨ a.coord = b.coord ∧ a.isSplice = true ∧ b.isSplice = false := by
  simp [markBefore, and_assoc]

/-- A mark enters in front of the first mark that it goes before. -/
theorem insertMark_split (m : Mark) (l : List Mark) : ∃ before after, l = before ++ after
    ∧ insertMark m l = before ++ m :: after ∧ (∀ k ∈ before, markBefore m k = false)
    ∧ ∀ k, after.head? = some k → markBefore m k = true := by
  induction l with
  | nil => exact ⟨[], [], rfl, rfl, by simp, by simp⟩
  | cons x rest ih =>
    cases first : markBefore m x with
    | true => exact ⟨[], x :: rest, rfl, by simp [insertMark, first], by simp, by simp [first]⟩
    | false =>
      obtain ⟨before, after, list, inserted, passed, next⟩ := ih
      exact ⟨x :: before, after, by rw [list]; rfl, by simp [insertMark, first, inserted],
        List.forall_mem_cons.mpr ⟨first, passed⟩, next⟩

theorem insertMark_perm (m : Mark) (l : List Mark) : (insertMark m l).Perm (m :: l) := by
  obtain ⟨before, after, rfl, inserted, -, -⟩ := insertMark_split m l
  rw [inserted]
  exact List.perm_middle

theorem filter_isSplice_insertMark {m : Mark} (defect : m.isSplice = false) (l : List Mark) :
    (insertMark m l).filter Mark.isSplice = l.filter Mark.isSplice := by
  obtain ⟨before, after, rfl, inserted, -, -⟩ := insertMark_split m l
  simp [inserted, defect]

/-- The order of R69. -/
def Mark.inOrder (a b : Mark) : Prop :=
  a.coord < b.coord ∨ (a.coord = b.coord ∧ ¬(a.isSplice = false ∧ b.isSplice = true))

theorem Mark.inOrder_of_markBefore {a b : Mark} (first : markBefore a b = true) : a.inOrder b := by
  rcases (markBefore_iff a b).mp first with lower | ⟨same, splice, -⟩
  · exact .inl lower
  · exact .inr ⟨same, by simp [splice]⟩

theorem Mark.inOrder_of_not_markBefore {a b : Mark} (not : markBefore b a = false) : a.inOrder b := by
  have other := mt (markBefore_iff b a).mpr (by simp [not])
  push Not at other
  rcases lt_or_eq_of_le other.1 with lower | same
  · exact .inl lower
  · refine .inr ⟨same, fun ⟨defect, splice⟩ => other.2 same.symm splice defect⟩

theorem Mark.inOrder_of_markBefore_of_inOrder {a b c : Mark} (first : markBefore a b = true) (next : b.inOrder c) :
    a.inOrder c := by
  rcases (markBefore_iff a b).mp first with lower | ⟨same, splice, -⟩ <;> rcases next with above | ⟨level, -⟩
  · exact .inl (lower.trans above)
  · exact .inl (level ▸ lower)
  · exact .inl (same ▸ above)
  · exact .inr ⟨same.trans level, by simp [splice]⟩

/-- A mark enters at the position its coordinate gives. -/
theorem pairwise_inOrder_insertMark (m : Mark) {l : List Mark} (ordered : l.Pairwise Mark.inOrder) :
    (insertMark m l).Pairwise Mark.inOrder := by
  obtain ⟨before, after, rfl, inserted, passed, next⟩ := insertMark_split m l
  obtain ⟨front, back, across⟩ := List.pairwise_append.mp ordered
  have behind : ∀ k ∈ after, m.inOrder k := by
    cases after with
    | nil => simp
    | cons x rest =>
      have first := next x rfl
      exact List.forall_mem_cons.mpr ⟨Mark.inOrder_of_markBefore first, fun k mem =>
        Mark.inOrder_of_markBefore_of_inOrder first ((List.pairwise_cons.mp back).1 k mem)⟩
  rw [inserted]
  refine List.pairwise_append.mpr ⟨front, List.pairwise_cons.mpr ⟨behind, back⟩, fun a mem => ?_⟩
  exact List.forall_mem_cons.mpr ⟨Mark.inOrder_of_not_markBefore (passed a mem), across a mem⟩

/-! ## What a merge gathers (R70) -/

theorem Mark.stop_le_endAt (m : Mark) (inspect : Int) : m.stop ≤ m.endAt inspect := by
  unfold Mark.endAt
  split <;> omega

theorem Mark.isSplice_of_isOpen {m : Mark} (opened : m.isOpen = true) : m.isSplice = false := by
  unfold Mark.isOpen at opened
  unfold Mark.isSplice
  cases kind : m.kind <;> simp [kind] at opened ⊢

/-- Fabric that a DEFECT covers. -/
def Mark.covers (inspect : Int) (m : Mark) (x : Int) : Prop := m.isSplice = false ∧ m.coord ≤ x ∧ x < m.endAt inspect

/-- Two DEFECTs neither overlap nor touch. -/
def Mark.apart (inspect : Int) (a b : Mark) : Prop :=
  a.isSplice = false → b.isSplice = false → a.endAt inspect < b.coord ∨ b.endAt inspect < a.coord

theorem Mark.apart.symm {inspect : Int} {a b : Mark} (h : a.apart inspect b) : b.apart inspect a :=
  fun hb ha => (h ha hb).symm

/-- Two marks overlap or touch. -/
def Mark.meets (inspect : Int) (a b : Mark) : Prop := a.coord ≤ b.endAt inspect ∧ b.coord ≤ a.endAt inspect

theorem Merge.takes_iff (inspect : Int) (g : Merge) (m : Mark) : g.takes inspect m = true ↔
    m.isSplice = false ∧ (g.mark.meets inspect m ∨ (g.mark.isOpen = true ∧ m.isOpen = true)) := by
  simp [Merge.takes, touching, Mark.meets]

theorem mergedTag_of_region_none {free : Nat} {region mark : Mark} (none : region.hostTag = none) :
    mergedTag free region mark = mark.hostTag := by
  simp [mergedTag, none]

theorem mergedTag_of_mark_none {free : Nat} {region mark : Mark} (none : mark.hostTag = none) :
    mergedTag free region mark = region.hostTag := by
  cases tag : region.hostTag <;> simp [mergedTag, none, tag]

/-- Of two HOST tags one of the lower coordinate stays; which of two of the same coordinate is a free value. -/
theorem mergedTag_of_both {free : Nat} {region mark : Mark} (hr : region.hostTag ≠ none) (hm : mark.hostTag ≠ none) :
    (mergedTag free region mark = region.hostTag ∧ region.coord ≤ mark.coord)
      ∨ (mergedTag free region mark = mark.hostTag ∧ mark.coord ≤ region.coord) := by
  obtain ⟨t, tag⟩ := Option.ne_none_iff_exists'.mp hr
  obtain ⟨u, tag'⟩ := Option.ne_none_iff_exists'.mp hm
  simp only [mergedTag, tag, tag']
  split
  · exact .inl ⟨rfl, by omega⟩
  · split
    · exact .inr ⟨rfl, by omega⟩
    · split
      · exact .inl ⟨rfl, by omega⟩
      · split
        · exact .inl ⟨rfl, by omega⟩
        · exact .inr ⟨rfl, by omega⟩

/-- `m` carries the HOST tag of the gathered marks: it is one of them, HOST, at the lowest coordinate of the HOST ones. -/
def hostNamed (all : List Mark) (m : Mark) : Prop :=
  m ∈ all ∧ m.hostTag ≠ none ∧ ∀ k ∈ all, k.hostTag ≠ none → m.coord ≤ k.coord

/-- A merge names the HOST tag of the marks it gathered, and where that comes from. -/
def Merge.namesHost (g : Merge) (all : List Mark) : Prop :=
  (g.host.hostTag = none ∧ ∀ m ∈ all, m.hostTag = none)
    ∨ ∃ m, hostNamed all m ∧ g.host.hostTag = m.hostTag ∧ g.host.coord = m.coord

theorem Merge.namesHost.hostTag_of_sensors {g : Merge} {all : List Mark} (h : g.namesHost all)
    (sensors : ∀ m ∈ all, m.hostTag = none) : g.host.hostTag = none := by
  rcases h with ⟨none, -⟩ | ⟨m, ⟨mem, host, -⟩, -⟩
  · exact none
  · exact absurd (sensors m mem) host

theorem Merge.namesHost.of_hosts {g : Merge} {all : List Mark} (h : g.namesHost all)
    (hosts : ∃ m ∈ all, m.hostTag ≠ none) : ∃ m, hostNamed all m ∧ g.host.hostTag = m.hostTag ∧ g.host.coord = m.coord := by
  rcases h with ⟨-, sensors⟩ | named
  · obtain ⟨m, mem, host⟩ := hosts
    exact absurd (sensors m mem) host
  · exact named

/-- `g` is the merge of the marks `all`. -/
structure Merge.Gathers (inspect : Int) (g : Merge) (all : List Mark) : Prop where
  defect : g.mark.isSplice = false
  extent : g.mark.coord < g.mark.endAt inspect
  within : ∀ m ∈ all, g.mark.coord ≤ m.coord ∧ m.endAt inspect ≤ g.mark.endAt inspect
  lowest : ∃ m ∈ all, g.mark.coord = m.coord
  highest : ∃ m ∈ all, g.mark.endAt inspect = m.endAt inspect
  covers : ∀ x, g.mark.covers inspect x ↔ ∃ m ∈ all, m.covers inspect x
  isOpen : g.mark.isOpen = all.any Mark.isOpen
  reached : g.mark.reached = all.all Mark.reached
  hostTag : g.mark.hostTag = g.host.hostTag
  namesHost : g.namesHost all

/-- What is gathered does not depend on the order. -/
theorem Merge.Gathers.congr {inspect : Int} {g : Merge} {all all' : List Mark} (h : g.Gathers inspect all)
    (perm : all'.Perm all) : g.Gathers inspect all' where
  defect := h.defect
  extent := h.extent
  within m mem := h.within m (perm.mem_iff.mp mem)
  lowest := let ⟨m, mem, low⟩ := h.lowest; ⟨m, perm.mem_iff.mpr mem, low⟩
  highest := let ⟨m, mem, high⟩ := h.highest; ⟨m, perm.mem_iff.mpr mem, high⟩
  covers x := by simpa only [perm.mem_iff] using h.covers x
  isOpen := h.isOpen.trans perm.any_eq.symm
  reached := h.reached.trans perm.all_eq.symm
  hostTag := h.hostTag
  namesHost := by simpa only [Merge.namesHost, hostNamed, perm.mem_iff] using h.namesHost

theorem Merge.gathers_region {inspect : Int} {region : Mark} (defect : region.isSplice = false)
    (extent : region.coord < region.endAt inspect) :
    ({ mark := region, host := region } : Merge).Gathers inspect [region] where
  defect := defect
  extent := extent
  within := by simp
  lowest := by simp
  highest := by simp
  covers := by simp
  isOpen := by simp
  reached := by simp
  hostTag := rfl
  namesHost := by
    by_cases host : region.hostTag = none
    · exact .inl (by simpa using host)
    · exact .inr ⟨region, by simpa [hostNamed] using host, rfl, rfl⟩

section
variable {inspect : Int} {g : Merge} {m : Mark} (free : Nat)

@[simp] theorem Merge.isOpen_absorb : (g.absorb free inspect m).mark.isOpen = (g.mark.isOpen || m.isOpen) := rfl

@[simp] theorem Merge.coord_absorb : (g.absorb free inspect m).mark.coord = min g.mark.coord m.coord := rfl

theorem Merge.endAt_absorb (extent : g.mark.coord < g.mark.endAt inspect) (extent' : m.coord < m.endAt inspect) :
    (g.absorb free inspect m).mark.endAt inspect = max (g.mark.endAt inspect) (m.endAt inspect) := by
  have stop : (g.absorb free inspect m).mark.stop = max (g.mark.endAt inspect) (m.endAt inspect) := rfl
  by_cases opened : g.mark.isOpen = true ∨ m.isOpen = true
  · have seen : inspect ≤ max (g.mark.endAt inspect) (m.endAt inspect) := by
      rcases opened with opened | opened
      · exact le_max_of_le_left (by rw [Mark.endAt, if_pos opened]; omega)
      · exact le_max_of_le_right (by rw [Mark.endAt, if_pos opened]; omega)
    rw [Mark.endAt, stop, if_pos (by simpa using opened), Merge.coord_absorb]
    omega
  · rw [Mark.endAt, stop, if_neg (by simpa using opened)]

theorem hostNamed_cons_self {all : List Mark} (host : m.hostTag ≠ none)
    (least : ∀ k ∈ all, k.hostTag ≠ none → m.coord ≤ k.coord) : hostNamed (m :: all) m :=
  ⟨List.mem_cons_self, host, List.forall_mem_cons.mpr ⟨fun _ => le_rfl, least⟩⟩

theorem hostNamed.cons {all : List Mark} {k : Mark} (h : hostNamed all k) (least : m.hostTag ≠ none → k.coord ≤ m.coord) :
    hostNamed (m :: all) k :=
  ⟨List.mem_cons_of_mem _ h.1, h.2.1, List.forall_mem_cons.mpr ⟨least, h.2.2⟩⟩

theorem Merge.namesHost_absorb {all : List Mark} (h : g.namesHost all) :
    (g.absorb free inspect m).namesHost (m :: all) := by
  have tag : (g.absorb free inspect m).host.hostTag = mergedTag free g.host m := rfl
  have place : (g.absorb free inspect m).host.coord = match g.host.hostTag, m.hostTag with
    | some _, some _ => min g.host.coord m.coord
    | none, some _ => m.coord
    | _, _ => g.host.coord := rfl
  rcases h with ⟨old, sensors⟩ | ⟨k, named, same, level⟩ <;> by_cases new : m.hostTag = none
  · exact .inl ⟨tag.trans ((mergedTag_of_region_none old).trans new), List.forall_mem_cons.mpr ⟨new, sensors⟩⟩
  · refine .inr ⟨m, hostNamed_cons_self new fun k mem host => absurd (sensors k mem) host,
      tag.trans (mergedTag_of_region_none old), ?_⟩
    obtain ⟨u, tag'⟩ := Option.ne_none_iff_exists'.mp new
    rw [place, old, tag']
  · refine .inr ⟨k, named.cons fun host => absurd new host, tag.trans ((mergedTag_of_mark_none new).trans same), ?_⟩
    rw [place, new]
    cases g.host.hostTag <;> exact level
  · have old : g.host.hostTag ≠ none := same ▸ named.2.1
    obtain ⟨t, tag'⟩ := Option.ne_none_iff_exists'.mp old
    obtain ⟨u, tag''⟩ := Option.ne_none_iff_exists'.mp new
    have least : (g.absorb free inspect m).host.coord = min g.host.coord m.coord := by rw [place, tag', tag'']
    rcases mergedTag_of_both (free := free) old new with ⟨stays, lower⟩ | ⟨stays, lower⟩
    · exact .inr ⟨k, named.cons fun _ => level ▸ lower, tag.trans (stays.trans same), by omega⟩
    · exact .inr ⟨m, hostNamed_cons_self new fun j mem host => (level ▸ lower).trans (named.2.2 j mem host),
        tag.trans stays, by omega⟩

/-- A merge that meets a DEFECT gathers it too. -/
theorem Merge.Gathers.absorb {all : List Mark} (h : g.Gathers inspect all) (defect : m.isSplice = false)
    (extent : m.coord < m.endAt inspect) (meets : g.mark.meets inspect m) :
    (g.absorb free inspect m).Gathers inspect (m :: all) := by
  obtain ⟨up, down⟩ := meets
  have ends := Merge.endAt_absorb free h.extent extent
  have low := Merge.coord_absorb (inspect := inspect) (g := g) (m := m) free
  have nonempty := h.extent
  refine ⟨rfl, by omega, List.forall_mem_cons.mpr ⟨by omega, fun k mem => ?_⟩, ?_, ?_, fun x => ?_, ?_, ?_, rfl,
    Merge.namesHost_absorb free h.namesHost⟩
  · obtain ⟨above, below⟩ := h.within k mem
    omega
  · obtain ⟨k, mem, lowest⟩ := h.lowest
    rcases le_total g.mark.coord m.coord with le | le
    · exact ⟨k, List.mem_cons_of_mem _ mem, by omega⟩
    · exact ⟨m, List.mem_cons_self, by omega⟩
  · obtain ⟨k, mem, highest⟩ := h.highest
    rcases le_total (m.endAt inspect) (g.mark.endAt inspect) with le | le
    · exact ⟨k, List.mem_cons_of_mem _ mem, by omega⟩
    · exact ⟨m, List.mem_cons_self, by omega⟩
  · rw [List.exists_mem_cons_iff, ← h.covers x]
    simp only [Mark.covers, h.defect, defect, true_and, low, ends]
    have rest : (g.absorb free inspect m).mark.isSplice = false := rfl
    simp only [rest, true_and]
    omega
  · rw [List.any_cons, ← h.isOpen, Merge.isOpen_absorb, Bool.or_comm]
  · rw [List.all_cons, ← h.reached, Bool.and_comm]
    rfl

theorem Merge.meets_absorb {k : Mark} (extent : g.mark.coord < g.mark.endAt inspect) (extent' : m.coord < m.endAt inspect)
    (meets : g.mark.meets inspect k) : (g.absorb free inspect m).mark.meets inspect k := by
  obtain ⟨up, down⟩ := meets
  unfold Mark.meets
  rw [Merge.endAt_absorb free extent extent', Merge.coord_absorb]
  omega

/-- A merge gathers all the DEFECTs that it meets. -/
theorem Merge.Gathers.foldl_absorb {taken : List Mark} {all : List Mark} (h : g.Gathers inspect all)
    (defects : ∀ m ∈ taken, m.isSplice = false) (extents : ∀ m ∈ taken, m.coord < m.endAt inspect)
    (meets : ∀ m ∈ taken, g.mark.meets inspect m) :
    (taken.foldl (Merge.absorb free inspect) g).Gathers inspect (all ++ taken) := by
  induction taken generalizing g all with
  | nil => simpa using h
  | cons m rest ih =>
    rw [List.forall_mem_cons] at defects extents meets
    exact (ih (h.absorb free defects.1 extents.1 meets.1) defects.2 extents.2 fun k mem =>
      Merge.meets_absorb free h.extent extents.1 (meets.2 k mem)).congr List.perm_middle

end

/-! ## The rounds of a merge (R70) -/

/-- The open marks that an open merge could still take are marks it meets. -/
def Merge.opensMeet (inspect : Int) (g : Merge) (l : List Mark) : Prop :=
  g.mark.isOpen = true → ∀ m ∈ l, m.isOpen = true → g.mark.meets inspect m

/-- With one open mark at most, a merge takes just the DEFECTs it meets. -/
theorem Merge.meets_of_takes {inspect : Int} {g : Merge} {l : List Mark} {m : Mark} (opens : g.opensMeet inspect l)
    (mem : m ∈ l) (takes : g.takes inspect m = true) : m.isSplice = false ∧ g.mark.meets inspect m := by
  obtain ⟨defect, meets | ⟨opened, opened'⟩⟩ := (Merge.takes_iff ..).mp takes
  · exact ⟨defect, meets⟩
  · exact ⟨defect, opens opened m mem opened'⟩

/-- A merge that takes no mark of a list is apart from each. -/
theorem Merge.apart_of_not_takes {inspect : Int} {g : Merge} {m : Mark} (not : ¬g.takes inspect m = true) :
    g.mark.apart inspect m := fun _ defect => by
  have := mt (Merge.takes_iff inspect g m).mpr not
  simp only [defect, true_and, Mark.meets] at this
  omega

theorem mergeAll_of_apart {free : Nat} {inspect : Int} (fuel : Nat) {g : Merge} {l : List Mark}
    (none : l.filter (g.takes inspect) = []) : mergeAll free inspect (fuel + 1) g l = (g.mark, l) := by
  simp only [mergeAll, none]

theorem mergeAll_of_meets {free : Nat} {inspect : Int} (fuel : Nat) {g : Merge} {l : List Mark}
    (some : l.filter (g.takes inspect) ≠ []) : mergeAll free inspect (fuel + 1) g l =
      mergeAll free inspect fuel ((l.filter (g.takes inspect)).foldl (Merge.absorb free inspect) g)
        (l.filter fun m => !g.takes inspect m) := by
  rw [mergeAll]
  split
  · next none => exact absurd none some
  · rfl

/-- A round that leaves the merge open leaves no open mark: an open merge takes it, and there is one at most. -/
theorem Merge.opensMeet_round {inspect : Int} {g h : Merge} {l : List Mark} (single : l.countP Mark.isOpen ≤ 1)
    (gathered : h.mark.isOpen = (g.mark.isOpen || (l.filter (g.takes inspect)).any Mark.isOpen)) :
    h.opensMeet inspect (l.filter fun m => !g.takes inspect m) := by
  intro opened m mem opened'
  obtain ⟨listed, left⟩ := List.mem_filter.mp mem
  have defect := Mark.isSplice_of_isOpen opened'
  rcases Bool.or_eq_true_iff.mp (gathered.symm.trans opened) with old | new
  · exact absurd ((Merge.takes_iff inspect g m).mpr ⟨defect, .inr ⟨old, opened'⟩⟩) (by simpa using left)
  · obtain ⟨k, taken, opened''⟩ := List.any_eq_true.mp new
    have one := List.countP_pos_iff.mpr ⟨k, taken, opened''⟩
    have two := List.countP_pos_iff.mpr ⟨m, mem, opened'⟩
    have sum := (List.filter_append_perm (g.takes inspect) l).countP_eq Mark.isOpen
    rw [List.countP_append] at sum
    omega

theorem length_filter_not_lt {α : Type} {p : α → Bool} {l : List α} (some : l.filter p ≠ []) :
    (l.filter fun x => !p x).length < l.length := by
  have split := (List.filter_append_perm p l).length_eq
  have pos := List.length_pos_iff.mpr some
  rw [List.length_append] at split
  omega

/-- What one of two rounds takes: what the first takes, and what the second takes of the rest. -/
theorem filter_not_and_perm {α : Type} (p q : α → Bool) (l : List α) :
    (l.filter fun x => !(q x && !p x)).Perm (l.filter p ++ (l.filter fun x => !p x).filter fun x => !q x) := by
  have first : ((l.filter fun x => !(q x && !p x)).filter p) = l.filter p := by
    rw [List.filter_filter]
    exact List.filter_congr fun x _ => by cases p x <;> simp
  have rest : ((l.filter fun x => !(q x && !p x)).filter fun x => !p x) = (l.filter fun x => !p x).filter fun x => !q x := by
    rw [List.filter_filter, List.filter_filter]
    exact List.filter_congr fun x _ => by cases p x <;> simp
  rw [← first, ← rest]
  exact (List.filter_append_perm p _).symm

/-- What the rounds of a merge end with: a merge of the marks it gathered and those it took from the list, every other DEFECT
apart from it. -/
def Merge.endsWith (inspect : Int) (all l : List Mark) (out : Mark × List Mark) : Prop :=
  ∃ (keep : Mark → Bool) (host : Mark), out.2 = l.filter keep ∧ (∀ m, m.isSplice = true → keep m = true)
    ∧ (∀ m ∈ out.2, out.1.apart inspect m)
    ∧ ({ mark := out.1, host := host } : Merge).Gathers inspect (all ++ l.filter fun m => !keep m)

theorem Merge.Gathers.mergeAll {free : Nat} {inspect : Int} {fuel : Nat} {g : Merge} {all l : List Mark}
    (gathers : g.Gathers inspect all) (enough : l.length < fuel) (extents : ∀ m ∈ l, m.coord < m.endAt inspect)
    (single : l.countP Mark.isOpen ≤ 1) (opens : g.opensMeet inspect l) :
    Merge.endsWith inspect all l (mergeAll free inspect fuel g l) := by
  induction fuel generalizing g all l with
  | zero => exact absurd enough (Nat.not_lt_zero _)
  | succ fuel ih =>
    by_cases none : l.filter (g.takes inspect) = []
    · rw [mergeAll_of_apart fuel none]
      refine ⟨fun _ => true, g.host, by simp, fun _ _ => rfl, fun m mem => ?_, by simpa using gathers⟩
      exact Merge.apart_of_not_takes (List.filter_eq_nil_iff.mp none m mem)
    · rw [mergeAll_of_meets fuel none]
      have taken (m : Mark) (mem : m ∈ l.filter (g.takes inspect)) : m ∈ l ∧ m.isSplice = false ∧ g.mark.meets inspect m :=
        ⟨List.mem_of_mem_filter mem, Merge.meets_of_takes opens (List.mem_of_mem_filter mem) (List.mem_filter.mp mem).2⟩
      have round := gathers.foldl_absorb free (fun m mem => (taken m mem).2.1) (fun m mem => extents m (taken m mem).1)
        fun m mem => (taken m mem).2.2
      have fewer : (l.filter fun m => !g.takes inspect m).length < fuel := by
        have := length_filter_not_lt none
        omega
      obtain ⟨keep, host, list, splices, apart, ends⟩ := ih round fewer
        (fun m mem => extents m (List.mem_of_mem_filter mem))
        (((List.filter_sublist).countP_le).trans single)
        (Merge.opensMeet_round single (by rw [round.isOpen, List.any_append, ← gathers.isOpen]))
      refine ⟨fun m => keep m && !g.takes inspect m, host, list.trans (List.filter_filter ..), fun m splice => ?_, apart,
        ends.congr ?_⟩
      · simp [splices m splice, Merge.takes, splice]
      · rw [List.append_assoc]
        exact (filter_not_and_perm ..).append_left all

/-- A DEFECT region enters the list as the merge of itself and the DEFECTs taken. -/
theorem placeRegion_gathers (free : Nat) {inspect : Int} {region : Mark} {l : List Mark} (defect : region.isSplice = false)
    (extent : region.coord < region.stop) (extents : ∀ m ∈ l, m.coord < m.endAt inspect)
    (single : l.countP Mark.isOpen ≤ 1)
    (opens : region.isOpen = true → ∀ m ∈ l, m.isOpen = true →
      m.coord ≤ region.endAt inspect ∧ region.coord ≤ m.endAt inspect) :
    let out := placeRegion free inspect region l
    ∃ (keep : Mark → Bool) (host : Mark), out.2 = insertMark out.1 (l.filter keep)
      ∧ (∀ m, m.isSplice = true → keep m = true) ∧ (∀ m ∈ l.filter keep, out.1.apart inspect m)
      ∧ ({ mark := out.1, host := host } : Merge).Gathers inspect (region :: l.filter fun m => !keep m) := by
  have whole := Merge.gathers_region defect (extent.trans_le (region.stop_le_endAt inspect))
  obtain ⟨keep, host, kept, splices, away, gathers⟩ := whole.mergeAll (free := free) (Nat.lt_succ_self _) extents single
    fun opened m mem opened' => (opens opened m mem opened').symm
  exact ⟨keep, host, congrArg (insertMark _) kept, splices, kept ▸ away, gathers⟩

section
variable {inspect : Int} {out region host : Mark} {keep : Mark → Bool} {l : List Mark}
  (gathers : ({ mark := out, host := host } : Merge).Gathers inspect (region :: l.filter fun m => !keep m))
include gathers

/-- The marks taken are the DEFECTs that the merged mark covers. -/
theorem Merge.Gathers.filter_covered (extents : ∀ m ∈ l, m.coord < m.endAt inspect)
    (splices : ∀ m, m.isSplice = true → keep m = true) (away : ∀ m ∈ l.filter keep, out.apart inspect m) :
    (l.filter fun m => !m.isSplice && decide (out.coord ≤ m.coord ∧ m.endAt inspect ≤ out.endAt inspect)) =
      l.filter fun m => !keep m := by
  refine List.filter_congr fun m mem => ?_
  have extent := extents m mem
  have extent' : out.coord < out.endAt inspect := gathers.extent
  cases stays : keep m with
  | true =>
    cases kind : m.isSplice with
    | true => rfl
    | false =>
      have clear := away m (List.mem_filter.mpr ⟨mem, stays⟩) gathers.defect kind
      have outside : ¬(out.coord ≤ m.coord ∧ m.endAt inspect ≤ out.endAt inspect) := by omega
      simp [outside]
  | false =>
    have inside : out.coord ≤ m.coord ∧ m.endAt inspect ≤ out.endAt inspect :=
      gathers.within m (List.mem_cons_of_mem _ (List.mem_filter.mpr ⟨mem, by simp [stays]⟩))
    have kind : m.isSplice = false := Bool.eq_false_iff.mpr fun splice => by simp [splices m splice] at stays
    simp [kind, inside]

/-- A list of the merged mark and the marks kept covers the fabric of the region and of the old list. -/
theorem Merge.Gathers.covered_iff {new : List Mark} (mem_new : ∀ m, m ∈ new ↔ m = out ∨ (m ∈ l ∧ keep m = true)) (x : Int) :
    (∃ m ∈ new, m.covers inspect x) ↔ region.covers inspect x ∨ ∃ m ∈ l, m.covers inspect x := by
  have merged : out.covers inspect x ↔ _ := gathers.covers x
  rw [List.exists_mem_cons_iff] at merged
  constructor
  · rintro ⟨m, mem, covered⟩
    rcases (mem_new m).mp mem with rfl | ⟨listed, -⟩
    · exact (merged.mp covered).imp_right fun ⟨k, mem, covered⟩ => ⟨k, List.mem_of_mem_filter mem, covered⟩
    · exact .inr ⟨m, listed, covered⟩
  · rintro (covered | ⟨m, mem, covered⟩)
    · exact ⟨out, (mem_new _).mpr (.inl rfl), merged.mpr (.inl covered)⟩
    · cases stays : keep m with
      | true => exact ⟨m, (mem_new m).mpr (.inr ⟨mem, stays⟩), covered⟩
      | false =>
        refine ⟨out, (mem_new _).mpr (.inl rfl), merged.mpr (.inr ⟨m, List.mem_filter.mpr ⟨mem, ?_⟩, covered⟩)⟩
        simp [stays]

end

/-- Settles O42: what the rounds of the merge end with (`Merge.Gathers.mergeAll`), entered at its place. -/
theorem regionsKeptApart : Obligations.RegionsKeptApart := by
  intro free inspect region l apart inOrder covers separate ordered extents single defect extent opens out
  obtain ⟨keep, host, list, splices, away, gathers⟩ := placeRegion_gathers free defect extent extents single opens
  have perm : out.2.Perm (out.1 :: l.filter keep) := (List.Perm.of_eq list).trans (insertMark_perm ..)
  have taken := gathers.filter_covered extents splices away
  have mem_out (m : Mark) : m ∈ out.2 ↔ m = out.1 ∨ (m ∈ l ∧ keep m = true) := by
    rw [perm.mem_iff, List.mem_cons, List.mem_filter]
  refine ⟨?_, ?_, ?_, fun x => ?_, (mem_out _).mpr (.inl rfl), fun x covered => ?_, ?_⟩
  · exact (perm.pairwise_iff Mark.apart.symm).mpr (List.pairwise_cons.mpr ⟨away, separate.sublist List.filter_sublist⟩)
  · rw [list]
    exact pairwise_inOrder_insertMark out.1 (ordered.sublist List.filter_sublist)
  · rw [list, filter_isSplice_insertMark gathers.defect, List.filter_filter]
    refine List.filter_congr fun m _ => ?_
    cases splice : m.isSplice with
    | true => simp [splices m splice]
    | false => rfl
  · exact gathers.covered_iff mem_out x
  · exact (gathers.covers x).mpr ⟨region, List.mem_cons_self, covered⟩
  · intro absorbed all
    have same : all = region :: l.filter fun m => !keep m := congrArg (List.cons region) taken
    rw [same]
    refine ⟨gathers.defect, fun m => ?_, gathers.within, gathers.lowest, gathers.highest, gathers.isOpen, gathers.reached,
      ?_, ?_⟩
    · have gone : absorbed = l.filter fun m => !keep m := taken
      rw [mem_out, gone, List.mem_filter]
      refine or_congr_right (and_congr_right fun mem => ?_)
      simp [mem]
    · exact fun sensors => gathers.hostTag.trans (gathers.namesHost.hostTag_of_sensors sensors)
    · intro hosts
      obtain ⟨m, ⟨mem, host, least⟩, same, -⟩ := gathers.namesHost.of_hosts hosts
      exact ⟨m, mem, host, gathers.hostTag.trans same, least⟩

end Sys2Proof.Machine
end

section
/-! SUPPORT. Where a DEFECT region enters (R70 to R74, R76, R77): the place it needs, the marks it reaches, the close at an inactive
edge, and the answer of REPORT DEFECT. Settles O41. -/

namespace Sys2Proof.Machine

/-! ## The place a region needs (R71) -/

theorem Mark.endAt_of_shut {m : Mark} (shut : m.isOpen = false) (inspect : Int) : m.endAt inspect = m.stop := by
  simp [Mark.endAt, shut]

/-- A region merges with a DEFECT of the list (R70, R72). -/
def Mark.mergesWith (inspect : Int) (region m : Mark) : Prop :=
  m.isSplice = false ∧ ((region.coord ≤ m.endAt inspect ∧ m.coord ≤ region.stop)
    ∨ (region.isOpen = true ∧ m.isOpen = true))

/-- The list has no place for a region (R71). -/
def Mark.findsFull (inspect : Int) (region : Mark) (l : List Mark) : Prop :=
  (60 ≤ (l.countP fun m => !m.isSplice) ∨ 64 ≤ l.length) ∧ ∀ m ∈ l, ¬region.mergesWith inspect m

section
variable {inspect : Int} {region : Mark} (ends : region.endAt inspect = region.stop)
include ends

theorem Mark.takes_iff_mergesWith (m : Mark) :
    ({ mark := region, host := region } : Merge).takes inspect m = true ↔ region.mergesWith inspect m := by
  rw [Merge.takes_iff, Mark.mergesWith, Mark.meets, ends]

theorem noPlace_iff (l : List Mark) : noPlace inspect region l = true ↔ region.findsFull inspect l := by
  have merges : mergesInto inspect region l = true ↔ ∃ m ∈ l, region.mergesWith inspect m := by
    simp only [mergesInto, List.any_eq_true, Mark.takes_iff_mergesWith ends]
  have none : (!mergesInto inspect region l) = true ↔ ∀ m ∈ l, ¬region.mergesWith inspect m := by
    rw [Bool.not_eq_true', Bool.eq_false_iff, ne_eq, merges]
    push Not
    rfl
  rw [noPlace, Bool.and_eq_true, none, Mark.findsFull, and_comm]
  simp

/-- A region that merges with no mark of the list is its own mark. -/
theorem placeRegion_of_apart (free : Nat) {l : List Mark} (alone : ∀ m ∈ l, ¬region.mergesWith inspect m) :
    (placeRegion free inspect region l).1 = region := by
  have none : l.filter (Merge.takes inspect { mark := region, host := region }) = [] :=
    List.filter_eq_nil_iff.mpr fun m mem => mt (Mark.takes_iff_mergesWith ends m).mp (alone m mem)
  exact congrArg Prod.fst (mergeAll_of_apart l.length none)

end

/-! ## The marks reached where one enters (R76) -/

/-- The marks of a new list at or below the head are reached. -/
theorem State.marksReached_reachMarks (s : State) {w : Wtr} (fabric : w.headFabric = s.wtr.headFabric) :
    s.marksReached ({ s with wtr := w } : State).reachMarks w.marks := by
  rw [State.reachMarks_eq]
  refine ⟨rfl, fun defects => ?_, fun before m p after new splice defects => ?_, fun shut => ?_, fun opened => ?_⟩
  · exact (foldl_fabricAfter_of_defects defects _).trans fabric
  · exact (congrArg (List.foldl fabricAfter _) new).trans (foldl_fabricAfter_of_last_splice splice defects _)
  · exact if_neg (by rw [State.panelOpen_of_none (s := { s with wtr := w }) shut]; exact Bool.false_ne_true)
  · exact if_pos (State.panelOpen_of_ne_none (s := { s with wtr := w }) opened)

theorem State.marksReached_enterRegion (s : State) (region : Mark) :
    s.marksReached (s.enterRegion region) (placeRegion s.freeCtr s.inspectCoord region s.wtr.marks).2 :=
  s.marksReached_reachMarks (w := { s.wtr with marks := _ }) rfl

/-- What the entry of a region leaves but for the marks reached. -/
theorem State.enterRegion_frame (s : State) (region : Mark) : s.enterRegion region = { s with
    str := (s.enterRegion region).str
    wtr := { s.wtr with
      marks := (s.enterRegion region).wtr.marks, headFabric := (s.enterRegion region).wtr.headFabric } } := by
  rw [State.enterRegion, State.reachMarks_eq]
  rfl

/-! ## The close of the open mark (R73) -/

theorem Mark.isOpen_close (inspect : Int) (m : Mark) : (m.close inspect).isOpen = false := by
  unfold Mark.close
  split
  · rfl
  · next other =>
    unfold Mark.isOpen
    cases kind : m.kind with
    | splice p => rfl
    | defect tag o => exact Bool.eq_false_iff.mpr fun opened => other tag (kind.trans (opened ▸ rfl))

/-- The marks that an inactive edge leaves with no feed in progress. -/
theorem State.closeOpenMark_passMarks (s : State) : s.closeOpenMark.passMarks = { s with wtr := { s.wtr with
    closePending := false
    marks := (s.wtr.marks.map (Mark.close s.inspectCoord)).filter fun m => decide (s.headCoord < m.stop) } } := by
  have closed : ((s.wtr.marks.map (Mark.close s.inspectCoord)).filter fun m => m.isOpen || decide (s.headCoord < m.stop)) =
      (s.wtr.marks.map (Mark.close s.inspectCoord)).filter fun m => decide (s.headCoord < m.stop) :=
    List.filter_congr fun m mem => by
      obtain ⟨k, -, rfl⟩ := List.mem_map.mp mem
      rw [Mark.isOpen_close, Bool.false_or]
  rw [← closed]
  rfl

/-! ## The events -/

section
variable {s : State}

theorem State.endAt_sensorRegion (s : State) : s.sensorRegion.endAt s.inspectCoord = s.sensorRegion.stop := by
  have opened : s.sensorRegion.isOpen = true := rfl
  rw [Mark.endAt, if_pos opened]
  show max (max (s.inspectCoord + 1) s.inspectCoord) (s.inspectCoord + 1) = s.inspectCoord + 1
  omega

/-- The DEFECT input as an active edge leaves it. -/
def State.sensing (s : State) : State := { s with wtr := { s.wtr with defectActive := true, closePending := false } }

theorem execDefectActiveEdge_full (full : s.sensorRegion.findsFull s.inspectCoord s.wtr.marks) :
    exec .defectActiveEdge s = .next s.sensing.loseMark :=
  congrArg Host.Outcome.next (if_pos ((noPlace_iff s.endAt_sensorRegion _).mpr full))

theorem execDefectActiveEdge_enters (place : ¬s.sensorRegion.findsFull s.inspectCoord s.wtr.marks) :
    exec .defectActiveEdge s = .next (s.sensing.enterRegion s.sensorRegion) :=
  congrArg Host.Outcome.next (if_neg (mt (noPlace_iff s.endAt_sensorRegion _).mp place))

theorem execDefectInactiveEdge_feeding (feeding : s.seq.feedPort ≠ none) : exec .defectInactiveEdge s =
    .next { s with wtr := { s.wtr with defectActive := false, closePending := true } } :=
  congrArg Host.Outcome.next (if_pos (Option.isSome_iff_ne_none.mpr feeding))

section
variable (still : s.seq.feedPort = none)
include still

theorem execDefectInactiveEdge_still : exec .defectInactiveEdge s =
    .next (if s.wtr.marks.any Mark.isOpen
      then (s.onWtr fun w => { w with defectActive := false }).closeOpenMark.passMarks
      else s.onWtr fun w => { w with defectActive := false }) :=
  congrArg Host.Outcome.next (if_neg (by simp [State.feeding, still]))

theorem execDefectInactiveEdge_shut (shut : ∀ m ∈ s.wtr.marks, m.isOpen = false) : exec .defectInactiveEdge s =
    .next { s with wtr := { s.wtr with defectActive := false } } := by
  rw [execDefectInactiveEdge_still still, if_neg (by simpa using shut)]
  rfl

theorem execDefectInactiveEdge_closes (opened : ∃ m ∈ s.wtr.marks, m.isOpen = true) {close : Mark → Mark}
    (closes : close = Mark.close s.inspectCoord) : exec .defectInactiveEdge s =
      .next { s with wtr := { s.wtr with
        defectActive := false, closePending := false
        marks := (s.wtr.marks.map close).filter fun m => decide (s.headCoord < m.stop) } } := by
  rw [execDefectInactiveEdge_still still, if_pos (by simpa using opened), State.closeOpenMark_passMarks, closes]
  rfl

end

end

/-! ## REPORT DEFECT (R74) -/

/-- The region of a REPORT DEFECT payload. -/
def State.reported (s : State) (p : List Byte) : Mark :=
  s.hostRegion (fieldAtSigned p 0 4) (fieldAt p 4 6) (fieldAt p 10 2)

/-- The RANGE checks of REPORT DEFECT. -/
def State.reportRefused (s : State) (p : List Byte) : Prop :=
  fieldAt p 4 6 < 1 ∨ 1000000 < fieldAt p 4 6 ∨ fieldAtSigned p 0 4 < 0 ∨ s.tableCoord < s.headCoord + fieldAtSigned p 0 4

section
variable {s : State} {p : List Byte}

theorem State.endAt_reported (s : State) (p : List Byte) : (s.reported p).endAt s.inspectCoord = (s.reported p).stop :=
  Mark.endAt_of_shut rfl _

theorem handleReportDefect_range (length : p.length = 12) (refused : s.reportRefused p) :
    handleReportDefect p s = (s, [0x03#8]) := by
  simp only [handleReportDefect, length, ne_eq, not_true_eq_false, if_false]
  rcases refused with short | long | behind | beyond
  · rw [if_pos (.inl short)]; rfl
  · rw [if_pos (.inr long)]; rfl
  · rw [if_pos behind, ite_self]; rfl
  · rw [if_pos beyond, ite_self, ite_self]; rfl

section
variable (length : p.length = 12) (fits : ¬s.reportRefused p)
include length fits

theorem handleReportDefect_in_range : handleReportDefect p s =
    if noPlace s.inspectCoord (s.reported p) s.wtr.marks then (s.loseMark, [0x05#8])
    else
      let m := (placeRegion s.freeCtr s.inspectCoord (s.reported p) s.wtr.marks).1
      ((s.enterRegion (s.reported p)).useFree,
        0x00#8 :: (beInt 8 m.coord ++ beBytes 6 (m.endAt s.inspectCoord - m.coord).toNat)) := by
  simp only [State.reportRefused, not_or] at fits
  obtain ⟨short, long, behind, beyond⟩ := fits
  simp only [handleReportDefect, length, ne_eq, not_true_eq_false, if_false]
  rw [if_neg (not_or.mpr ⟨short, long⟩), if_neg behind, if_neg beyond]
  rfl

theorem handleReportDefect_full (full : (s.reported p).findsFull s.inspectCoord s.wtr.marks) :
    handleReportDefect p s = (s.loseMark, [0x05#8]) :=
  (handleReportDefect_in_range length fits).trans (if_pos ((noPlace_iff (s.endAt_reported p) _).mpr full))

theorem handleReportDefect_enters (place : ¬(s.reported p).findsFull s.inspectCoord s.wtr.marks) :
    handleReportDefect p s =
      let m := (placeRegion s.freeCtr s.inspectCoord (s.reported p) s.wtr.marks).1
      ((s.enterRegion (s.reported p)).useFree,
        0x00#8 :: (beInt 8 m.coord ++ beBytes 6 (m.endAt s.inspectCoord - m.coord).toNat)) :=
  (handleReportDefect_in_range length fits).trans (if_neg (mt (noPlace_iff (s.endAt_reported p) _).mp place))

end

end

theorem exec_reportDefect (tag : BitVec 16) (p : List Byte) {s : State} (taken : s.taken) : exec (.reportDefect tag p) s =
    .next ((handleReportDefect p s.restartSilence).1.pushReply 0x30#8 tag (handleReportDefect p s.restartSilence).2) :=
  congrArg Host.Outcome.next (hostRequest_taken 0x30#8 .configuredOnly handleReportDefect tag p taken)

/-- Settles O41: the place of a region by `noPlace_iff`, what its entry reaches by `State.marksReached_enterRegion`. -/
theorem defectsEnter : Obligations.DefectsEnter := by
  intro s touches full lost placed entered open_
  refine ⟨execDefectActiveEdge_full, fun place => ⟨_, execDefectActiveEdge_enters place, ?_⟩,
    execDefectInactiveEdge_feeding, execDefectInactiveEdge_shut, fun still opened => ?_, fun tag payload taken length => ?_⟩
  · have frame := s.sensing.enterRegion_frame s.sensorRegion
    refine ⟨⟨s.sensing.marksReached_enterRegion s.sensorRegion, ?_, placeRegion_of_apart s.endAt_sensorRegion s.freeCtr, ?_⟩,
      ?_, ?_, ?_, ?_⟩
    all_goals rw [frame]; rfl
  · refine execDefectInactiveEdge_closes still opened (funext fun ⟨kind, coord, stop, reached⟩ => ?_)
    rcases kind with p | ⟨tag, _ | _⟩ <;> rfl
  · intro offset extent r refused
    rw [exec_reportDefect tag payload taken]
    refine ⟨fun bad => ?_, fun fits noRoom => ?_, fun fits place => ?_⟩
    · rw [handleReportDefect_range (s := s.restartSilence) length bad]
      rfl
    · rw [handleReportDefect_full (s := s.restartSilence) length fits noRoom]
      rfl
    · have frame := s.restartSilence.enterRegion_frame r
      rw [handleReportDefect_enters (s := s.restartSilence) length fits place]
      refine ⟨(s.restartSilence.enterRegion r).useFree, rfl,
        ⟨s.restartSilence.marksReached_enterRegion r, ?_, placeRegion_of_apart (s.endAt_reported payload) s.freeCtr, ?_⟩,
        ?_, ?_, ?_, ?_⟩
      all_goals rw [frame]; rfl

end Sys2Proof.Machine
end

section
/-! SUPPORT. The splice table (R75, R76, R147, R150, R151, R153): where a SPLICE is made, and what the table's statuses do to a change.
Settles O52. -/

namespace Sys2Proof.Machine

/-! ## The coordinate of a new SPLICE (R75) -/

/-- The greatest of a value and the numbers of a list is above all of them and one of them. -/
theorem foldl_max_spec {α : Type} (f : α → Int) (l : List α) (c : Int) :
    c ≤ l.foldl (fun c a => max c (f a)) c ∧ (∀ a ∈ l, f a ≤ l.foldl (fun c a => max c (f a)) c)
      ∧ (l.foldl (fun c a => max c (f a)) c = c ∨ ∃ a ∈ l, l.foldl (fun c a => max c (f a)) c = f a) := by
  induction l generalizing c with
  | nil => simp
  | cons a rest ih =>
    obtain ⟨low, above, one⟩ := ih (max c (f a))
    rw [List.foldl_cons]
    refine ⟨by omega, List.forall_mem_cons.mpr ⟨by omega, above⟩, ?_⟩
    rcases one with start | ⟨b, mem, is⟩
    · rcases max_choice c (f a) with first | second
      · exact .inl (start.trans first)
      · exact .inr ⟨a, List.mem_cons_self, start.trans second⟩
    · exact .inr ⟨b, List.mem_cons_of_mem _ mem, is⟩

/-- A SPLICE is made at the splice table coordinate, or just above the highest SPLICE. -/
theorem spliceCoord_spec (table : Int) (l : List Mark) : table ≤ spliceCoord table l
    ∧ (∀ k ∈ l, k.isSplice = true → k.coord < spliceCoord table l)
    ∧ (spliceCoord table l = table ∨ ∃ k ∈ l, k.isSplice = true ∧ spliceCoord table l = k.coord + 1) := by
  obtain ⟨low, above, one⟩ := foldl_max_spec (fun m : Mark => m.coord + 1) (l.filter Mark.isSplice) table
  refine ⟨low, fun k mem splice => Int.lt_of_add_one_le (above k (List.mem_filter.mpr ⟨mem, splice⟩)), one.imp_right ?_⟩
  rintro ⟨k, mem, is⟩
  obtain ⟨listed, splice⟩ := List.mem_filter.mp mem
  exact ⟨k, listed, splice, is⟩

/-- The mark of a new splice (R75). -/
def State.newSplice (s : State) (p : Nat) : Mark :=
  { kind := .splice p, coord := spliceCoord s.tableCoord s.wtr.marks, reached := false
    stop := spliceCoord s.tableCoord s.wtr.marks + s.counts s.rcu.settings.spliceLength }

/-- A SPLICE above the others goes behind all marks below it and in front of the rest, a DEFECT of its own coordinate included. -/
theorem State.insertMark_newSplice (s : State) (p : Nat) : ∃ before after, s.wtr.marks = before ++ after
    ∧ insertMark (s.newSplice p) s.wtr.marks = before ++ s.newSplice p :: after
    ∧ (∀ k ∈ before, k.coord < (s.newSplice p).coord)
    ∧ ∀ k, after.head? = some k →
        (s.newSplice p).coord < k.coord ∨ ((s.newSplice p).coord = k.coord ∧ k.isSplice = false) := by
  obtain ⟨before, after, list, inserted, passed, next⟩ := insertMark_split (s.newSplice p) s.wtr.marks
  refine ⟨before, after, list, inserted, fun k mem => ?_, fun k first => ?_⟩
  · have highest := (spliceCoord_spec s.tableCoord s.wtr.marks).2.1 k (list ▸ List.mem_append_left _ mem)
    cases splice : k.isSplice with
    | true => exact highest splice
    | false =>
      refine lt_of_not_ge fun above => ?_
      have : markBefore (s.newSplice p) k = true := (markBefore_iff _ k).mpr
        ((lt_or_eq_of_le above).imp_right fun same => ⟨same, rfl, splice⟩)
      exact absurd this (by simp [passed k mem])
  · exact ((markBefore_iff _ k).mp (next k first)).imp_right fun ⟨same, _, defect⟩ => ⟨same, defect⟩

theorem State.marksReached_makeSplice (s : State) (p : Nat) :
    s.marksReached (s.makeSplice p) (insertMark (s.newSplice p) s.wtr.marks) :=
  s.marksReached_reachMarks (w := { s.wtr with marks := _ }) rfl

/-- What a new splice leaves but for the marks reached. -/
theorem State.makeSplice_frame (s : State) (p : Nat) : s.makeSplice p = { s with
    str := (s.makeSplice p).str
    wtr := { s.wtr with marks := (s.makeSplice p).wtr.marks, headFabric := (s.makeSplice p).wtr.headFabric } } := by
  rw [State.makeSplice, State.reachMarks_eq]
  rfl

/-! ## The statuses of the table (R147, R150, R151) -/

section
variable {s : State} {c : Change} (change : s.rcu.change = some c)
include change

theorem State.tableStatus_of_other {st : TableStatus} (spliced : ¬(c.phase = .splicing ∧ st = .spliced))
    (cut : ¬(c.phase = .cutting ∧ st = .cut)) : s.tableStatus st = s := by
  unfold State.tableStatus
  simp only [change]
  split
  · next phase => exact absurd ⟨phase, rfl⟩ spliced
  · next phase => exact absurd ⟨phase, rfl⟩ cut
  · rfl

theorem State.tableStatus_spliced (phase : c.phase = .splicing) {p : Nat} (named : (s.rcu.unwind c.new).profileId = some p) :
    s.tableStatus .spliced = { s.makeSplice p with rcu := { s.rcu with
      change := some { c with phase := .cutting, deadline := s.clock + s.rcu.settings.cuttingS * 1000 } } } := by
  have frame := s.makeSplice_frame p
  have change' : (s.makeSplice p).rcu.change = some c := by rw [frame]; exact change
  have does : s.tableStatus .spliced = (s.makeSplice p).enterPhase .cutting := by
    simp only [State.tableStatus, change, phase, State.spliceComplete, named, Option.getD_some]
  rw [does, State.enterPhase_eq change', frame]
  rfl

theorem State.tableStatus_cut (phase : c.phase = .cutting) : s.tableStatus .cut = { s with rcu :=
    { (s.rcu.onUnwind c.old Unwind.spend).onUnwind c.new Unwind.toActive with
      change := some { c with phase := .restarting, deadline := s.clock + s.rcu.settings.restartingS * 1000 } } } := by
  have change' : ((s.onUnwind c.old Unwind.spend).onUnwind c.new Unwind.toActive).rcu.change = some c :=
    (Rcu.onUnwind_change ..).trans ((Rcu.onUnwind_change ..).trans change)
  have settings : ((s.onUnwind c.old Unwind.spend).onUnwind c.new Unwind.toActive).rcu.settings = s.rcu.settings :=
    (Rcu.onUnwind_settings ..).trans (Rcu.onUnwind_settings ..)
  have does : s.tableStatus .cut = ((s.onUnwind c.old Unwind.spend).onUnwind c.new Unwind.toActive).enterPhase .restarting := by
    simp only [State.tableStatus, change, phase, State.cutComplete]
  rw [does, State.enterPhase_eq change', settings]
  rfl

end

/-- Settles O52: the place of the SPLICE by `State.insertMark_newSplice`, what it reaches by `State.marksReached_makeSplice`. -/
theorem spliceTableDrives : Obligations.SpliceTableDrives := by
  intro s
  refine ⟨s.breakChange_eq .station, fun c other => if_neg other, fun st code => ?_, fun idle st => ?_, fun c change =>
    ⟨fun st => State.tableStatus_of_other change, fun phase p named => ?_, State.tableStatus_cut change⟩⟩
  · rw [← State.breakChange_eq]
    rfl
  · simp only [State.tableStatus, idle]
  · intro t
    have is : t = _ := State.tableStatus_spliced change phase named
    obtain ⟨before, after, list, inserted, below, above⟩ := s.insertMark_newSplice p
    obtain ⟨low, highest, place⟩ := spliceCoord_spec s.tableCoord s.wtr.marks
    have reached := s.marksReached_makeSplice p
    rw [inserted] at reached
    refine ⟨spliceCoord s.tableCoord s.wtr.marks, before, after, list, ?_, below, above, low, highest, place, ?_⟩
    · rw [is]
      exact reached
    · rw [is, s.makeSplice_frame p]

end Sys2Proof.Machine
end

section
/-! SUPPORT. CONFIGURE LINE (R66, R95, R159, R197): its checks in their order, and what storing the nine values leaves and hands over.
Settles O10. -/

namespace Sys2Proof.Machine

/-! ## The occupancy handed to the zones (R95) -/

/-- An update that keeps what is seen of a zone keeps it in every zone of the table. -/
theorem State.view_onZone {α : Type} (v : Zone → α) (s : State) (i : Nat) {f : Zone → Zone} (keeps : ∀ z, v (f z) = v z)
    (j : Nat) : v ((s.onZone i f).zone j) = v (s.zone j) := by
  show v ((entryAt (modifyAt s.zsv.zones i f) j).getD Zone.powerOn) = _
  rw [entryAt_modifyAt_eq]
  split
  · next same =>
    rw [State.zone, same]
    cases entryAt s.zsv.zones i with
    | none => rfl
    | some z => exact keeps z
  · rfl

theorem State.length_zones_foldl_onZone (f : Nat → Zone → Zone) (l : List Nat) (s : State) :
    (l.foldl (fun t i => t.onZone i (f i)) s).zsv.zones.length = s.zsv.zones.length := by
  induction l generalizing s with
  | nil => rfl
  | cons i rest ih => exact (ih _).trans (length_modifyAt ..)

/-- Each zone named is handed its value. -/
theorem State.occupied_foldl_onZone (value : Nat → Bool) (s : State) {l : List Nat} {j : Nat} (named : j ∈ l) (low : 1 ≤ j)
    (high : j ≤ s.zsv.zones.length) :
    ((l.foldl (fun t i => t.onZone i fun z => { z with occupied := value i }) s).zone j).occupied = value j := by
  induction l using List.reverseRecOn with
  | nil => simp at named
  | append_singleton rest i ih =>
    rw [List.foldl_append]
    by_cases same : j = i
    · subst same
      exact congrArg Zone.occupied (State.zone_onZone_same _ _ low ((State.length_zones_foldl_onZone _ rest s).symm ▸ high))
    · refine (congrArg Zone.occupied (State.zone_onZone_other _ _ same)).trans (ih ?_)
      simpa [same] using named

theorem Zone.tested_occupied (now duration : Nat) (z : Zone) : (z.tested now duration).occupied = z.occupied := by
  unfold Zone.tested
  split
  · split <;> rfl
  · rfl

theorem State.occupied_startTests (s : State) (i : Nat) : (s.startTests.zone i).occupied = (s.zone i).occupied := by
  rw [State.zone_startTests]
  split
  · exact Zone.tested_occupied ..
  · rfl

theorem State.occupied_handOut (s : State) (i : Nat) : (s.handOut.zone i).occupied = (s.zone i).occupied := by
  unfold State.handOut
  split
  · rfl
  · split
    · rfl
    · refine State.view_onZone Zone.occupied _ _ ?_ i
      exact fun _ => rfl

/-- After a hand-over each configured zone has the occupancy that the segments give it. -/
theorem State.occupied_handOverOccupancy (s : State) {i : Nat} (low : 1 ≤ i) (configured : i ≤ s.zoneCount)
    (high : i ≤ s.zsv.zones.length) : (s.handOverOccupancy.zone i).occupied = s.zoneOccupied i := by
  have named : i ∈ s.zoneNumbers := by
    rw [State.zoneNumbers, List.mem_range'_1]
    omega
  calc (s.handOverOccupancy.zone i).occupied
      = (s.takeOccupancy.startTests.zone i).occupied := State.occupied_handOut _ i
    _ = (s.takeOccupancy.zone i).occupied := State.occupied_startTests _ i
    _ = s.zoneOccupied i := State.occupied_foldl_onZone s.zoneOccupied s named low high

/-! ## The checks (R197) -/

theorem LineConfig.inRange_iff (c : LineConfig) : c.inRange = true ↔
    100000 ≤ c.resolution ∧ c.resolution ≤ 500000 ∧ 1000000 ≤ c.tunnel ∧ c.tunnel ≤ 12000000
      ∧ 2 ≤ c.zones ∧ c.zones ≤ 8 ∧ c.entry ≤ 10000000 ∧ c.entry + c.tunnel ≤ c.cut ∧ c.cut ≤ 40000000
      ∧ c.clearance ≤ 500 ∧ c.headOffset ≤ 3000 ∧ c.inspectOffset ≤ 10000 ∧ c.tableOffset ≤ 20000 :=
  decide_eq_true_iff

theorem Rcu.isNone_activeUnwind_eq_false_iff (r : Rcu) :
    r.activeUnwind.isNone = false ↔ r.unwindA.state = .active ∨ r.unwindB.state = .active := by
  rw [← Option.not_isSome, r.isSome_activeUnwind, Bool.not_eq_false', Bool.or_eq_true, beq_iff_eq, beq_iff_eq]

theorem State.lineBusy_iff (s : State) : s.lineBusy = true ↔
    s.line ≠ none ∧ (s.seq.mode ≠ .idle ∨ s.rcu.unwindA.state = .active ∨ s.rcu.unwindB.state = .active
      ∨ (∃ i ∈ s.zoneNumbers, (s.zone i).state ≠ .off) ∨ s.slm.mode ≠ .stopped) := by
  rw [State.lineBusy, Bool.and_eq_true, State.configured, Option.isSome_iff_ne_none, Bool.not_eq_true', Bool.and_eq_false_iff,
    Bool.and_eq_false_iff, Bool.and_eq_false_iff, Rcu.isNone_activeUnwind_eq_false_iff, State.allZonesOff_eq_false_iff]
  simp [State.seqIdle, or_assoc]

/-- A queued job fails a length check under a geometry. -/
def State.jobFails (s : State) (c : LineConfig) (j : Job) : Prop :=
  c.tunnel < 2 * finishedLength (s.pst.pattern j.patternId).steps j.grade
    ∨ 60 * finishedLength (s.pst.pattern j.patternId).steps j.grade < c.cut

theorem State.not_lengthsFit_iff (s : State) (c : LineConfig) (j : Job) :
    (!lengthsFit (finishedLength (s.pst.pattern j.patternId).steps j.grade) c.tunnel c.cut) = true ↔ s.jobFails c j := by
  rw [Bool.not_eq_true', lengthsFit, decide_eq_false_iff_not, State.jobFails]
  omega

theorem State.failingJob_eq_some {s : State} {c : LineConfig} {before after : List Job} {j : Job}
    (queue : s.seq.jobs = before ++ j :: after) (fit : ∀ k ∈ before, ¬s.jobFails c k) (fails : s.jobFails c j) :
    s.failingJob c = some j := by
  refine List.find?_eq_some_iff_append.mpr ⟨(s.not_lengthsFit_iff c j).mpr fails, before, after, queue, fun k mem => ?_⟩
  rw [Bool.not_eq_true', ← Bool.not_eq_true, s.not_lengthsFit_iff c k]
  exact fit k mem

theorem State.failingJob_eq_none {s : State} {c : LineConfig} (fit : ∀ j ∈ s.seq.jobs, ¬s.jobFails c j) :
    s.failingJob c = none :=
  List.find?_eq_none.mpr fun j mem => mt (s.not_lengthsFit_iff c j).mp (fit j mem)

/-! ## The nine values stored -/

/-- The geometry stored and the open mark grown, before the hand-over. -/
def State.lineStored (s : State) (c : LineConfig) : State := ({ s with line := some c } : State).growOpenMark

theorem State.lineStored_eq (s : State) (c : LineConfig) : s.lineStored c = { s with
    line := some c, wtr := { s.wtr with marks := (s.lineStored c).wtr.marks } } :=
  State.growOpenMark_eq _

theorem State.zonesOnly_storeLine (s : State) (c : LineConfig) : ZonesOnly (s.lineStored c) (s.storeLine c) :=
  zonesOnly_handOverOccupancy _

theorem ZonesOnly.zoneOccupied {s t : State} (h : ZonesOnly s t) (i : Nat) : t.zoneOccupied i = s.zoneOccupied i :=
  congrArg (fun u => u.zoneOccupied i) h

/-- Storing a geometry reaches the marks and the zones. -/
theorem State.storeLine_frame (s : State) (c : LineConfig) : s.storeLine c = { s with
    line := some c, wtr := { s.wtr with marks := (s.lineStored c).wtr.marks }, zsv := (s.storeLine c).zsv } := by
  have zones := s.zonesOnly_storeLine c
  unfold ZonesOnly at zones
  rw [zones, State.lineStored_eq]

theorem State.storeLine_wtr_of_shut {s : State} (c : LineConfig) (shut : ∀ m ∈ s.wtr.marks, m.isOpen = false) :
    (s.storeLine c).wtr = s.wtr := by
  have marks : (s.lineStored c).wtr.marks = s.wtr.marks := State.growOpenMark_of_shut shut
  rw [State.storeLine_frame, marks]

theorem State.occupied_storeLine (s : State) (c : LineConfig) {i : Nat} (low : 1 ≤ i) (configured : i ≤ c.zones)
    (high : i ≤ s.zsv.zones.length) : ((s.storeLine c).zone i).occupied = (s.storeLine c).zoneOccupied i := by
  have line : (s.lineStored c).zoneCount = c.zones := by rw [State.lineStored_eq]; rfl
  have zones : (s.lineStored c).zsv = s.zsv := by rw [State.lineStored_eq]
  rw [(s.zonesOnly_storeLine c).zoneOccupied]
  exact (s.lineStored c).occupied_handOverOccupancy low (configured.trans line.ge) (by rw [zones]; exact high)

/-! ## The request -/

section
variable {p : List Byte} {s : State} (length : p.length = 33)
include length

theorem handleConfigureLine_range (bad : ¬(LineConfig.ofBytes p).inRange = true) : handleConfigureLine p s = (s, [0x03#8]) := by
  simp only [handleConfigureLine, length, bad]
  rfl

variable (range : (LineConfig.ofBytes p).inRange = true)
include range

theorem handleConfigureLine_state (busy : s.lineBusy = true) : handleConfigureLine p s = (s, [0x02#8]) := by
  simp only [handleConfigureLine, length, range, busy]
  rfl

variable (free : ¬s.lineBusy = true)
include free

theorem handleConfigureLine_length {j : Job} (fails : s.failingJob (LineConfig.ofBytes p) = some j) :
    handleConfigureLine p s = (s, 0x03#8 :: beBytes 2 j.jobId) := by
  simp only [handleConfigureLine, length, range, free, fails]
  rfl

theorem handleConfigureLine_ok (fit : s.failingJob (LineConfig.ofBytes p) = none) :
    handleConfigureLine p s = ((s.storeLine (LineConfig.ofBytes p)).useFree, [0x00#8]) := by
  simp only [handleConfigureLine, length, range, free, fit]
  rfl

end

theorem exec_configureLine (tag : BitVec 16) {p : List Byte} {s t : State} (room : s.room) {reply : List Byte}
    (answers : handleConfigureLine p s.restartSilence = (t, reply)) :
    exec (.configureLine tag p) s = .next (t.pushReply 0x03#8 tag reply) := by
  refine congrArg Host.Outcome.next ?_
  rw [hostRequest_always 0x03#8 handleConfigureLine tag p room, answers]

/-- Settles O10: the checks one by one, then what storing the line leaves (`State.storeLine_frame`) and hands over
(`State.occupied_storeLine`). -/
theorem lineConfigured : Obligations.LineConfigured := by
  intro tag payload s room length c ok busy fails
  have inRange : c.inRange = true ↔ ok := c.inRange_iff
  have isBusy : s.restartSilence.lineBusy = true ↔ busy := s.restartSilence.lineBusy_iff
  refine ⟨fun bad => ?_, fun range working => ?_, fun before j after range free queue fit fail => ?_,
    fun range free fit sized => ?_⟩
  · exact exec_configureLine tag room (handleConfigureLine_range length (mt inRange.mp bad))
  · exact exec_configureLine tag room (handleConfigureLine_state length (inRange.mpr range) (isBusy.mpr working))
  · exact exec_configureLine tag room (handleConfigureLine_length length (inRange.mpr range) (mt isBusy.mp free)
      (State.failingJob_eq_some (s := s.restartSilence) queue fit fail))
  · have frame := s.restartSilence.storeLine_frame c
    have answers := exec_configureLine tag room (handleConfigureLine_ok length (inRange.mpr range) (mt isBusy.mp free)
      (State.failingJob_eq_none (s := s.restartSilence) fit))
    obtain ⟨-, -, -, -, -, few, -⟩ := range
    obtain ⟨-, -, eight, -⟩ := sized
    refine ⟨(s.restartSilence.storeLine c).useFree, answers, ?_, ?_, ?_, ?_, ?_, ?_, ?_, ?_, ?_, ?_,
      State.storeLine_wtr_of_shut (s := s.restartSilence) c, fun i low high =>
        s.restartSilence.occupied_storeLine c low high (high.trans (few.trans eight.ge))⟩
    all_goals rw [frame]; rfl

end Sys2Proof.Machine
end

section
/-! SUPPORT. Exposure, dwell credit and temperatures at a scan completion (R86, R91, R108). Settles O44. -/

namespace Sys2Proof.Machine

/-! ## Where a segment stands (R86) -/

theorem Segment.spanEmpty_eq_false_iff (g : Segment) (belt : Nat) : g.spanEmpty belt = false ↔ g.near belt < g.far belt := by
  simp [Segment.spanEmpty]

theorem Segment.partlyInside_iff (g : Segment) (belt entry tunnel : Nat) : g.partlyInside belt entry tunnel = true ↔
    g.near belt < g.far belt ∧ entry < g.far belt ∧ g.near belt < entry + tunnel := by
  simp [Segment.partlyInside, g.spanEmpty_eq_false_iff]

theorem Segment.whollyInside_iff (g : Segment) (belt entry tunnel : Nat) : g.whollyInside belt entry tunnel = true ↔
    g.near belt < g.far belt ∧ entry ≤ g.near belt ∧ g.far belt ≤ entry + tunnel := by
  simp [Segment.whollyInside, g.spanEmpty_eq_false_iff]

theorem State.overlapsZone_iff (s : State) (g : Segment) (i : Nat) : s.overlapsZone g i = true ↔
    g.near s.str.belt < g.far s.str.belt ∧ g.near s.str.belt < s.entryDistance + zoneBound s.tunnel s.zoneCount i
      ∧ s.entryDistance + zoneBound s.tunnel s.zoneCount (i - 1) < g.far s.str.belt := by
  simp [State.overlapsZone, Segment.overlaps, g.spanEmpty_eq_false_iff]

/-! ## Zones in band and segments credited (R91, R108) -/

theorem State.inBand_iff (s : State) (i : Nat) : s.inBand i = true ↔
    (s.zone i).state = .ready ∧ (s.station i).condition = .fresh
      ∧ ∃ c sp : Int, (s.zone i).corrected = some c ∧ (s.zone i).setpoint = some sp
        ∧ c - sp ≤ s.band ∧ sp - c ≤ s.band := by
  rw [State.inBand, Bool.and_eq_true, beq_iff_eq]
  refine and_congr_right fun ready => ?_
  unfold State.insideBand Zone.inside State.stationFresh
  rw [ready]
  cases (s.zone i).corrected with
  | none => simp
  | some c =>
    cases (s.zone i).setpoint with
    | none => simp
    | some sp => simp

theorem State.credited_iff (s : State) (g : Segment) : s.credited g = true ↔
    g.b1 ≠ none ∧ g.whollyInside s.str.belt s.entryDistance s.tunnel = true
      ∧ ∀ i ∈ s.zoneNumbers, s.overlapsZone g i = true → s.inBand i = true := by
  simp only [State.credited, Bool.and_eq_true, List.all_eq_true, Bool.or_eq_true, Bool.not_eq_true', Option.isSome_iff_ne_none,
    and_assoc, ← Bool.not_eq_true, ← imp_iff_not_or]

theorem State.mem_overlappedTemps (s : State) (g : Segment) (v : Int) : v ∈ s.overlappedTemps g ↔
    ∃ i, (i ∈ s.zoneNumbers ∧ s.overlapsZone g i = true) ∧ (s.zone i).corrected = some v := by
  simp [State.overlappedTemps]

/-! ## The least and the greatest temperature -/

/-- `out` is the first, in the order `le`, of `m` where it is present and the members of `l`. -/
structure FirstOf (le : Int → Int → Prop) (l : List Int) (m out : Option Int) : Prop where
  reads : ∀ v ∈ l, ∃ a, out = some a ∧ le a v
  start : ∀ v, m = some v → ∃ a, out = some a ∧ le a v
  taken : ∀ a, out = some a → m = some a ∨ a ∈ l

theorem FirstOf.cons {le : Int → Int → Prop} [IsTrans Int le] {l : List Int} {b : Int} {m mid out : Option Int}
    (first : FirstOf le [b] m mid) (rest : FirstOf le l mid out) : FirstOf le (b :: l) m out where
  reads v mem := by
    rcases List.mem_cons.mp mem with rfl | mem
    · obtain ⟨a, isMid, before⟩ := first.reads v (List.mem_singleton_self v)
      obtain ⟨c, isOut, before'⟩ := rest.start a isMid
      exact ⟨c, isOut, IsTrans.trans _ _ _ before' before⟩
    · exact rest.reads v mem
  start v isStart := by
    obtain ⟨a, isMid, before⟩ := first.start v isStart
    obtain ⟨c, isOut, before'⟩ := rest.start a isMid
    exact ⟨c, isOut, IsTrans.trans _ _ _ before' before⟩
  taken a isOut := by
    rcases rest.taken a isOut with isMid | mem
    · exact (first.taken a isMid).imp_right fun mem => List.mem_cons.mpr (.inl (List.mem_singleton.mp mem))
    · exact .inr (List.mem_cons_of_mem b mem)

theorem FirstOf.foldl {le : Int → Int → Prop} [IsTrans Int le] [Std.Refl le] {f : Option Int → Int → Option Int}
    (picks : ∀ m b, FirstOf le [b] m (f m b)) (l : List Int) (m : Option Int) : FirstOf le l m (l.foldl f m) := by
  induction l generalizing m with
  | nil => exact ⟨nofun, fun v isStart => ⟨v, isStart, refl v⟩, fun a => .inl⟩
  | cons b rest ih => exact (picks m b).cons (ih (f m b))

theorem firstOf_minOpt (m : Option Int) (b : Int) : FirstOf (· ≤ ·) [b] m (minOpt m b) := by
  cases m with
  | none => constructor <;> simp [minOpt]
  | some x =>
    constructor
    · simp [minOpt]
    · simp [minOpt]
    · rcases min_choice x b with least | least <;> simp [minOpt, least]

theorem firstOf_maxOpt (m : Option Int) (b : Int) : FirstOf (· ≥ ·) [b] m (maxOpt m b) := by
  cases m with
  | none => constructor <;> simp [maxOpt]
  | some x =>
    constructor
    · simp [maxOpt]
    · simp [maxOpt]
    · rcases max_choice x b with greatest | greatest <;> simp [maxOpt, greatest]

/-! ## What a segment accrues (R91) -/

theorem State.accrued_eq (s : State) (delta : Nat) (g : Segment) : s.accrued delta g =
    { g with
      exposure := if g.partlyInside s.str.belt s.entryDistance s.tunnel then satAdd g.exposure delta else g.exposure
      credit := if s.credited g then satAdd g.credit delta else g.credit
      minTemp := if s.credited g then (s.overlappedTemps g).foldl minOpt g.minTemp else g.minTemp
      maxTemp := if s.credited g then (s.overlappedTemps g).foldl maxOpt g.maxTemp else g.maxTemp } := by
  unfold State.accrued
  by_cases inside : g.partlyInside s.str.belt s.entryDistance s.tunnel = true <;>
    by_cases credited : s.credited g = true <;> simp [inside, credited]

/-- Settles O44: each gain by `accrued_eq`, the temperatures as the first in their order of those read. -/
theorem dwellAccrued : Obligations.DwellAccrued := by
  intro s t delta
  have spent : delta = s.accrualDelta := rfl
  refine ⟨rfl, List.length_map .., fun k g found => ⟨s.accrued s.accrualDelta g, ?_, ?_, ?_⟩⟩
  · show (s.str.segments.map (s.accrued s.accrualDelta))[k]? = _
    rw [List.getElem?_map, found, Option.map_some]
  · rw [State.accrued_eq]
  · intro lo hi bound partly overlapped inBand credited reads
    have isPartly : g.partlyInside s.str.belt s.entryDistance s.tunnel = true ↔ partly := g.partlyInside_iff _ _ _
    have isOverlapped (i : Nat) : (i ∈ s.zoneNumbers ∧ s.overlapsZone g i = true) ↔ overlapped i :=
      and_congr_right fun _ => s.overlapsZone_iff g i
    have isCredited : s.credited g = true ↔ credited := by
      rw [State.credited_iff, Segment.whollyInside_iff, and_assoc, and_assoc]
      refine and_congr_right fun _ => and_congr_right fun _ => and_congr_right fun _ => and_congr_right fun _ => ?_
      refine forall_congr' fun i => ?_
      rw [← and_imp, isOverlapped, State.inBand_iff]
    have isRead (v : Int) : v ∈ s.overlappedTemps g ↔ reads v := by
      rw [State.mem_overlappedTemps]
      exact exists_congr fun i => and_congr_left fun _ => isOverlapped i
    have least := FirstOf.foldl firstOf_minOpt (s.overlappedTemps g) g.minTemp
    have greatest := FirstOf.foldl firstOf_maxOpt (s.overlappedTemps g) g.maxTemp
    rw [State.accrued_eq, ← isPartly, ← isCredited]
    refine ⟨fun inside => if_pos inside, fun outside => if_neg outside, fun gains => ?_, fun none => ?_⟩
    · simp only [gains, if_true, ← isRead]
      refine ⟨rfl, fun v read => ?_, least.start, greatest.start, least.taken, greatest.taken⟩
      obtain ⟨a, isMin, below⟩ := least.reads v read
      obtain ⟨b, isMax, above⟩ := greatest.reads v read
      exact ⟨a, b, isMin, below, isMax, above⟩
    · exact ⟨if_neg none, if_neg none, if_neg none⟩

end Sys2Proof.Machine
end

section
/-! SUPPORT. The belt and the cutter (R84, R92 to R98, R105, R134): the occupancy handed over, the calibration that an advance
abandons, and the segment that a tail cut finishes. Settles O43. -/

namespace Sys2Proof.Machine

/-! ## The occupancy taken (R95) -/

theorem State.mem_zoneNumbers (s : State) (i : Nat) : i ∈ s.zoneNumbers ↔ 1 ≤ i ∧ i ≤ s.zoneCount := by
  rw [State.zoneNumbers, List.mem_range'_1]
  omega

/-- Each zone named once takes its own update, and the others stand. -/
theorem State.zone_foldl_onZone (f : Nat → Zone → Zone) {l : List Nat} (once : l.Nodup) {s : State}
    (tabled : ∀ i ∈ l, 1 ≤ i ∧ i ≤ s.zsv.zones.length) (j : Nat) :
    (l.foldl (fun t i => t.onZone i (f i)) s).zone j = if j ∈ l then f j (s.zone j) else s.zone j := by
  induction l generalizing s with
  | nil => rfl
  | cons i rest ih =>
    obtain ⟨fresh, once⟩ := List.nodup_cons.mp once
    obtain ⟨⟨low, high⟩, tabled⟩ := List.forall_mem_cons.mp tabled
    rw [List.foldl_cons, ih once fun k mem => (length_modifyAt s.zsv.zones i (f i)).symm ▸ tabled k mem]
    by_cases same : j = i
    · subst same
      rw [if_neg fresh, if_pos List.mem_cons_self, s.zone_onZone_same (f j) low high]
    · rw [s.zone_onZone_other (f i) same]
      simp [same]

theorem ZoneTableOnly.onZone (s : State) (i : Nat) (f : Zone → Zone) : ZoneTableOnly s (s.onZone i f) := rfl

theorem zoneTableOnly_takeOccupancy (s : State) : ZoneTableOnly s s.takeOccupancy := by
  have table (value : Nat → Bool) (l : List Nat) (t : State) :
      ZoneTableOnly t (l.foldl (fun t i => t.onZone i fun z => { z with occupied := value i }) t) := by
    induction l generalizing t with
    | nil => exact .refl t
    | cons i rest ih => exact (ZoneTableOnly.onZone t i _).trans (ih _)
  exact table s.zoneOccupied s.zoneNumbers s

theorem State.zone_takeOccupancy {s : State} (sized : s.sized) (few : s.zoneCount ≤ 8) (i : Nat) : s.takeOccupancy.zone i =
    if 1 ≤ i ∧ i ≤ s.zoneCount then { s.zone i with occupied := s.zoneOccupied i } else s.zone i := by
  obtain ⟨-, -, eight, -⟩ := sized
  have once : s.zoneNumbers.Nodup := List.nodup_range'
  have tabled (j : Nat) (mem : j ∈ s.zoneNumbers) : 1 ≤ j ∧ j ≤ s.zsv.zones.length := by
    obtain ⟨low, high⟩ := (s.mem_zoneNumbers j).mp mem
    exact ⟨low, high.trans (few.trans eight.ge)⟩
  rw [State.takeOccupancy, State.zone_foldl_onZone (fun i z => { z with occupied := s.zoneOccupied i }) once tabled,
    if_congr (s.mem_zoneNumbers i) rfl rfl]

/-! ## The calibration that the advance abandons (R134) -/

/-- Zone `i` back in the state `k` that it left to calibrate, its settle timer anew in WARMING. -/
def State.ownerReturned (s : State) (i : Nat) (k : ZoneReturn) : State :=
  let v := s.onZone i fun z => { z with state := k.state, ret := none }
  v.onZone i fun z => { z with
    settle := if k = .warming then if v.insideBand i then .running (s.clock + s.zsv.settleTime) else .stopped else z.settle }

theorem State.onZone_id (s : State) (i : Nat) : s.onZone i (fun z => z) = s := by
  have stands : modifyAt s.zsv.zones i (fun z => z) = s.zsv.zones := by
    cases i with
    | zero => rfl
    | succ n => exact List.modify_id n _
  show ({ s with zsv := { s.zsv with zones := modifyAt s.zsv.zones i fun z => z } } : State) = s
  rw [stands]

theorem State.returnZone_eq {s : State} {i : Nat} {k : ZoneReturn} (ret : (s.zone i).ret = some k) :
    s.returnZone i = s.ownerReturned i k := by
  unfold State.returnZone State.ownerReturned
  rw [ret]
  dsimp only
  split
  · rfl
  · exact (State.onZone_id _ i).symm

/-- The owner returns and is requeued at the tail; the start tests and the hand-out follow. -/
theorem State.requeueOwner_eq {s : State} {i : Nat} {k : ZoneReturn} (ret : (s.zone i).ret = some k) : s.requeueOwner i =
    ({ s.ownerReturned i k with zsv := { (s.ownerReturned i k).zsv with
      reference := none
      calQueue := if i ∈ s.zsv.calQueue then s.zsv.calQueue else s.zsv.calQueue ++ [i] } } : State).startTests.handOut := by
  have released : s.releaseReference.returnZone i = (s.ownerReturned i k).releaseReference :=
    State.returnZone_eq (s := s.releaseReference) ret
  have queue : (s.ownerReturned i k).releaseReference.zsv.calQueue = s.zsv.calQueue := rfl
  have unowned : (s.ownerReturned i k).releaseReference.ownsReference i = false := rfl
  refine congrArg State.startThenHandOut ?_
  rw [released, State.joinQueue, queue, unowned, Bool.or_false]
  by_cases queued : i ∈ s.zsv.calQueue
  · rw [if_pos (List.contains_iff_mem.mpr queued), if_pos queued]
    rfl
  · rw [if_neg (mt List.contains_iff_mem.mp queued), if_neg queued]
    rfl

theorem State.handOverAdvance_of_free {s : State} (free : s.zsv.reference = none) :
    s.handOverAdvance = s.takeOccupancy.startTests.handOut := by
  have reference : s.takeOccupancy.zsv.reference = none := by rw [(zoneTableOnly_takeOccupancy s).zsv, free]
  unfold State.handOverAdvance
  dsimp only
  rw [reference]
  rfl

theorem State.handOverAdvance_of_owner {s : State} {r : RefOwner} (owner : s.zsv.reference = some r) : s.handOverAdvance =
    if (s.takeOccupancy.zone r.zone).occupied then s.takeOccupancy.requeueOwner r.zone
    else s.takeOccupancy.startTests.handOut := by
  have reference : s.takeOccupancy.zsv.reference = some r := by rw [(zoneTableOnly_takeOccupancy s).zsv, owner]
  unfold State.handOverAdvance
  dsimp only
  rw [reference]
  rfl

/-! ## The occupancy through an advance (R95, R105) -/

theorem State.occupied_returnZone (s : State) (i j : Nat) : ((s.returnZone i).zone j).occupied = (s.zone j).occupied := by
  unfold State.returnZone
  split
  · rfl
  · next k _ =>
    have returned : ((s.onZone i fun z => { z with state := k.state, ret := none }).zone j).occupied = (s.zone j).occupied :=
      State.view_onZone Zone.occupied s i (fun _ => by rfl) j
    dsimp only
    split
    · exact (State.view_onZone Zone.occupied _ i (fun _ => by rfl) j).trans returned
    · exact returned

theorem State.zone_joinQueue (s : State) (i j : Nat) : (s.joinQueue i).zone j = s.zone j := by
  unfold State.joinQueue
  split <;> rfl

theorem State.occupied_startThenHandOut (s : State) (i : Nat) : (s.startThenHandOut.zone i).occupied = (s.zone i).occupied :=
  (State.occupied_handOut _ i).trans (State.occupied_startTests s i)

theorem State.occupied_requeueOwner (s : State) (i j : Nat) : ((s.requeueOwner i).zone j).occupied = (s.zone j).occupied :=
  calc ((s.requeueOwner i).zone j).occupied
      = (((s.releaseReference.returnZone i).joinQueue i).zone j).occupied := State.occupied_startThenHandOut _ j
    _ = ((s.releaseReference.returnZone i).zone j).occupied := by rw [State.zone_joinQueue]
    _ = (s.zone j).occupied := State.occupied_returnZone _ i j

theorem State.occupied_handOverAdvance (s : State) (i : Nat) :
    (s.handOverAdvance.zone i).occupied = (s.takeOccupancy.zone i).occupied := by
  cases owner : s.zsv.reference with
  | none =>
    rw [State.handOverAdvance_of_free owner]
    exact State.occupied_startThenHandOut _ i
  | some r =>
    rw [State.handOverAdvance_of_owner owner]
    split
    · exact State.occupied_requeueOwner _ _ i
    · exact State.occupied_startThenHandOut _ i

theorem Zone.retarget_occupied (p : Profile) (sp : Int) (z : Zone) : (z.retarget p sp).occupied = z.occupied := by
  unfold Zone.retarget
  dsimp only
  rw [apply_ite Zone.occupied]
  exact ite_self _

theorem Zone.switched_occupied (p : Profile) (z : Zone) : (z.switched p).occupied = z.occupied := by
  unfold Zone.switched
  split
  -- OFF and FAULT; READY; WARMING; STANDBY; PURGING and CALIBRATING by their return state
  case h_1 | h_2 => rfl
  case h_3 | h_4 | h_5 => exact Zone.retarget_occupied ..
  case h_6 | h_7 =>
    split
    · exact Zone.retarget_occupied ..
    · exact Zone.retarget_occupied ..
    · rfl

theorem State.occupied_switchZone (p : Profile) (s : State) (i j : Nat) :
    ((State.switchZone p s i).zone j).occupied = (s.zone j).occupied := by
  have switched := State.view_onZone Zone.occupied s i (Zone.switched_occupied p) j
  unfold State.switchZone State.restartIfWarming
  split
  · exact (State.view_onZone Zone.occupied _ i (fun _ => by rfl) j).trans switched
  · exact switched

theorem State.occupied_switchTest (s : State) (i : Nat) : (s.switchTest.zone i).occupied = (s.zone i).occupied := by
  have zones (p : Profile) (l : List Nat) (u : State) :
      ((l.foldl (State.switchZone p) u).zone i).occupied = (u.zone i).occupied := by
    induction l generalizing u with
    | nil => rfl
    | cons j rest ih => exact (ih _).trans (State.occupied_switchZone p u j i)
  rw [State.switchTest_eq]
  split
  · split
    · exact zones ..
    · rfl
  · rfl

theorem State.occupied_takeOccupancy {s : State} (sized : s.sized) (few : s.zoneCount ≤ 8) {i : Nat}
    (configured : i ∈ s.zoneNumbers) : (s.takeOccupancy.zone i).occupied = s.zoneOccupied i := by
  rw [State.zone_takeOccupancy sized few, if_pos ((s.mem_zoneNumbers i).mp configured)]

/-- The segments with the flags they take from the zones. -/
def State.zonesFlagged (s : State) : State := s.onStr fun t => { t with segments := t.segments.map s.zoneFlagged }

/-- After a belt advance each configured zone has the occupancy that the segments give it. -/
theorem State.occupied_beltConsequences {s : State} (sized : s.sized) (few : s.zoneCount ≤ 8) {i : Nat}
    (configured : i ∈ s.zoneNumbers) : (s.beltConsequences.zone i).occupied = s.beltConsequences.zoneOccupied i := by
  have checked : s.beltConsequences.zsv = s.zonesFlagged.handOverAdvance.switchTest.zsv := by
    show s.zonesFlagged.handOverAdvance.switchTest.cutCheck.zsv = _
    rw [State.cutCheck_eq]
  have occupancy : s.beltConsequences.zoneOccupied i = s.zonesFlagged.zoneOccupied i := by
    rw [s.beltConsequences_taken]
    rfl
  calc (s.beltConsequences.zone i).occupied
      = (s.zonesFlagged.handOverAdvance.switchTest.zone i).occupied := by rw [State.zone, checked]; rfl
    _ = (s.zonesFlagged.handOverAdvance.zone i).occupied := State.occupied_switchTest _ i
    _ = (s.zonesFlagged.takeOccupancy.zone i).occupied := State.occupied_handOverAdvance _ i
    _ = s.zonesFlagged.zoneOccupied i := State.occupied_takeOccupancy (s := s.zonesFlagged) sized few configured
    _ = s.beltConsequences.zoneOccupied i := occupancy.symm

/-! ## The hand-over seen from another state -/

theorem State.startTest_zonesOnto (s u : State) (i : Nat) : (s.zonesOnto u).startTest i = (s.startTest i).zonesOnto u := by
  have same : (s.zonesOnto u).zone i = s.zone i := rfl
  unfold State.startTest
  rw [same]
  dsimp only
  split
  · split <;> rfl
  · rfl

theorem State.startTests_zonesOnto (s u : State) : (s.zonesOnto u).startTests = s.startTests.zonesOnto u :=
  List.foldl_hom (init := s) (l := s.zoneNumbers) (State.zonesOnto · u) (g₂ := State.startTest) fun t i =>
    State.startTest_zonesOnto t u i

theorem State.handOut_zonesOnto (s u : State) : (s.zonesOnto u).handOut = s.handOut.zonesOnto u := by
  have zones : (s.zonesOnto u).zsv = s.zsv := rfl
  have eligible : (s.zonesOnto u).eligible = s.eligible := rfl
  unfold State.handOut
  rw [zones, eligible]
  split
  · rfl
  · split <;> rfl

section
variable {s u : State} (belt : u.str.belt = s.str.belt) (segments : u.str.segments = s.str.segments)
include belt segments

theorem State.takeOccupancy_zonesOnto : (s.zonesOnto u).takeOccupancy = s.takeOccupancy.zonesOnto u := by
  have occupancy : (s.zonesOnto u).zoneOccupied = s.zoneOccupied := by
    funext i
    show u.str.segments.any _ = _
    simp only [segments, State.overlapsZone, State.zonesOnto, belt]
    rfl
  show List.foldl _ (s.zonesOnto u) s.zoneNumbers = _
  rw [occupancy]
  exact List.foldl_hom (init := s) (l := s.zoneNumbers) (State.zonesOnto · u)
    (g₂ := fun t i => t.onZone i fun z => { z with occupied := s.zoneOccupied i }) fun _ _ => rfl

theorem State.handOverOccupancy_zonesOnto : (s.zonesOnto u).handOverOccupancy = s.handOverOccupancy.zonesOnto u := by
  unfold State.handOverOccupancy State.startThenHandOut
  rw [State.takeOccupancy_zonesOnto belt segments, State.startTests_zonesOnto, State.handOut_zonesOnto]

/-- The hand-over and the zone profile's test follow B and the segments, of STR, the queue, of SEQ, and nothing of EVU. -/
theorem State.zsv_handOver_switchTest_zonesOnto (jobs : u.seq.jobs = s.seq.jobs) :
    (s.zonesOnto u).handOverOccupancy.switchTest.zsv = s.handOverOccupancy.switchTest.zsv := by
  have handed := zonesOnly_handOverOccupancy s
  have line : s.handOverOccupancy.str = s.str ∧ s.handOverOccupancy.seq = s.seq := by
    unfold ZonesOnly at handed
    rw [handed]
    exact ⟨rfl, rfl⟩
  obtain ⟨str, seq⟩ := line
  rw [State.handOverOccupancy_zonesOnto belt segments]
  refine State.zsv_switchTest_congr ?_ ?_ ?_
  · show (_, _, _, _, _, u.str.belt) = (_, _, _, _, _, s.handOverOccupancy.str.belt)
    rw [str, belt]
    rfl
  · show u.seq.jobs = s.handOverOccupancy.seq.jobs
    rw [seq, jobs]
  · show u.str.segments = s.handOverOccupancy.str.segments
    rw [str, segments]

end

/-! ## The report of a finished segment (R97, R98, R177, R180) -/

theorem State.writeReport_frame (s : State) (r : Report) : s.writeReport r = { s with evu := (s.writeReport r).evu } := by
  unfold State.writeReport
  dsimp only
  split <;> rfl

theorem State.writeReport_evu_of_free {s : State} (r : Report) (free : s.evu.filled < 8) :
    (s.writeReport r).evu = (s.evu.write r).raise .panelReport := by
  rw [State.writeReport, if_pos free]
  rfl

theorem State.writeReport_evu_of_full {s : State} (r : Report) (full : 8 ≤ s.evu.filled) :
    (s.writeReport r).evu = ((s.evu.write r).raise .reportOverrun).raise .panelReport := by
  rw [State.writeReport, if_neg full.not_gt]
  rfl

/-- The report takes the next sequence and the write position, whether a slot was free or not. -/
theorem State.writeReport_ring (s : State) (r : Report) :
    (s.writeReport r).evu.slots = s.evu.slots.set s.evu.writePos (some { r with sequence := s.evu.nextSeq })
    ∧ (s.writeReport r).evu.writePos = (s.evu.writePos + 1) % 8
    ∧ (s.writeReport r).evu.nextSeq = (s.evu.nextSeq + 1) % 65536 := by
  rcases Nat.lt_or_ge s.evu.filled 8 with free | full
  · rw [State.writeReport_evu_of_free r free]
    exact ⟨rfl, rfl, rfl⟩
  · rw [State.writeReport_evu_of_full r full]
    exact ⟨rfl, rfl, rfl⟩

theorem State.writeReport_free {s : State} (r : Report) (free : s.evu.filled < 8) :
    (s.writeReport r).evu.filled = s.evu.filled + 1 ∧ (s.writeReport r).evu.overrun = s.evu.overrun
    ∧ (s.writeReport r).evu.pendingSet = s.evu.pendingSet ||| 1#16 := by
  rw [State.writeReport_evu_of_free r free]
  exact ⟨if_pos free, if_pos free, rfl⟩

theorem State.writeReport_full {s : State} (r : Report) (full : 8 ≤ s.evu.filled) :
    (s.writeReport r).evu.filled = s.evu.filled
    ∧ (s.writeReport r).evu.overrun = (if s.evu.overrun < 255 then s.evu.overrun + 1 else s.evu.overrun)
    ∧ (s.writeReport r).evu.pendingSet = s.evu.pendingSet ||| 3#16 := by
  rw [State.writeReport_evu_of_full r full]
  exact ⟨if_neg full.not_gt, if_neg full.not_gt, BitVec.or_assoc ..⟩

theorem PanelFlags.verdict_eq (f : PanelFlags) : f.verdict =
    if f.aborted ∨ f.foldMiss ∨ f.splice ∨ f.defect ∨ f.setShort ∨ f.setOver ∨ f.purged ∨ f.zoneFault
      then .reject else .good := by
  simp only [PanelFlags.verdict, PanelFlags.spoiled, Bool.or_eq_true, or_assoc]

/-! ## The cuts (R96, R97) -/

/-- A cutter that is IDLE, or a queue with no segment, has nothing to cut. -/
theorem State.cutDone_of_idle {s : State} (idle : s.str.cutter = .idle ∨ s.str.segments = []) : s.cutDone = none := by
  unfold State.cutDone
  rcases idle with cutter | segments
  · rw [cutter]
  · rw [segments]
    split
    · next none => cases none
    · next none => cases none
    · rfl

section
variable {s : State} {o : Nat} {g : Segment} {rest : List Segment} (segments : s.str.segments = g :: rest)
include segments

theorem State.cutDone_lead (cutter : s.str.cutter = .cutting .lead o) : s.cutDone = some { s with str := { s.str with
    segments := { g with leadNeeded := false } :: rest
    cutter := s.cutChecked s.str.belt ({ g with leadNeeded := false } :: rest) } } := by
  unfold State.cutDone
  rw [cutter, segments]
  dsimp only
  rw [State.cutCheck_eq]
  rfl

theorem State.finishSegment_eq : s.finishSegment g = { s with
    evu := (s.writeReport (g.settled (s.pst.profile g.profileId)).report).evu
    str := { s.str with segments := rest, reports := s.str.reports + 1, cutter := .idle } } := by
  unfold State.finishSegment
  rw [State.writeReport_frame]
  unfold State.onStr
  dsimp only
  rw [segments, List.tail_cons]

/-- A tail cut: the report written, the segment gone, the zones handed their occupancy and tested, and the cut check made. -/
theorem State.cutDone_tail (cutter : s.str.cutter = .cutting .tail o) : s.cutDone = some { s with
    zsv := ({ s with str := { s.str with segments := rest } } : State).handOverOccupancy.switchTest.zsv
    evu := (s.writeReport (g.settled (s.pst.profile g.profileId)).report).evu
    str := { s.str with segments := rest, reports := s.str.reports + 1, cutter := s.cutChecked s.str.belt rest } } := by
  let left : State := { s with str := { s.str with segments := rest } }
  let done : State := { s with
    evu := (s.writeReport (g.settled (s.pst.profile g.profileId)).report).evu
    str := { s.str with segments := rest, reports := s.str.reports + 1, cutter := .idle } }
  have finished : s.finishSegment g = done := State.finishSegment_eq segments
  have zones : done.handOverOccupancy.switchTest = { done with zsv := done.handOverOccupancy.switchTest.zsv } :=
    (zonesOnly_handOverOccupancy done).trans (zonesOnly_switchTest _)
  have zsv : done.handOverOccupancy.switchTest.zsv = left.handOverOccupancy.switchTest.zsv :=
    State.zsv_handOver_switchTest_zonesOnto (s := left) (u := done) rfl rfl rfl
  unfold State.cutDone
  rw [cutter, segments]
  dsimp only
  rw [finished, zones, zsv, State.cutCheck_eq]
  rfl

end

/-! ## BELT_DONE -/

theorem State.beltDone_of_still {s : State} (still : s.str.moving = false ∨ s.str.pendingIdx = []) : s.beltDone = none := by
  refine if_neg fun driven => ?_
  obtain ⟨moving, pending⟩ := Bool.and_eq_true_iff.mp driven
  rcases still with stopped | none
  · rw [stopped] at moving
    cases moving
  · rw [none] at pending
    cases pending

theorem State.beltDone_of_moving {s : State} {d : Nat} {rest : List Nat} (moving : s.str.moving = true)
    (queue : s.str.pendingIdx = d :: rest) : s.beltDone =
      some ({ s with str := { s.str with
        belt := s.str.belt + d, pendingIdx := rest, moving := !rest.isEmpty } } : State).beltConsequences := by
  have done : s.str.indexDone = { s.str with belt := s.str.belt + d, pendingIdx := rest, moving := !rest.isEmpty } := by
    unfold Str.indexDone
    rw [queue]
  have driven : (s.str.moving && !s.str.pendingIdx.isEmpty) = true := by
    rw [moving, queue]
    rfl
  rw [State.beltDone, if_pos driven, State.onStr, done]

/-- An event that leaves SEQ as it was ends with what SEQ then does: nothing in a state that stands. -/
theorem State.thenSettle_of_some {s t : State} {o : Option State} (occurs : o = some t) (seq : t.seq = s.seq) :
    s.thenSettle o = t.settle ∧ (s.seq.mode.stands = true → s.thenSettle o = t) := by
  subst occurs
  exact ⟨rfl, fun stands => State.settle_of_stands (seq ▸ stands)⟩

/-- Settles O43: each event by the equation of what it does, then `settle`; the abandoned calibration by `requeueOwner_eq`. -/
theorem beltAndCutter : Obligations.BeltAndCutter := by
  intro s
  have next {t u : State} (same : t = u) : (Host.Outcome.next t : Host.Outcome State Fault Refusal) = .next u := congrArg _ same
  refine ⟨fun still => next (congrArg s.thenSettle (State.beltDone_of_still still)), ?advance,
    fun idle => next (congrArg s.thenSettle (State.cutDone_of_idle idle)),
    fun o g rest segments => ⟨?lead, ?tail, ?handOver⟩⟩
  case advance =>
    intro d rest moving queue u
    have seq : u.beltConsequences.seq = s.seq := by rw [beltOnly_beltConsequences u]
    obtain ⟨settles, stands⟩ := State.thenSettle_of_some (s := s) (State.beltDone_of_moving moving queue) seq
    exact ⟨u.beltConsequences, next settles, fun still => next (stands still), u.beltConsequences_taken,
      fun sized few i configured => State.occupied_beltConsequences (s := u) sized few configured⟩
  case lead =>
    intro cutter
    obtain ⟨settles, stands⟩ := State.thenSettle_of_some (s := s) (State.cutDone_lead segments cutter) rfl
    exact ⟨_, next settles, fun still => next (stands still), rfl⟩
  case tail =>
    intro cutter q profile f report
    obtain ⟨settles, stands⟩ := State.thenSettle_of_some (s := s) (State.cutDone_tail segments cutter) rfl
    have written : { (g.settled (s.pst.profile g.profileId)).report with sequence := s.evu.nextSeq } = report := by
      rw [profile]
      exact congrArg (fun v => ({ report with verdict := v } : Report)) f.verdict_eq
    obtain ⟨slots, writePos, nextSeq⟩ := s.writeReport_ring (g.settled (s.pst.profile g.profileId)).report
    rw [written] at slots
    exact ⟨_, next settles, fun still => next (stands still), rfl, slots, writePos, nextSeq,
      State.writeReport_free _, State.writeReport_full _⟩
  case handOver =>
    intro o
    have frame := zoneTableOnly_takeOccupancy s
    refine ⟨frame, State.zone_takeOccupancy, rfl, State.handOverAdvance_of_free, fun r owner => ⟨fun free => ?_, ?_⟩⟩
    · rw [State.handOverAdvance_of_owner owner, if_neg (Bool.eq_false_iff.mp free)]
    · intro occupied k ret v back
      have queue : s.takeOccupancy.zsv.calQueue = s.zsv.calQueue := by rw [frame.zsv]
      have settleTime : s.takeOccupancy.zsv.settleTime = s.zsv.settleTime := by rw [frame.zsv]
      rw [State.handOverAdvance_of_owner owner, if_pos occupied, State.requeueOwner_eq ret, State.ownerReturned, frame.clock,
        settleTime, queue]

end Sys2Proof.Machine
end

section
/-! SUPPORT. What an event of the station link does to EVU (R184): it raises classes and nothing else, through what the owners are
told and handed and through what SEQ then does. -/

namespace Sys2Proof.Machine

/-- From `s` to `t` EVU has had classes raised, and nothing else of it has changed. -/
def RaisesOnly (s t : State) : Prop := ∃ classes : List EventClass, t.evu = classes.foldl (fun e c => e.raise c) s.evu

theorem RaisesOnly.of_evu {s t : State} (same : t.evu = s.evu) : RaisesOnly s t := ⟨[], same⟩

theorem RaisesOnly.refl (s : State) : RaisesOnly s s := .of_evu rfl

theorem RaisesOnly.onStr (s : State) (f : Str → Str) : RaisesOnly s (s.onStr f) := .of_evu rfl

theorem RaisesOnly.onRcu (s : State) (f : Rcu → Rcu) : RaisesOnly s (s.onRcu f) := .of_evu rfl

theorem RaisesOnly.raise (s : State) (c : EventClass) : RaisesOnly s (s.raise c) := ⟨[c], rfl⟩

theorem RaisesOnly.trans {s t u : State} (h : RaisesOnly s t) (k : RaisesOnly t u) : RaisesOnly s u := by
  obtain ⟨first, h⟩ := h
  obtain ⟨second, k⟩ := k
  exact ⟨first ++ second, by rw [k, h, List.foldl_append]⟩

theorem RaisesOnly.ite {s t u : State} {c : Prop} [Decidable c] (h : RaisesOnly s t) (k : RaisesOnly s u) :
    RaisesOnly s (if c then t else u) := by
  split <;> assumption

/-- A class that is pending stays pending. -/
theorem RaisesOnly.pending {s t : State} (h : RaisesOnly s t) {i : Nat} (set : s.evu.pendingSet.getLsbD i = true) :
    t.evu.pendingSet.getLsbD i = true := by
  obtain ⟨classes, evu⟩ := h
  rw [evu]
  exact List.foldlRecOn classes (motive := fun e : Evu => e.pendingSet.getLsbD i = true) _ set fun e is c _ =>
    Evu.raise_getLsbD_of_set c is

theorem ZonesOnly.raises {s t : State} (h : ZonesOnly s t) : RaisesOnly s t := .of_evu (by unfold ZonesOnly at h; rw [h])

theorem WebOnly.raises {s t : State} (h : WebOnly s t) : RaisesOnly s t := .of_evu (by unfold WebOnly at h; rw [h])

/-! ## The zones -/

theorem raises_faultZone (s : State) (i : Nat) (c : ZoneCause) : RaisesOnly s (s.faultZone i c) :=
  .ite ((((ZonesOnly.onZone s i _).raises.trans (.onStr ..)).trans (.raise ..)).trans (zonesOnly_dropCalibration _ i).raises)
    (.refl s)

theorem raises_completeCalibration (s : State) (i : Nat) (raw reference : Int) :
    RaisesOnly s (s.completeCalibration i raw reference) :=
  ((((ZonesOnly.onZone s i _).trans (zonesOnly_releaseReference _)).trans (zonesOnly_returnZone _ i)).raises.trans
    (.raise ..)).trans (zonesOnly_startThenHandOut _).raises

theorem raises_freshReading (s : State) (i : Nat) (raw : Int) : RaisesOnly s (s.freshReading i raw) := by
  have read := ZonesOnly.onZone s i fun z => { z with lastRaw := some raw, corrected := some (satTemp (raw + z.offset)) }
  exact .ite (read.raises.trans (raises_faultZone ..))
    (((read.trans (.onZone ..)).trans (zonesOnly_settleTest _ i)).trans (zonesOnly_calibrationEntry _ i)).raises

theorem raises_zoneNotice (s : State) (i : Nat) (c : Condition) : RaisesOnly s (s.zoneNotice i c) := by
  have gone := (ZonesOnly.onZone s i fun z =>
    { z with corrected := none, settle := if z.state = .warming then .stopped else z.settle }).raises
  cases c with
  | fresh => exact .refl s
  | lost => exact gone.trans (raises_faultZone ..)
  | stale | missing => exact gone

theorem raises_zoneCode (s : State) (i code : Nat) : RaisesOnly s (s.zoneCode i code) :=
  .ite (raises_faultZone ..) (.ite (raises_faultZone ..) (.refl s))

theorem raises_zoneReadings (s : State) (i : Nat) (fresh : Bool) (status : Byte) (raw reference : Int) :
    RaisesOnly s (s.zoneReadings i fresh status raw reference) := by
  have read : RaisesOnly s (if fresh then s.freshReading i raw else s) := .ite (raises_freshReading ..) (.refl s)
  exact .ite (read.trans (raises_completeCalibration ..)) read

theorem raises_zoneResponse (s : State) (i : Nat) (fresh : Bool) (code : Nat) (status : Byte) (raw reference : Int) :
    RaisesOnly s (s.zoneResponse i fresh code status raw reference) :=
  .ite (raises_zoneReadings ..) (.ite (raises_zoneCode ..) (.ite ((raises_zoneCode ..).trans (raises_zoneReadings ..))
    ((raises_zoneReadings ..).trans (raises_zoneCode ..))))

/-! ## SEQ -/

theorem raises_enterHolding (s : State) (p : ReturnPoint) : RaisesOnly s (s.enterHolding p) := .raise ..

theorem raises_enterFault (s : State) (r : SeqFaultReason) : RaisesOnly s (s.enterFault r) := .ite (.refl s) (.raise ..)

theorem raises_toArmed (s : State) : RaisesOnly s s.toArmed :=
  .ite (.of_evu rfl) (.ite (raises_enterHolding ..) (.of_evu rfl))

theorem raises_headLeaves (s : State) : RaisesOnly s s.headLeaves := by
  rw [State.headLeaves_eq]
  exact .raise s .jobDone

theorem raises_endPanel (s : State) (reachedEnd : Bool) : RaisesOnly s (s.endPanel reachedEnd) := by
  rw [State.endPanel_eq]
  exact .ite (.raise s .jobDone) (.of_evu rfl)

theorem raises_endStay (s : State) : RaisesOnly s s.endStay := .ite (raises_headLeaves _) (.of_evu rfl)

theorem raises_endWork (s : State) : RaisesOnly s s.endWork := .ite (raises_endPanel ..) (.ite (raises_endStay s) (.refl s))

theorem raises_takeWalk (s : State) (w : WalkStop) : RaisesOnly s (s.takeWalk w) := by
  cases w with
  | forming i r cs => exact .ite (raises_enterHolding ..) (.of_evu (State.beginFeed_evu ..))
  | ended i => exact (raises_endPanel s true).trans (raises_toArmed _)
  | lost => exact (raises_endPanel s false).trans (raises_toArmed _)

theorem raises_walkOn (s : State) : RaisesOnly s s.walkOn := by
  unfold State.walkOn
  split
  · exact .refl s
  · exact raises_takeWalk ..

theorem State.beginStroke_evu (s : State) (r : StepRecord) (st : StepRun) : (s.beginStroke r st).evu = s.evu := by
  unfold State.beginStroke
  dsimp only
  split <;> rfl

theorem raises_endRunWait (s : State) : RaisesOnly s s.endRunWait := by
  unfold State.endRunWait
  split
  · have spaced (d : Nat) : RaisesOnly s ((s.onSeq fun q => { q with lastStrokeStart := some s.clock }).indexBelt d) :=
      .of_evu rfl
    exact .ite (.of_evu (State.beginStroke_evu ..)) ((spaced _).trans (raises_walkOn _))
  · exact .refl s

theorem raises_openPanelNow (s : State) : RaisesOnly s s.openPanelNow := by
  unfold State.openPanelNow
  split
  · exact .refl s
  · exact (RaisesOnly.of_evu rfl).trans (raises_takeWalk ..)

theorem raises_startPanel (s : State) : RaisesOnly s s.startPanel := by
  unfold State.startPanel
  split
  · exact .of_evu rfl
  · exact raises_openPanelNow s

theorem raises_beginChunk (s : State) (target : Int) : RaisesOnly s (s.beginChunk target) := by
  rw [State.beginChunk_eq]
  exact .of_evu rfl

theorem raises_repeatCheck (s : State) : RaisesOnly s s.repeatCheck := by
  refine .ite ((raises_endStay s).trans (raises_toArmed _)) ?_
  split
  · exact raises_beginChunk ..
  · exact raises_openPanelNow s

theorem raises_endWasteWait (s : State) : RaisesOnly s s.endWasteWait := by
  unfold State.endWasteWait
  split
  · exact .ite ((RaisesOnly.of_evu rfl).trans (raises_repeatCheck _)) ((RaisesOnly.of_evu rfl).trans (raises_beginChunk ..))
  · exact .refl s

theorem raises_takeHold (s : State) : RaisesOnly s s.takeHold := by
  refine .ite ?_ (.refl s)
  split
  case h_1 | h_2 | h_3 => exact raises_enterHolding ..
  case h_4 => exact .refl s

theorem raises_leaveHold (s : State) : RaisesOnly s s.leaveHold := by
  refine .ite (.refl s) ?_
  split
  case h_1 => exact raises_toArmed s
  case h_2 | h_3 | h_5 => exact .of_evu rfl
  case h_4 =>
    split
    · exact .of_evu (State.beginFeed_evu ..)
    · exact .refl s

theorem raises_waitStep (s : State) : RaisesOnly s s.waitStep := by
  refine .ite ?_ (.refl s)
  split
  · exact raises_endWasteWait s
  · exact raises_endRunWait s
  · exact .refl s

theorem raises_settle (s : State) : RaisesOnly s s.settle :=
  (((raises_takeHold s).trans (raises_leaveHold _)).trans (raises_waitStep _)).trans (.ite (raises_startPanel _) (.refl _))

/-! ## The rolls -/

theorem raises_webEnd (s : State) : RaisesOnly s s.webEnd := by
  unfold State.webEnd
  split
  -- IDLE; a motion in progress; every other state
  case h_1 | h_2 | h_3 | h_4 => exact .of_evu rfl
  case h_5 => exact (raises_endWork s).trans (raises_enterFault ..)

theorem raises_failChange (s : State) (cause : ChangeCause) : RaisesOnly s (s.failChange cause) := .raise ..

theorem raises_breakChange (s : State) (cause : ChangeCause) : RaisesOnly s (s.breakChange cause) := by
  rw [State.breakChange_eq, State.changeBroken]
  split
  · exact .refl s
  · exact .raise s .changeAbort

theorem raises_rollEnd (s : State) (u : UnwindId) : RaisesOnly s (s.rollEnd u) := by
  refine .ite ?_ (.refl s)
  unfold State.activeRollEnd
  split
  · exact raises_webEnd s
  · exact .ite (.ite ((RaisesOnly.raise (s.endChange .failed (some .rollEnd)) .changeAbort).trans (raises_webEnd _)) (.refl s))
      (.ite ((raises_failChange ..).trans (raises_webEnd _)) (.refl s))

theorem raises_standbyRemoved (s : State) (u : UnwindId) : RaisesOnly s (s.standbyRemoved u) := by
  unfold State.standbyRemoved
  split
  · exact .ite (raises_breakChange ..) (.refl s)
  · exact .refl s

theorem raises_rollRemoved (s : State) (u : UnwindId) : RaisesOnly s (s.rollRemoved u) := by
  unfold State.rollRemoved
  split
  -- EMPTY; LOADED or SPENT; READY; ACTIVE
  case h_1 | h_2 | h_3 => exact .of_evu rfl
  case h_4 => exact (raises_standbyRemoved ..).trans (.of_evu rfl)
  case h_5 => exact raises_rollEnd ..

theorem raises_unwindCode (s : State) (u : UnwindId) (code : Nat) : RaisesOnly s (s.unwindCode u code) :=
  .ite (.ite (.of_evu rfl) (.refl s)) (.ite (raises_rollRemoved ..) (.ite (raises_rollEnd ..) (.refl s)))

theorem raises_unwindNotice (s : State) (u : UnwindId) (c : Condition) : RaisesOnly s (s.unwindNotice u c) := by
  cases c with
  | fresh | stale | missing => exact .of_evu rfl
  | lost => exact (RaisesOnly.of_evu rfl).trans (raises_breakChange ..)

theorem raises_unwindStatus (s : State) (u : UnwindId) (rs : RunState) : RaisesOnly s (s.unwindStatus u rs) := by
  unfold State.unwindStatus
  dsimp only
  split
  · exact .of_evu rfl
  · exact .ite (.of_evu rfl) (.ite (.raise ..) (.of_evu rfl))

theorem raises_tryAuto (s : State) (u : UnwindId) : RaisesOnly s (s.tryAuto u) := by
  unfold State.tryAuto
  split
  · have started : (s.startChange true).evu = s.evu := by
      unfold State.startChange
      split <;> rfl
    exact .of_evu started
  · exact .ite (.refl s) (.raise ..)

theorem raises_unwindReading (s : State) (u : UnwindId) (remaining : Nat) : RaisesOnly s (s.unwindReading u remaining) :=
  .ite (.ite ((RaisesOnly.of_evu rfl).trans (raises_tryAuto ..)) (.of_evu rfl)) (.refl s)

theorem raises_unwindResponse (s : State) (u : UnwindId) (fresh : Bool) (rs : RunState) (newCode : Option Nat)
    (remaining : Nat) : RaisesOnly s (s.unwindResponse u fresh rs newCode remaining) := by
  have read (t : State) : RaisesOnly t (if fresh then t.unwindReading u remaining else t) :=
    .ite (raises_unwindReading ..) (.refl t)
  cases newCode with
  | none => exact (raises_unwindStatus s u rs).trans (read _)
  | some code => exact ((raises_unwindStatus s u rs).trans (raises_unwindCode ..)).trans (read _)

theorem raises_tableStatus (s : State) (st : TableStatus) : RaisesOnly s (s.tableStatus st) := by
  unfold State.tableStatus
  split
  · exact .refl s
  · split
    · exact (webOnly_makeSplice ..).raises.trans (.of_evu rfl)
    · exact .of_evu rfl
    · exact .refl s

theorem raises_tableResponse (s : State) (st : TableStatus) (code : Nat) : RaisesOnly s (s.tableResponse st code) :=
  .ite ((raises_tableStatus ..).trans (raises_breakChange ..)) (raises_tableStatus ..)

theorem raises_accumulatorNotice (s : State) (c : Condition) : RaisesOnly s (s.accumulatorNotice c) :=
  .ite ((RaisesOnly.of_evu rfl).trans (raises_breakChange ..)) (.of_evu rfl)

theorem raises_accumulatorReading (s : State) (stock tension : Nat) : RaisesOnly s (s.accumulatorReading stock tension) := by
  have tensioned (t : State) : RaisesOnly t (t.deliverTension tension) := by
    unfold State.deliverTension
    split <;> exact .of_evu rfl
  have filled (t : State) : RaisesOnly t (t.fillingTest stock) := by
    unfold State.fillingTest
    split
    · exact .ite (.of_evu rfl) (.refl t)
    · exact .refl t
  exact (((RaisesOnly.onRcu s _).trans (tensioned _)).trans (.onRcu ..)).trans (filled _)

/-! ## The deliveries of SLM -/

theorem raises_notifyOwner (s : State) (n : Nat) (c : Condition) : RaisesOnly s (s.notifyOwner n c) := by
  unfold State.notifyOwner
  split
  · exact .ite (raises_zoneNotice ..) (.refl s)
  · exact raises_unwindNotice ..
  · exact .ite (raises_breakChange ..) (.refl s)
  · exact raises_accumulatorNotice ..
  · exact .refl s

theorem raises_deliver (s : State) (n : Nat) (r : Response) (newCode : Option Nat) :
    RaisesOnly s (s.deliver n r newCode) := by
  unfold State.deliver
  dsimp only
  split
  · exact .ite (raises_zoneResponse ..) (.refl s)
  · exact raises_unwindResponse ..
  · exact raises_tableResponse ..
  · exact .ite (raises_accumulatorReading ..) (.refl s)
  · exact .refl s

end Sys2Proof.Machine
end

section
/-! SUPPORT. What follows a poll that has been judged (R91, R161, R162, R165): the next station polled, or at the cycle's last the
scan completed, and then the scan stopped or the next cycle begun. -/

namespace Sys2Proof.Machine

/-! ## Polls sent (R161, R162, R165) -/

/-- A poll is the frame sent and the reference owner asked. -/
theorem State.sendPoll_eq (s : State) : s.sendPoll = { s with
    slm := { s.slm with pollFrame := s.sendPoll.slm.pollFrame }
    zsv := { s.zsv with reference := s.sendPoll.zsv.reference } } := by
  unfold State.sendPoll
  split <;> rfl

theorem State.sendPoll_slm (s : State) : s.sendPoll.slm = { s.slm with pollFrame := s.sendPoll.slm.pollFrame } :=
  congrArg State.slm s.sendPoll_eq

theorem State.sendPoll_str (s : State) : s.sendPoll.str = s.str := by rw [State.sendPoll_eq]

theorem State.sendPoll_quiet (s : State) : s.sendPoll.quiet = s.quiet := by
  rw [State.sendPoll_eq]
  rfl

theorem State.sendPoll_enabledSet (s : State) : s.sendPoll.enabledSet = s.enabledSet := by
  rw [State.sendPoll_eq]
  rfl

/-- Asking the owner to compare changes no output record. -/
theorem State.sendPoll_pollFrame (s : State) (n : Nat) : s.sendPoll.pollFrame n = s.pollFrame n := by
  have kind : s.sendPoll.zsv.reference.map RefOwner.kind = s.zsv.reference.map RefOwner.kind := by
    unfold State.sendPoll
    split
    · rfl
    · exact Zsv.ask_kind _ s.zsv
  rw [State.sendPoll_eq]
  unfold State.pollFrame State.outputRecord State.zoneOutput
  dsimp only
  rw [kind]
  rfl

/-- The frame of the next station's poll. -/
theorem State.sendPoll_frame {s : State} {n : Nat} {rest : List Nat} (next : s.slm.toPoll = n :: rest) :
    s.sendPoll.slm.pollFrame = s.sendPoll.pollFrame n := by
  rw [State.sendPoll_pollFrame, State.sendPoll, next]
  rfl

/-- The clock, EVU, and SLM's station records and request queue are in `t` as in `s`: no poll and no end of a cycle changes them. -/
structure PollsNext (s t : State) : Prop where
  clock : t.clock = s.clock
  evu : t.evu = s.evu
  stations : t.slm.stations = s.slm.stations
  lossThreshold : t.slm.lossThreshold = s.slm.lossThreshold
  requests : t.slm.requests = s.slm.requests
  overflow : t.slm.overflow = s.slm.overflow

theorem PollsNext.refl (s : State) : PollsNext s s := ⟨rfl, rfl, rfl, rfl, rfl, rfl⟩

theorem PollsNext.trans {s t u : State} (h : PollsNext s t) (k : PollsNext t u) : PollsNext s u :=
  ⟨k.clock.trans h.clock, k.evu.trans h.evu, k.stations.trans h.stations, k.lossThreshold.trans h.lossThreshold,
    k.requests.trans h.requests, k.overflow.trans h.overflow⟩

theorem PollsNext.onSlm (s : State) (toPoll enabled : List Nat) (mode : ScanMode) (scanNumber : Nat) :
    PollsNext s (s.onSlm fun m =>
      { m with toPoll := toPoll, enabled := enabled, mode := mode, scanNumber := scanNumber }) :=
  ⟨rfl, rfl, rfl, rfl, rfl, rfl⟩

theorem PollsNext.sendPoll (s : State) : PollsNext s s.sendPoll := by
  rw [State.sendPoll_eq]
  exact ⟨rfl, rfl, rfl, rfl, rfl, rfl⟩

/-! ## A cycle's start and end (R91, R161, R165) -/

theorem State.enabledSet_ne_nil (s : State) : s.enabledSet ≠ [] := by simp [State.enabledSet]

/-- The next cycle's stations and its number. -/
def State.cycleBegun (s : State) : State := s.onSlm fun m =>
  { m with scanNumber := (m.scanNumber + 1) % 65536, enabled := s.enabledSet, toPoll := s.enabledSet }

theorem State.startCycle_eq (s : State) : s.startCycle = s.cycleBegun.sendPoll := rfl

theorem PollsNext.startCycle (s : State) : PollsNext s s.startCycle :=
  (PollsNext.onSlm s s.enabledSet s.enabledSet s.slm.mode _).trans (.sendPoll s.cycleBegun)

/-- The first poll of a cycle goes to the first station of its set. -/
theorem State.startCycle_slm (s : State) : s.startCycle.slm = { s.slm with
    scanNumber := (s.slm.scanNumber + 1) % 65536, enabled := s.enabledSet, toPoll := s.startCycle.enabledSet
    pollFrame := s.startCycle.pollFrame (s.startCycle.enabledSet.headD 0) } := by
  obtain ⟨n, rest, stations⟩ := List.exists_cons_of_ne_nil s.enabledSet_ne_nil
  have set : s.cycleBegun.sendPoll.enabledSet = s.enabledSet := State.sendPoll_enabledSet s.cycleBegun
  have head : s.enabledSet.headD 0 = n := by rw [stations]; rfl
  have frame : s.cycleBegun.sendPoll.slm.pollFrame = s.cycleBegun.sendPoll.pollFrame n :=
    State.sendPoll_frame (s := s.cycleBegun) stations
  rw [State.startCycle_eq, set, head, State.sendPoll_slm, frame]
  rfl

/-- No cycle follows the one that ends: the scan is STOPPED, or SINGLE with the line quiet (R165). -/
def State.scanEnds (s : State) : Bool :=
  match s.slm.mode with
  | .stopped => true
  | .continuous => false
  | .single => s.quiet

theorem State.scanEnds_eq_true_iff (s : State) :
    s.scanEnds = true ↔ s.slm.mode = .stopped ∨ (s.slm.mode = .single ∧ s.quiet = true) := by
  unfold State.scanEnds
  cases s.slm.mode <;> simp

theorem State.scanEnds_eq_false_iff (s : State) :
    s.scanEnds = false ↔ s.slm.mode = .continuous ∨ (s.slm.mode = .single ∧ s.quiet = false) := by
  unfold State.scanEnds
  cases s.slm.mode <;> simp

/-- The end of a cycle, with the scan completed and the scan in mode `m`. -/
def State.cycleOver (s : State) (m : ScanMode) : State :=
  (s.scanCompletion.onRcu fun r => { r with brakeSpent := false }).onSlm fun x => { x with toPoll := [], mode := m }

theorem State.nextPoll_of_last {s : State} {n : Nat} (last : s.slm.toPoll = [n]) : s.nextPoll =
    if s.scanEnds then (s.cycleOver .stopped).sendPoll else (s.cycleOver .continuous).startCycle := by
  let left : State := s.onSlm fun m => { m with toPoll := m.toPoll.tail }
  have completed (m : ScanMode) (mode : s.slm.mode = m) :
      left.scanCompletion.onRcu (fun r => { r with brakeSpent := false }) = s.cycleOver m := by
    have slm : left.slm = { s.slm with toPoll := [], mode := m } := by
      rw [← mode]
      exact congrArg (fun l => ({ s.slm with toPoll := l } : Slm)) (by rw [last]; rfl)
    exact congrArg (fun x => ({ s.cycleOver m with slm := x } : State)) slm
  have ends : s.nextPoll = left.endCycle := if_pos (by simp [last])
  have quiet : (s.cycleOver .single).quiet = s.quiet := rfl
  rw [ends]
  unfold State.endCycle State.scanEnds
  dsimp only
  cases mode : s.slm.mode with
  | stopped => rw [completed _ mode]; rfl
  | continuous => rw [completed _ mode]; rfl
  | single =>
    rw [completed _ mode]
    show (if (s.cycleOver .single).quiet then _ else _) = _
    rw [quiet]
    rfl

/-- The next station is polled. -/
theorem State.nextPoll_of_more {s : State} {n k : Nat} {rest : List Nat} (more : s.slm.toPoll = n :: k :: rest) : s.nextPoll =
    (s.onSlm fun m => { m with toPoll := k :: rest }).sendPoll := by
  have polls : s.nextPoll = (s.onSlm fun m => { m with toPoll := m.toPoll.tail }).sendPoll := if_neg (by simp [more])
  rw [polls, State.onSlm, more]
  rfl

/-- `t` is what the next poll makes of `s`, with the stations `rest` left to poll: the belt as it was with the next station polled,
or with none left the scan completed, and the scan stopped or the next cycle begun. -/
structure PollsOn (rest : List Nat) (s t : State) : Prop where
  kept : PollsNext s t
  quiet : t.quiet = s.quiet
  more : rest ≠ [] → t.str = s.str ∧ t.slm.toPoll = rest ∧ t.slm.pollFrame = t.pollFrame (rest.headD 0)
    ∧ t.slm.mode = s.slm.mode
  last : rest = [] → t.str = s.scanCompletion.str
  stopped : rest = [] → s.scanEnds = true → t.slm.toPoll = [] ∧ t.slm.mode = .stopped
  begun : rest = [] → s.scanEnds = false → t.slm.mode = .continuous ∧ t.slm.toPoll = t.enabledSet
    ∧ t.slm.scanNumber = (s.slm.scanNumber + 1) % 65536 ∧ t.slm.pollFrame = t.pollFrame (t.enabledSet.headD 0)

theorem PollsNext.cycleOver (s : State) (m : ScanMode) : PollsNext s (s.cycleOver m) := ⟨rfl, rfl, rfl, rfl, rfl, rfl⟩

theorem PollsOn.nextPoll {s : State} {n : Nat} {rest : List Nat} (poll : s.slm.toPoll = n :: rest) : PollsOn rest s s.nextPoll := by
  cases rest with
  | cons k rest =>
    let left : State := s.onSlm fun m => { m with toPoll := k :: rest }
    rw [State.nextPoll_of_more poll]
    exact {
      kept := PollsNext.trans (t := left) ⟨rfl, rfl, rfl, rfl, rfl, rfl⟩ (.sendPoll left)
      quiet := left.sendPoll_quiet
      more := fun _ => ⟨left.sendPoll_str, by rw [State.sendPoll_slm]; rfl, State.sendPoll_frame (s := left) rfl,
        by rw [State.sendPoll_slm]; rfl⟩
      last := nofun, stopped := nofun, begun := nofun }
  | nil =>
    rw [State.nextPoll_of_last poll]
    split
    · next ends =>
      exact {
        kept := (PollsNext.cycleOver s .stopped).trans (.sendPoll _)
        quiet := State.sendPoll_quiet _
        more := fun left => absurd rfl left
        last := fun _ => State.sendPoll_str _
        stopped := fun _ _ => by rw [State.sendPoll_slm]; exact ⟨rfl, rfl⟩
        begun := fun _ goes => absurd (ends.symm.trans goes) nofun }
    · next goes =>
      exact {
        kept := (PollsNext.cycleOver s .continuous).trans (.startCycle _)
        quiet := State.sendPoll_quiet _
        more := fun left => absurd rfl left
        last := fun _ => State.sendPoll_str _
        stopped := fun _ ends => absurd ends goes
        begun := fun _ _ => by
          have slm := (s.cycleOver .continuous).startCycle_slm
          refine ⟨?_, ?_, ?_, ?_⟩
          · rw [slm]; rfl
          · rw [slm]
          · rw [slm]; rfl
          · rw [slm] }

end Sys2Proof.Machine
end

section
/-! SUPPORT. A poll's response judged (R163), and what a miss and a good response leave of the station's record and of the request
queue (R167 to R169, R173), through what SEQ then does. Settles O56. -/

namespace Sys2Proof.Machine

/-! ## Judging a response (R163) -/

section
variable (free : Nat) {n : Nat} {bytes : List Byte}

theorem judge_missCrc (wrong : ¬crcCorrect bytes = true) : judge free n bytes = .missCrc := by
  simp [judge, wrong]

section
variable (whole : crcCorrect bytes = true)
include whole

theorem judge_miss (unfit : ¬((bytes.getD 0 0#8).toNat = n ∧ bytes.length = (roleOf n).responseLength)) :
    judge free n bytes = .miss := by
  have either : (byteAt bytes 0).toNat ≠ n ∨ bytes.length ≠ (roleOf n).responseLength := not_and_or.mp unfit
  simp only [judge, whole, Bool.not_true, Bool.false_eq_true, if_false, if_pos either]

theorem judge_good (fits : (bytes.getD 0 0#8).toNat = n ∧ bytes.length = (roleOf n).responseLength)
    (small : (bytes.getD 2 0#8).toNat ≤ 15) : judge free n bytes = .good
      { status := bytes.getD 1 0#8, renewal := (bytes.getD 2 0#8).toNat, code := (bytes.getD 3 0#8).toNat
        readings := Readings.ofBytes (roleOf n) bytes } := by
  have neither : ¬((byteAt bytes 0).toNat ≠ n ∨ bytes.length ≠ (roleOf n).responseLength) := fun either =>
    not_and_or.mpr either fits
  have listed : (byteAt bytes 2).toNat ≤ 15 := small
  simp only [judge, whole, Bool.not_true, Bool.false_eq_true, if_false, if_neg neither, if_pos listed]
  rfl

end

end

/-! ## The station's record (R167 to R169) -/

/-- A miss counted, with the state as it was. -/
def Station.missCounted (crc : Bool) (st : Station) : Station :=
  { st with
    missCounter := saturating 255 st.missCounter
    crcErrors := if crc then saturating 255 st.crcErrors else st.crcErrors }

section
variable {st : Station} (threshold : Nat) (crc : Bool)

theorem Station.miss_of_lost (lost : st.state = .lost) :
    st.miss threshold crc = { st.missCounted crc with recovery := 0 } := if_pos lost

variable {threshold} (standing : st.state ≠ .lost)
include standing

theorem Station.miss_of_short (short : st.misses + 1 < threshold) :
    st.miss threshold crc = { st.missCounted crc with state := .missing, misses := st.misses + 1 } :=
  (if_neg standing).trans (if_pos short)

theorem Station.miss_at_threshold (reached : threshold ≤ st.misses + 1) :
    st.miss threshold crc = { st.missCounted crc with state := .lost, misses := threshold } :=
  (if_neg standing).trans (if_neg reached.not_gt)

end

/-- A LOST station is ONLINE at its third good response in a row, any other at once. -/
theorem Station.answered_eq (st : Station) : st.answered = { st with
    state := if st.state = .lost ∧ st.recovery < 2 then .lost else .online
    misses := if st.state = .lost ∧ st.recovery < 2 then st.misses else 0
    recovery := if st.state = .lost then if st.recovery < 2 then st.recovery + 1 else 0 else st.recovery } := by
  unfold Station.answered
  by_cases lost : st.state = .lost
  · by_cases early : st.recovery < 2
    · simp [lost, early]
    · simp [lost, early]
  · simp [lost]

theorem Station.renew_eq (count : Nat) (st : Station) : st.renew count = { st with
    lastRenewal := some count
    unchanged := if st.lastRenewal = some count then min 8 (st.unchanged + 1) else 0
    stale := if st.lastRenewal = some count then st.stale || decide (8 ≤ st.unchanged + 1) else false } := by
  unfold Station.renew
  split
  · next same => rw [← same]
  · rfl

/-! ## A miss and a good response booked (R167, R168, R173) -/

theorem State.missBooked_slm (s : State) (n : Nat) (crc : Bool) : (s.missBooked n crc).slm =
    { s.slm with stations := modifyAt s.slm.stations n (Station.miss s.slm.lossThreshold crc) } := by
  unfold State.missBooked
  dsimp only
  split <;> rfl

theorem State.missBooked_clock (s : State) (n : Nat) (crc : Bool) : (s.missBooked n crc).clock = s.clock := by
  unfold State.missBooked
  dsimp only
  split <;> rfl

theorem State.booked_slm (s : State) (n : Nat) (r : Response) : (s.booked n r).slm = { s.slm with
    stations := modifyAt s.slm.stations n (Station.good r), requests := (s.booked n r).slm.requests
    overflow := (s.booked n r).slm.overflow } := by
  unfold State.booked State.queueRequest
  dsimp only
  split
  · split <;> rfl
  · rfl

theorem State.booked_clock (s : State) (n : Nat) (r : Response) : (s.booked n r).clock = s.clock := by
  unfold State.booked State.queueRequest
  dsimp only
  split
  · split <;> rfl
  · rfl

/-- A code of 0, or the last one again, makes no request. -/
theorem State.booked_of_old (s : State) {n : Nat} {r : Response} (old : r.code = 0 ∨ r.code = (s.station n).lastCode) :
    s.booked n r = s.onStation n (Station.good r) := if_neg (not_and_or.mpr (old.imp not_not.mpr not_not.mpr))

section
variable {s : State} {n : Nat} {r : Response} (nonzero : r.code ≠ 0) (new : r.code ≠ (s.station n).lastCode)
include nonzero new

theorem State.booked_of_new : s.booked n r = (s.onStation n (Station.good r)).queueRequest n r.code := if_pos ⟨nonzero, new⟩

theorem State.booked_with_place (place : s.slm.requests.length < 32) : s.booked n r =
    ((s.onStation n (Station.good r)).onSlm fun m => { m with
      requests := m.requests ++ [{ station := n, code := r.code, scan := m.scanNumber }] }).raise .stationRequest :=
  (State.booked_of_new nonzero new).trans (if_pos place)

theorem State.booked_without_place (full : 32 ≤ s.slm.requests.length) : s.booked n r =
    (s.onStation n (Station.good r)).onSlm fun m => { m with overflow := true } :=
  (State.booked_of_new nonzero new).trans (if_neg full.not_gt)

end

/-! ## The owner told, and what SEQ then does -/

theorem UnitsOnly.slm {s t : State} (h : UnitsOnly s t) : t.slm = s.slm := by
  unfold UnitsOnly at h
  rw [h]

theorem UnitsOnly.clock {s t : State} (h : UnitsOnly s t) : t.clock = s.clock := by
  unfold UnitsOnly at h
  rw [h]

theorem State.settle_slm (s : State) : s.settle.slm = s.slm := (lineOnly_settle s).units.slm

theorem State.settle_clock (s : State) : s.settle.clock = s.clock := (lineOnly_settle s).units.clock

theorem State.station_congr {s t : State} (same : t.slm.stations = s.slm.stations) (n : Nat) : t.station n = s.station n := by
  rw [State.station, same]
  rfl

section
variable (s : State) {n : Nat} (low : 1 ≤ n) (high : n ≤ 16)
include low high

theorem State.unitsOnly_told (before : Condition) : UnitsOnly s (s.told n before) := by
  rw [← State.noticeIfChanged_eq s before low high]
  exact unitsOnly_noticeIfChanged ..

theorem State.raises_told (before : Condition) : RaisesOnly s (s.told n before) := by
  rw [← State.noticeIfChanged_eq s before low high]
  exact .ite (.refl s) (raises_notifyOwner ..)

theorem State.stationMiss_slm (crc : Bool) : (s.stationMiss n crc).slm =
    { s.slm with stations := modifyAt s.slm.stations n (Station.miss s.slm.lossThreshold crc) } := by
  rw [State.stationMiss_eq s crc low high, (State.unitsOnly_told _ low high _).slm, State.missBooked_slm]

theorem State.stationMiss_clock (crc : Bool) : (s.stationMiss n crc).clock = s.clock := by
  rw [State.stationMiss_eq s crc low high, (State.unitsOnly_told _ low high _).clock, State.missBooked_clock]

theorem State.station_stationMiss_eq (crc : Bool) (k : Nat) : (s.stationMiss n crc).station k =
    (s.onStation n (Station.miss s.slm.lossThreshold crc)).station k := by
  refine State.station_congr ?_ k
  rw [State.stationMiss_slm s low high]
  rfl

theorem State.station_stationMiss_other (crc : Bool) {k : Nat} (other : k ≠ n) : (s.stationMiss n crc).station k = s.station k := by
  rw [State.station_stationMiss_eq s low high, s.station_onStation_other _ other]

theorem State.goodResponse_slm (r : Response) : (s.goodResponse n r).slm = { (s.booked n r).slm with
    stations := modifyAt (s.booked n r).slm.stations n fun st => { st with lastCode := r.code } } := by
  rw [State.goodResponse_eq s r low high, State.onStation_slm, (unitsOnly_deliver ..).slm, (State.unitsOnly_told _ low high _).slm]

theorem State.goodResponse_clock (r : Response) : (s.goodResponse n r).clock = s.clock := by
  rw [State.goodResponse_eq s r low high, State.onStation_clock, (unitsOnly_deliver ..).clock,
    (State.unitsOnly_told _ low high _).clock, State.booked_clock]

theorem raises_goodResponse (r : Response) : RaisesOnly (s.booked n r) (s.goodResponse n r) := by
  rw [State.goodResponse_eq s r low high]
  exact ((State.raises_told _ low high _).trans (raises_deliver ..)).trans (.of_evu rfl)

/-- The record after a good response: what the response gives it, then its code. -/
theorem State.station_goodResponse_eq (r : Response) (k : Nat) : (s.goodResponse n r).station k =
    ((s.onStation n (Station.good r)).onStation n fun st => { st with lastCode := r.code }).station k := by
  refine State.station_congr ?_ k
  rw [State.goodResponse_slm s low high, State.booked_slm]
  rfl

theorem State.station_goodResponse_other (r : Response) {k : Nat} (other : k ≠ n) :
    (s.goodResponse n r).station k = s.station k := by
  rw [State.station_goodResponse_eq s low high, State.station_onStation_other _ _ other, s.station_onStation_other _ other]

variable {s} (sized : s.sized)
include sized

theorem State.station_stationMiss (crc : Bool) :
    (s.stationMiss n crc).station n = (s.station n).miss s.slm.lossThreshold crc := by
  obtain ⟨-, -, -, sixteen⟩ := sized
  rw [State.station_stationMiss_eq s low high, s.station_onStation_same _ low (high.trans sixteen.ge)]

/-- A station that a miss makes LOST has STATION_LOST raised. -/
theorem State.stationMiss_notice {crc : Bool} (standing : (s.station n).state ≠ .lost)
    (reached : s.slm.lossThreshold ≤ (s.station n).misses + 1) : (s.stationMiss n crc).evu.pendingSet.getLsbD 12 = true := by
  have lost : ((s.onStation n (Station.miss s.slm.lossThreshold crc)).station n).state = .lost := by
    rw [← State.station_stationMiss_eq s low high, State.station_stationMiss low high sized,
      Station.miss_at_threshold crc standing reached]
  have raised : (s.missBooked n crc).evu = s.evu.raise .stationLost := by
    rw [State.missBooked, if_pos ⟨standing, lost⟩]
    rfl
  rw [State.stationMiss_eq s crc low high]
  refine (State.raises_told _ low high _).pending ?_
  rw [raised]
  exact Evu.raise_getLsbD_self s.evu .stationLost

theorem State.station_goodResponse (r : Response) :
    (s.goodResponse n r).station n = { (s.station n).good r with lastCode := r.code } := by
  obtain ⟨-, -, -, sixteen⟩ := sized
  rw [State.station_goodResponse_eq s low high,
    State.station_onStation_same _ _ low (high.trans (sixteen.ge.trans (length_modifyAt ..).ge)),
    s.station_onStation_same _ low (high.trans sixteen.ge)]

end

/-! ## The events -/

section
variable {s : State}

theorem exec_responseWindowExpiry_idle (idle : s.slm.toPoll = []) : exec .responseWindowExpiry s = .next s := by
  show execResponseWindowExpiry s = _
  rw [execResponseWindowExpiry, idle]

theorem exec_stationResponse_idle (idle : s.slm.toPoll = []) (bytes : List Byte) :
    exec (.stationResponse bytes) s = .next s := by
  show execStationResponse bytes s = _
  rw [execStationResponse, idle]

variable {n : Nat} {rest : List Nat} (poll : s.slm.toPoll = n :: rest)
include poll

theorem exec_responseWindowExpiry_polling :
    exec .responseWindowExpiry s = .next (s.stationMiss n false).settle.nextPoll := by
  show execResponseWindowExpiry s = _
  rw [execResponseWindowExpiry, poll]

theorem exec_stationResponse_missCrc {bytes : List Byte} (judged : judge s.freeCtr n bytes = .missCrc) :
    exec (.stationResponse bytes) s = .next (s.stationMiss n true).settle.nextPoll.useFree := by
  show execStationResponse bytes s = _
  rw [execStationResponse, poll]
  dsimp only
  rw [judged]

theorem exec_stationResponse_miss {bytes : List Byte} (judged : judge s.freeCtr n bytes = .miss) :
    exec (.stationResponse bytes) s = .next (s.stationMiss n false).settle.nextPoll.useFree := by
  show execStationResponse bytes s = _
  rw [execStationResponse, poll]
  dsimp only
  rw [judged]

theorem exec_stationResponse_good {bytes : List Byte} {r : Response} (judged : judge s.freeCtr n bytes = .good r) :
    exec (.stationResponse bytes) s = .next (s.goodResponse n r).settle.nextPoll.useFree := by
  show execStationResponse bytes s = _
  rw [execStationResponse, poll]
  dsimp only
  rw [judged]

end

theorem PollsOn.useFree {rest : List Nat} {s t : State} (h : PollsOn rest s t) : PollsOn rest s t.useFree :=
  ⟨h.kept.trans ⟨rfl, rfl, rfl, rfl, rfl, rfl⟩, h.quiet, h.more, h.last, h.stopped, h.begun⟩

section
variable {rest : List Nat} {v t : State} (polls : PollsOn rest v.settle t)
include polls

theorem PollsOn.station (k : Nat) : t.station k = v.station k :=
  State.station_congr (polls.kept.stations.trans (congrArg Slm.stations v.settle_slm)) k

theorem PollsOn.lossThreshold : t.slm.lossThreshold = v.slm.lossThreshold :=
  polls.kept.lossThreshold.trans (congrArg Slm.lossThreshold v.settle_slm)

theorem PollsOn.requests : t.slm.requests = v.slm.requests :=
  polls.kept.requests.trans (congrArg Slm.requests v.settle_slm)

theorem PollsOn.overflow : t.slm.overflow = v.slm.overflow :=
  polls.kept.overflow.trans (congrArg Slm.overflow v.settle_slm)

theorem PollsOn.raises {s : State} (raised : RaisesOnly s v) : RaisesOnly s t :=
  (raised.trans (raises_settle v)).trans (.of_evu polls.kept.evu)

end

/-- Settles O56: the outcome as judged, its record by `miss` and `good`, and what follows it by `PollsOn`. -/
theorem stationsJudged : Obligations.StationsJudged := by
  intro s
  refine ⟨fun idle => ⟨exec_responseWindowExpiry_idle idle, exec_stationResponse_idle idle⟩, ?_⟩
  intro n rest poll low high sized st others polled up missed
  have follows {v t : State} (polls : PollsOn rest v.settle t) (clock : v.clock = s.clock) (mode : v.slm.mode = s.slm.mode)
      (number : v.slm.scanNumber = s.slm.scanNumber) : polled v.settle t := by
    have time : v.settle.clock = s.clock := v.settle_clock.trans clock
    have slm := v.settle_slm
    refine ⟨polls.kept.clock.trans time, fun left => ?_, fun last => ⟨polls.last last, ?_, fun ends => ?_, fun goes => ?_⟩⟩
    · obtain ⟨str, toPoll, frame, same⟩ := polls.more left
      exact ⟨str, toPoll, frame, same.trans (slm ▸ mode)⟩
    · rw [polls.last last, ← time]
      rfl
    · refine polls.stopped last (v.settle.scanEnds_eq_true_iff.mpr ?_)
      rwa [← polls.quiet, slm, mode]
    · rw [← number, ← slm]
      refine polls.begun last (v.settle.scanEnds_eq_false_iff.mpr ?_)
      rwa [← polls.quiet, slm, mode]
  have isMissed {crc : Bool} {t : State} (polls : PollsOn rest (s.stationMiss n crc).settle t) : missed t crc := by
    have slm := State.stationMiss_slm s low high crc
    have record : t.station n = st.miss s.slm.lossThreshold crc :=
      (polls.station n).trans (State.station_stationMiss low high sized crc)
    refine ⟨⟨fun k other => ?_, by rw [polls.lossThreshold, slm]⟩, ?_, by rw [polls.requests, slm], fun lost => ?_,
      fun standing short => ?_, fun standing reached => ⟨?_, ?_⟩⟩
    · exact (polls.station k).trans (State.station_stationMiss_other s low high crc other)
    · rw [← State.stationMiss_eq s crc low high]
      exact follows polls (State.stationMiss_clock s low high crc) (by rw [slm]) (by rw [slm])
    · exact record.trans (Station.miss_of_lost _ crc lost)
    · exact record.trans (Station.miss_of_short crc standing short)
    · exact record.trans (Station.miss_at_threshold crc standing reached)
    · exact (polls.raises (.refl _)).pending (State.stationMiss_notice low high sized standing reached)
  have missPolls (crc : Bool) : PollsOn rest (s.stationMiss n crc).settle (s.stationMiss n crc).settle.nextPoll := by
    refine .nextPoll (n := n) ?_
    rw [State.settle_slm, State.stationMiss_slm s low high]
    exact poll
  refine ⟨⟨_, exec_responseWindowExpiry_polling poll, isMissed (missPolls false)⟩, ?_⟩
  intro bytes whole fits renewal code
  refine ⟨fun wrong => ⟨_, exec_stationResponse_missCrc poll (judge_missCrc _ wrong), isMissed (missPolls true).useFree⟩,
    fun right unfit => ⟨_, exec_stationResponse_miss poll (judge_miss _ right unfit), isMissed (missPolls false).useFree⟩,
    fun right fit small => ?_⟩
  let r : Response := { status := bytes.getD 1 0#8, renewal := renewal, code := code
                        readings := Readings.ofBytes (roleOf n) bytes }
  have slm := State.goodResponse_slm s low high r
  have polls : PollsOn rest (s.goodResponse n r).settle (s.goodResponse n r).settle.nextPoll.useFree := by
    refine (PollsOn.nextPoll (n := n) ?_).useFree
    rw [State.settle_slm, slm, State.booked_slm]
    exact poll
  refine ⟨s.goodResponse n r, _, exec_stationResponse_good poll (judge_good _ right fit small), rfl, ⟨fun k other => ?_, ?_⟩,
    follows polls (State.goodResponse_clock s low high r) ?_ ?_, ?_, fun old => ?_,
    fun nonzero new => ⟨fun place => ?_, fun full => ?_⟩⟩
  · exact (polls.station k).trans (State.station_goodResponse_other s low high r other)
  · rw [polls.lossThreshold, slm, State.booked_slm]
  · rw [slm, State.booked_slm]
  · rw [slm, State.booked_slm]
  · rw [polls.station, State.station_goodResponse low high sized, Station.good, Station.renew_eq, Station.answered_eq]
  · rw [polls.requests, polls.overflow, slm, State.booked_of_old s (r := r) old]
    exact ⟨rfl, rfl⟩
  · have booked := State.booked_with_place (r := r) nonzero new place
    refine ⟨?_, (polls.raises (raises_goodResponse s low high r)).pending ?_, ?_⟩
    · rw [polls.overflow, slm, booked]
      rfl
    · rw [booked]
      exact Evu.raise_getLsbD_self s.evu .stationRequest
    · rw [polls.requests, slm, booked]
      rfl
  · rw [polls.requests, polls.overflow, slm, State.booked_without_place (r := r) nonzero new full]
    exact ⟨rfl, rfl⟩

end Sys2Proof.Machine
end

section
/-! SUPPORT. What every operation keeps of the units: the reference with its one CALIBRATING zone, the unwinds, the station records,
the report ring and the sizes of the tables (R103, R129, R138, R156, R166, R167, R177). `UnitsKept` says so of two states; here for
the updates of the state and for the zones. -/

namespace Sys2Proof.Machine

/-- From `s` to `t` the reference, the rolls, the report ring and the tables stay sound. -/
structure OwnersKept (s t : State) : Prop where
  reference : s.referenceSound → t.referenceSound
  rolls     : s.oneActive → t.oneActive
  ring      : s.ringSound → t.ringSound
  tables    : s.sized → t.sized

/-- From `s` to `t` the station records stay sound too. -/
structure UnitsKept (s t : State) : Prop extends OwnersKept s t where
  stations : s.stationsSound → t.stationsSound

theorem OwnersKept.refl (s : State) : OwnersKept s s := ⟨id, id, id, id⟩

theorem OwnersKept.trans {s t u : State} (h : OwnersKept s t) (k : OwnersKept t u) : OwnersKept s u :=
  ⟨k.reference ∘ h.reference, k.rolls ∘ h.rolls, k.ring ∘ h.ring, k.tables ∘ h.tables⟩

theorem UnitsKept.refl (s : State) : UnitsKept s s := ⟨.refl s, id⟩

theorem UnitsKept.trans {s t u : State} (h : UnitsKept s t) (k : UnitsKept t u) : UnitsKept s u :=
  ⟨h.toOwnersKept.trans k.toOwnersKept, k.stations ∘ h.stations⟩

theorem UnitsKept.ite {s t u : State} {c : Prop} [Decidable c] (h : c → UnitsKept s t) (k : UnitsKept s u) :
    UnitsKept s (if c then t else u) := by
  split
  · next holds => exact h holds
  · exact k

theorem UnitsKept.foldl {α : Type} (g : State → α → State) (h : ∀ s a, UnitsKept s (g s a)) (l : List α) (s : State) :
    UnitsKept s (l.foldl g s) := by
  induction l generalizing s with
  | nil => exact .refl s
  | cons a rest ih => exact (h s a).trans (ih _)

/-! ## Updates of the state -/

/-- All that the five invariants read of a state. -/
def State.unitsView (s : State) : Nat × Nat × List Zone × Option Nat × (List Station × Nat)
    × (UnwindState × UnwindState × Option (UnwindId × UnwindId)) × (List (Option Report) × Nat × Nat) :=
  (s.pst.profiles.length, s.pst.patterns.length, s.zsv.zones, s.zsv.reference.map RefOwner.zone,
    (s.slm.stations, s.slm.lossThreshold),
    (s.rcu.unwindA.state, s.rcu.unwindB.state, s.rcu.change.map fun c => (c.old, c.new)),
    (s.evu.slots, s.evu.writePos, s.evu.filled))

/-- Nothing that the invariants read has changed. -/
theorem UnitsKept.of_view {s t : State} (h : t.unitsView = s.unitsView) : UnitsKept s t := by
  simp only [State.unitsView, Prod.mk.injEq] at h
  obtain ⟨profiles, patterns, zones, owner, ⟨stations, threshold⟩, ⟨unwindA, unwindB, change⟩, slots, writePos, filled⟩ := h
  refine ⟨⟨fun h => ?_, fun ⟨one, between⟩ => ?_, fun h => ?_, fun h => ?_⟩, fun h => ?_⟩
  · simpa only [State.referenceSound, State.zone, zones, owner] using h
  · refine ⟨by rwa [unwindA, unwindB], fun c changes => ?_⟩
    have pair : s.rcu.change.map (fun c => (c.old, c.new)) = some (c.old, c.new) := by rw [← change, changes]; rfl
    obtain ⟨d, standing, same⟩ := Option.map_eq_some_iff.mp pair
    obtain ⟨old, new⟩ := Prod.mk.inj same
    rw [← old, ← new]
    exact between d standing
  · simpa only [State.ringSound, Evu.oldest, slots, writePos, filled] using h
  · simpa only [State.sized, profiles, patterns, zones, stations] using h
  · simpa only [State.stationsSound, stations, threshold] using h

theorem UnitsKept.onSeq (s : State) (f : Seq → Seq) : UnitsKept s (s.onSeq f) := .of_view rfl
theorem UnitsKept.onFca (s : State) (f : Fca → Fca) : UnitsKept s (s.onFca f) := .of_view rfl
theorem UnitsKept.onWtr (s : State) (f : Wtr → Wtr) : UnitsKept s (s.onWtr f) := .of_view rfl
theorem UnitsKept.onStr (s : State) (f : Str → Str) : UnitsKept s (s.onStr f) := .of_view rfl
theorem UnitsKept.onHlp (s : State) (f : Hlp → Hlp) : UnitsKept s (s.onHlp f) := .of_view rfl
theorem UnitsKept.raise (s : State) (c : EventClass) : UnitsKept s (s.raise c) := .of_view rfl
theorem UnitsKept.useFree (s : State) : UnitsKept s s.useFree := .of_view rfl
theorem UnitsKept.reach (s : State) (time : Nat) : UnitsKept s (s.reach time) := .of_view rfl

/-! ## One zone -/

/-- A zone `z` that becomes `t` calibrates as before, with a return state where it had one. -/
def Zone.calibratesAs (z t : Zone) : Prop :=
  (t.state = .calibrating ↔ z.state = .calibrating) ∧ (z.state = .calibrating → z.ret ≠ none → t.ret ≠ none)

theorem Zone.calibratesAs.of_same {z t : Zone} (state : t.state = z.state) (ret : t.ret = z.ret) : z.calibratesAs t := by
  rw [Zone.calibratesAs, state, ret]
  exact ⟨Iff.rfl, fun _ some => some⟩

/-- Neither calibrates. -/
theorem Zone.calibratesAs.of_not {z t : Zone} (before : z.state ≠ .calibrating) (after : t.state ≠ .calibrating) :
    z.calibratesAs t :=
  ⟨⟨fun h => absurd h after, fun h => absurd h before⟩, fun h => absurd h before⟩

/-- An update of zone `i` reaches it where the table has it, and then only it. -/
theorem State.zone_onZone_cases (s : State) (i : Nat) (f : Zone → Zone) (j : Nat) :
    (j = i ∧ (s.onZone i f).zone j = f (s.zone j)) ∨ (s.onZone i f).zone j = s.zone j ∧ (j = i → s.zone j = Zone.powerOn) := by
  by_cases same : j = i
  · subst same
    by_cases entry : 1 ≤ j ∧ j ≤ s.zsv.zones.length
    · exact .inl ⟨rfl, s.zone_onZone_same f entry.1 entry.2⟩
    · have entry' : ¬(1 ≤ j ∧ j ≤ (s.onZone j f).zsv.zones.length) := by
        simpa only [State.onZone, State.onZsv_zsv, length_modifyAt] using entry
      exact .inr ⟨(State.zone_of_no_entry _ entry').trans (s.zone_of_no_entry entry).symm, fun _ => s.zone_of_no_entry entry⟩
  · exact .inr ⟨s.zone_onZone_other f same, fun h => absurd h same⟩

theorem State.sized_onZone {s : State} (sized : s.sized) (i : Nat) (f : Zone → Zone) : (s.onZone i f).sized := by
  obtain ⟨profiles, patterns, zones, stations⟩ := sized
  exact ⟨profiles, patterns, (length_modifyAt ..).trans zones, stations⟩

theorem UnitsKept.onZone (s : State) (i : Nat) (f : Zone → Zone) (h : s.referenceSound → (s.zone i).calibratesAs (f (s.zone i))) :
    UnitsKept s (s.onZone i f) := by
  refine ⟨⟨fun sound j => ?_, id, id, fun sized => s.sized_onZone sized i f⟩, id⟩
  obtain ⟨owns, returns⟩ := sound j
  rcases s.zone_onZone_cases i f j with ⟨rfl, new⟩ | ⟨old, -⟩
  · obtain ⟨same, ret⟩ := h sound
    rw [new]
    exact ⟨same.trans owns, fun calibrating => ret (same.mp calibrating) (returns (same.mp calibrating))⟩
  · rw [old]
    exact ⟨owns, returns⟩

/-- The owner of the reference stops calibrating and gives the reference up. -/
theorem UnitsKept.release (s : State) (i : Nat) (f : Zone → Zone) (stops : (f (s.zone i)).state ≠ .calibrating)
    (owns : s.referenceSound → s.zsv.reference.map RefOwner.zone = some i) : UnitsKept s (s.onZone i f).releaseReference := by
  refine ⟨⟨fun sound j => ?_, id, id, fun sized => s.sized_onZone sized i f⟩, id⟩
  have idle : ((s.onZone i f).zone j).state ≠ .calibrating := by
    rcases s.zone_onZone_cases i f j with ⟨rfl, new⟩ | ⟨old, entry⟩
    · rw [new]
      exact stops
    · rw [old]
      intro calibrating
      have same : i = j := Option.some.inj ((owns sound).symm.trans ((sound j).1.mp calibrating))
      rw [entry same.symm] at calibrating
      cases calibrating
  exact ⟨⟨fun calibrating => absurd calibrating idle, nofun⟩, fun calibrating => absurd calibrating idle⟩

/-- A zone that does not own the reference stops what it does. -/
theorem UnitsKept.stop (s : State) (i : Nat) (f : Zone → Zone) (stops : (f (s.zone i)).state ≠ .calibrating)
    (free : s.zsv.reference.map RefOwner.zone ≠ some i) : UnitsKept s (s.onZone i f) :=
  .onZone s i f fun sound => .of_not (fun calibrating => free ((sound i).1.mp calibrating)) stops

/-! ## The operations on a zone -/

theorem Zone.takeSetpoint_calibratesAs (p : Profile) (sp : Int) (z : Zone) : z.calibratesAs (z.takeSetpoint p sp) := by
  obtain ⟨setpoint, limit, lowering, frame⟩ := z.takeSetpoint_frame p sp
  rw [frame]
  exact .of_same rfl rfl

theorem unitsKept_takeSetpoint (s : State) (i : Nat) (r : ZoneReturn) : UnitsKept s (s.takeSetpoint i r) := by
  unfold State.takeSetpoint
  split
  · exact .refl s
  · exact .onZone s i _ fun _ => Zone.takeSetpoint_calibratesAs ..

theorem unitsKept_stopSettle (s : State) (i : Nat) : UnitsKept s (s.stopSettle i) := .onZone s i _ fun _ => .of_same rfl rfl

theorem unitsKept_restartSettle (s : State) (i : Nat) : UnitsKept s (s.restartSettle i) :=
  .onZone s i _ fun _ => .of_same rfl rfl

theorem unitsKept_beginPurge {s : State} {i : Nat} (idle : (s.zone i).state ≠ .calibrating) (r : ZoneReturn) :
    UnitsKept s (s.beginPurge i r) :=
  .onZone s i _ fun _ => .of_not idle nofun

theorem unitsKept_startTest (s : State) (i : Nat) : UnitsKept s (s.startTest i) := by
  refine .ite (fun _ => ?_) (.refl s)
  split
  · next ready => exact unitsKept_beginPurge (by rw [ready]; exact nofun) _
  · next standby => exact unitsKept_beginPurge (by rw [standby]; exact nofun) _
  · exact .refl s

theorem unitsKept_startTests (s : State) : UnitsKept s s.startTests := .foldl _ unitsKept_startTest _ s

theorem unitsKept_pendPurge (s : State) (i deadline : Nat) : UnitsKept s (s.pendPurge i deadline) :=
  (UnitsKept.onZone s i _ fun _ => .of_same rfl rfl).trans (unitsKept_startTest _ i)

/-- The hand-out makes one zone CALIBRATING, and that zone the owner, where none was. -/
theorem unitsKept_handOut (s : State) : UnitsKept s s.handOut := by
  unfold State.handOut
  split
  · exact .refl s
  · next free =>
    split
    · exact .refl s
    · next i found =>
      have eligible : s.eligible i = true := List.find?_some found
      have steady : (s.zone i).state.steady = true := (Bool.and_eq_true_iff.mp eligible).1
      refine ⟨⟨fun sound j => ?_, id, id, fun sized => State.sized_onZone (s := s.onZsv fun _ => _) sized i _⟩, id⟩
      have idle : ∀ k, (s.zone k).state ≠ .calibrating := fun k calibrating => by
        have owned := (sound k).1.mp calibrating
        rw [free] at owned
        cases owned
      let handed := s.onZsv fun v => { v with
        calQueue := v.calQueue.filter fun j => j != i
        reference := some { zone := i, kind := (s.zone i).calKind, deadline := s.clock + (s.zone i).calKind.compareTime
                            asked := false } }
      rcases State.zone_onZone_cases handed i (fun z => { z with
        state := .calibrating, ret := z.state.asReturn, settle := .stopped }) j with ⟨rfl, new⟩ | ⟨old, entry⟩
      · rw [new]
        refine ⟨⟨fun _ => rfl, fun _ => rfl⟩, fun _ => ?_⟩
        show (s.zone j).state.asReturn ≠ none
        cases state : (s.zone j).state <;> simp_all [ZoneState.steady, ZoneState.asReturn]
      · rw [old]
        refine ⟨⟨fun calibrating => absurd calibrating (idle j), fun owned => ?_⟩, fun calibrating => absurd calibrating (idle j)⟩
        have off : s.zone i = Zone.powerOn := by
          obtain rfl : i = j := Option.some.inj owned
          exact entry rfl
        rw [off] at steady
        cases steady

theorem unitsKept_startThenHandOut (s : State) : UnitsKept s s.startThenHandOut :=
  (unitsKept_startTests s).trans (unitsKept_handOut _)

theorem unitsKept_joinQueue (s : State) (i : Nat) : UnitsKept s (s.joinQueue i) :=
  .ite (fun _ => .refl s) (.of_view rfl)

theorem unitsKept_queueCalibration (s : State) (i : Nat) : UnitsKept s (s.queueCalibration i) :=
  (unitsKept_joinQueue s i).trans (unitsKept_handOut _)

/-! ## The ends of a calibration -/

theorem State.ownsReference_iff (s : State) (i : Nat) : s.ownsReference i = true ↔ s.zsv.reference.map RefOwner.zone = some i := by
  unfold State.ownsReference
  cases s.zsv.reference with
  | none => simp
  | some r => simp

/-- A zone that is shut gives up its calibration; what else is changed with it, the invariants do not read. -/
theorem unitsKept_dropCalibration {s t : State} {i : Nat} {f : Zone → Zone} (stops : (f (s.zone i)).state ≠ .calibrating)
    (shut : t.unitsView = (s.onZone i f).unitsView) (reference : t.zsv.reference = s.zsv.reference) :
    UnitsKept s (t.dropCalibration i) := by
  have same : t.zsv.reference.map RefOwner.zone = s.zsv.reference.map RefOwner.zone := congrArg _ reference
  unfold State.dropCalibration
  split
  · next owns =>
    have owner := (t.ownsReference_iff i).mp owns
    have released : (t.leaveQueue i).releaseReference.unitsView = (s.onZone i f).releaseReference.unitsView := by
      simp only [State.unitsView, Prod.mk.injEq] at shut ⊢
      obtain ⟨profiles, patterns, zones, -, rest⟩ := shut
      exact ⟨profiles, patterns, zones, rfl, rest⟩
    exact ((UnitsKept.release s i f stops fun _ => same ▸ owner).trans (.of_view released)).trans (unitsKept_startThenHandOut _)
  · next free =>
    have stopped := UnitsKept.stop s i f stops fun owner => free ((t.ownsReference_iff i).mpr (same.trans owner))
    exact stopped.trans (.of_view shut)

theorem unitsKept_faultZone (s : State) (i : Nat) (c : ZoneCause) : UnitsKept s (s.faultZone i c) :=
  .ite (fun _ => unitsKept_dropCalibration (f := fun z => { z.shut .fault with faultCause := some c })
    (show ZoneState.fault ≠ .calibrating from nofun) rfl rfl) (.refl s)

theorem unitsKept_offZone (s : State) (i : Nat) : UnitsKept s (s.offZone i) :=
  unitsKept_dropCalibration (show ZoneState.off ≠ .calibrating from nofun) rfl rfl

theorem ZoneReturn.state_ne_calibrating (k : ZoneReturn) : k.state ≠ .calibrating := by cases k <;> exact nofun

theorem State.returnZone_of_none {s : State} {i : Nat} (ret : (s.zone i).ret = none) : s.returnZone i = s := by
  rw [State.returnZone, ret]

/-- A zone in PURGING returns. -/
theorem unitsKept_returnZone {s : State} {i : Nat} (idle : (s.zone i).state ≠ .calibrating) : UnitsKept s (s.returnZone i) := by
  cases ret : (s.zone i).ret with
  | none =>
    rw [State.returnZone_of_none ret]
    exact .refl s
  | some k =>
    rw [State.returnZone_eq ret]
    exact (UnitsKept.onZone s i _ fun _ => .of_not idle k.state_ne_calibrating).trans (.onZone _ i _ fun _ => .of_same rfl rfl)

/-- The owner returns from its calibration; it has a return state (R103). -/
theorem unitsKept_returnOwner {s : State} {i : Nat} (owns : s.zsv.reference.map RefOwner.zone = some i) :
    UnitsKept s (s.releaseReference.returnZone i) := by
  cases ret : (s.zone i).ret with
  | none =>
    rw [State.returnZone_of_none (s := s.releaseReference) ret]
    exact ⟨⟨fun sound => absurd ret ((sound i).2 ((sound i).1.mpr owns)), id, id, id⟩, id⟩
  | some k =>
    rw [State.returnZone_eq (s := s.releaseReference) ret]
    exact (UnitsKept.release s i (fun z => { z with state := k.state, ret := none }) k.state_ne_calibrating fun _ => owns).trans
      (.onZone _ i _ fun _ => .of_same rfl rfl)

theorem unitsKept_requeueOwner {s : State} {i : Nat} (owns : s.zsv.reference.map RefOwner.zone = some i) :
    UnitsKept s (s.requeueOwner i) :=
  ((unitsKept_returnOwner owns).trans (unitsKept_joinQueue _ i)).trans (unitsKept_startThenHandOut _)

theorem unitsKept_completeCalibration {s : State} {i : Nat} (owns : s.zsv.reference.map RefOwner.zone = some i)
    (raw reference : Int) : UnitsKept s (s.completeCalibration i raw reference) :=
  (((UnitsKept.onZone s i _ fun _ => .of_same rfl rfl).trans (unitsKept_returnOwner owns)).trans (.raise ..)).trans
    (unitsKept_startThenHandOut _)

/-! ## Readings, notices and codes -/

theorem unitsKept_settleTest (s : State) (i : Nat) : UnitsKept s (s.settleTest i) := by
  refine .ite (fun _ => .ite (fun _ => ?_) (unitsKept_stopSettle s i)) (.refl s)
  split
  · exact .onZone s i _ fun _ => .of_same rfl rfl
  · exact .refl s

theorem unitsKept_calibrationEntry (s : State) (i : Nat) : UnitsKept s (s.calibrationEntry i) :=
  .ite (fun _ => unitsKept_queueCalibration s i) (.refl s)

theorem Zone.lowerLimit_frame (band : Nat) (z : Zone) : ∃ limit lowering,
    z.lowerLimit band = { z with limit := limit, lowering := lowering } := by
  unfold Zone.lowerLimit
  split
  · split <;> exact ⟨_, _, rfl⟩
  · exact ⟨_, _, rfl⟩

theorem unitsKept_freshReading (s : State) (i : Nat) (raw : Int) : UnitsKept s (s.freshReading i raw) := by
  have read := UnitsKept.onZone s i
    (fun z => { z with lastRaw := some raw, corrected := some (satTemp (raw + z.offset)) }) fun _ => .of_same rfl rfl
  refine .ite (fun _ => read.trans (unitsKept_faultZone ..)) ?_
  refine ((read.trans (.onZone _ i _ fun _ => ?_)).trans (unitsKept_settleTest _ i)).trans (unitsKept_calibrationEntry _ i)
  obtain ⟨limit, lowering, frame⟩ := Zone.lowerLimit_frame _ _
  rw [frame]
  exact .of_same rfl rfl

theorem unitsKept_zoneNotice (s : State) (i : Nat) (c : Condition) : UnitsKept s (s.zoneNotice i c) := by
  have gone := UnitsKept.onZone s i
    (fun z => { z with corrected := none, settle := if z.state = .warming then .stopped else z.settle }) fun _ => .of_same rfl rfl
  cases c with
  | fresh => exact .refl s
  | lost => exact gone.trans (unitsKept_faultZone ..)
  | stale | missing => exact gone

theorem unitsKept_zoneCode (s : State) (i code : Nat) : UnitsKept s (s.zoneCode i code) :=
  .ite (fun _ => unitsKept_faultZone ..) (.ite (fun _ => unitsKept_faultZone ..) (.refl s))

theorem State.owner_of_compareStands {s : State} {i : Nat} (stands : s.compareStands i = true) :
    s.zsv.reference.map RefOwner.zone = some i := by
  unfold State.compareStands at stands
  split at stands
  · next r owner =>
    rw [owner]
    exact congrArg some (beq_iff_eq.mp (Bool.and_eq_true_iff.mp stands).1)
  · cases stands

theorem unitsKept_zoneReadings (s : State) (i : Nat) (fresh : Bool) (status : Byte) (raw reference : Int) :
    UnitsKept s (s.zoneReadings i fresh status raw reference) := by
  have read : UnitsKept s (if fresh then s.freshReading i raw else s) := .ite (fun _ => unitsKept_freshReading ..) (.refl s)
  refine .ite (fun done => read.trans (unitsKept_completeCalibration ?_ ..)) read
  exact State.owner_of_compareStands (Bool.and_eq_true_iff.mp done).2

theorem unitsKept_zoneResponse (s : State) (i : Nat) (fresh : Bool) (code : Nat) (status : Byte) (raw reference : Int) :
    UnitsKept s (s.zoneResponse i fresh code status raw reference) :=
  .ite (fun _ => unitsKept_zoneReadings ..) (.ite (fun _ => unitsKept_zoneCode ..)
    (.ite (fun _ => (unitsKept_zoneCode ..).trans (unitsKept_zoneReadings ..))
      ((unitsKept_zoneReadings ..).trans (unitsKept_zoneCode ..))))

/-! ## The zone profile -/

theorem Zone.retarget_ret (p : Profile) (sp : Int) (z : Zone) : (z.retarget p sp).ret = z.ret := by
  unfold Zone.retarget
  dsimp only
  rw [apply_ite Zone.ret]
  exact ite_self _

theorem Zone.switched_calibratesAs (p : Profile) (z : Zone) : z.calibratesAs (z.switched p) := by
  unfold Zone.switched
  split
  -- OFF and FAULT; READY; WARMING; STANDBY; PURGING and CALIBRATING by their return state
  case h_1 | h_2 => exact .of_same rfl rfl
  case h_3 ready => exact .of_not (by rw [ready]; exact nofun) (show ZoneState.warming ≠ .calibrating from nofun)
  case h_4 | h_5 => exact .of_same (Zone.retarget_state ..) (Zone.retarget_ret ..)
  case h_6 | h_7 =>
    split
    · exact .of_same (Zone.retarget_state ..) (Zone.retarget_ret ..)
    · refine ⟨?_, fun _ _ => nofun⟩
      rw [Zone.retarget_state]
    · exact .of_same rfl rfl

theorem unitsKept_switchTest (s : State) : UnitsKept s s.switchTest := by
  rw [State.switchTest_eq]
  split
  · next id p _ _ =>
    refine .ite (fun _ => ?_) (.refl s)
    have named : UnitsKept s (s.onZsv fun v => { v with profile := some id }) := .of_view rfl
    refine named.trans (.foldl _ (fun u i => ?_) _ _)
    exact (UnitsKept.onZone u i _ fun _ => Zone.switched_calibratesAs ..).trans
      (.ite (fun _ => unitsKept_restartSettle _ i) (.refl _))
  · exact .refl s

/-! ## ZONE COMMAND -/

theorem unitsKept_warmZone {s : State} {i : Nat} (idle : (s.zone i).state ≠ .calibrating) : UnitsKept s (s.warmZone i) :=
  (((UnitsKept.onZone s i _ fun _ => .of_not idle (show ZoneState.warming ≠ .calibrating from nofun)).trans
    (unitsKept_takeSetpoint ..)).trans (unitsKept_restartSettle ..)).trans (unitsKept_handOut _)

theorem unitsKept_standbyZone {s : State} {i : Nat} (idle : (s.zone i).state ≠ .calibrating) :
    UnitsKept s (s.standbyZone i) :=
  (((UnitsKept.onZone s i _ fun _ => .of_not idle (show ZoneState.standby ≠ .calibrating from nofun)).trans
    (unitsKept_takeSetpoint ..)).trans (unitsKept_startTest ..)).trans (unitsKept_handOut _)

theorem unitsKept_returnToStandby (s : State) (i : Nat) : UnitsKept s (s.returnToStandby i).1 := by
  unfold State.returnToStandby
  split
  · exact .refl s
  · exact (UnitsKept.onZone s i _ fun _ => ⟨Iff.rfl, fun _ _ => Option.some_ne_none _⟩).trans (unitsKept_takeSetpoint ..)

theorem unitsKept_purgeCommand (s : State) (i : Nat) : UnitsKept s (s.purgeCommand i).1 := by
  unfold State.purgeCommand
  split
  · exact .refl s
  · exact unitsKept_pendPurge ..

theorem unitsKept_zoneAction (s : State) (a : ZoneAction) (i : Nat) : UnitsKept s (s.zoneAction a i).1 := by
  unfold State.zoneAction
  split
  -- the rows of R110's table: WARM from OFF, from STANDBY; STANDBY from WARMING or READY, from PURGING or CALIBRATING; OFF;
  -- CALIBRATE; PURGE; the others change nothing
  case h_1 off =>
    split
    · exact .refl s
    · exact unitsKept_warmZone (by rw [off]; exact nofun)
  case h_4 idle => exact unitsKept_warmZone (by rw [idle]; exact nofun)
  case h_8 idle | h_9 idle => exact unitsKept_standbyZone (by rw [idle]; exact nofun)
  case h_11 => exact unitsKept_returnToStandby s i
  case h_13 => exact unitsKept_offZone s i
  case h_17 => exact unitsKept_queueCalibration s i
  case h_21 => exact unitsKept_purgeCommand s i
  all_goals exact .refl s

theorem unitsKept_zoneActions (a : ZoneAction) (l : List Nat) (s : State) : UnitsKept s (State.zoneActions a l s).1 := by
  induction l generalizing s with
  | nil => exact .refl s
  | cons i rest ih => exact (unitsKept_zoneAction s a i).trans (ih _)

/-! ## Timers -/

theorem unitsKept_settleExpiry {s t : State} {i : Nat} (h : s.settleExpiry i = some t) : UnitsKept s t := by
  unfold State.settleExpiry at h
  split at h
  · next e warming _ =>
    cases h
    have reached := UnitsKept.reach s e
    have idle : (s.zone i).state ≠ .calibrating := by rw [warming]; exact nofun
    refine .ite (fun _ => ?_) (reached.trans (.onZone _ i _ fun _ => .of_same rfl rfl))
    exact ((reached.trans (.onZone (s.reach e) i _ fun _ => .of_not idle (show ZoneState.ready ≠ .calibrating from nofun))).trans
      (.raise ..)).trans (unitsKept_startThenHandOut _)
  · cases h

theorem unitsKept_purgeFallsDue {s t : State} {i : Nat} (h : s.purgeFallsDue i = some t) : UnitsKept s t := by
  unfold State.purgeFallsDue at h
  split at h
  · cases h
  · split at h
    · cases h
      exact (UnitsKept.reach s _).trans (unitsKept_pendPurge ..)
    · cases h

theorem unitsKept_purgeForced (s : State) (i : Nat) : UnitsKept s (s.purgeForced i) :=
  ((UnitsKept.onStr s _).trans (.raise ..)).trans (unitsKept_startThenHandOut _)

theorem unitsKept_forcePurge {s t : State} {i : Nat} (h : s.forcePurge i = some t) : UnitsKept s t := by
  have begun (f : Nat) (k : ZoneReturn) (idle : (s.zone i).state ≠ .calibrating) :
      UnitsKept s (((s.reach f).beginPurge i k).purgeForced i) :=
    ((UnitsKept.reach s f).trans (unitsKept_beginPurge (s := s.reach f) idle k)).trans (unitsKept_purgeForced ..)
  unfold State.forcePurge at h
  split at h
  · cases h
  · next f _ =>
    split at h
    · split at h
      -- WARMING, READY or STANDBY; CALIBRATING; no purge to force
      case h_1 idle | h_2 idle | h_3 idle =>
        cases h
        exact begun f _ (by rw [idle]; exact nofun)
      case h_4 calibrating =>
        cases h
        have released : UnitsKept (s.reach f) ((s.reach f).releaseReference.beginPurge i ((s.zone i).ret.getD .standby)) :=
          .release (s.reach f) i _ (show ZoneState.purging ≠ .calibrating from nofun) fun sound => (sound i).1.mp calibrating
        exact (((UnitsKept.reach s f).trans released).trans (unitsKept_joinQueue _ i)).trans (unitsKept_purgeForced ..)
      case h_5 => cases h
    · cases h

theorem unitsKept_endPurge {s t : State} {i : Nat} (h : s.endPurge i = some t) : UnitsKept s t := by
  unfold State.endPurge at h
  split at h
  · next e purging _ =>
    cases h
    have ended := UnitsKept.onZone (s.reach e) i (fun z => { z with
      purgeEnd := none, purgeDeadline := some ((s.reach e).clock + s.zsv.purgeInterval * 1000) }) fun _ => .of_same rfl rfl
    have idle := (State.view_onZone Zone.state (s.reach e) i (f := fun z => { z with
      purgeEnd := none, purgeDeadline := some ((s.reach e).clock + s.zsv.purgeInterval * 1000) }) (fun _ => rfl) i).trans purging
    exact (((UnitsKept.reach s e).trans ended).trans (unitsKept_returnZone (by rw [idle]; exact nofun))).trans (unitsKept_handOut _)
  · cases h

theorem unitsKept_compareTimeout {s t : State} (h : s.compareTimeout = some t) : UnitsKept s t := by
  unfold State.compareTimeout at h
  obtain ⟨r, owner, rfl⟩ := Option.map_eq_some_iff.mp h
  exact (UnitsKept.reach s _).trans (unitsKept_requeueOwner (s := s.reach r.deadline) (congrArg _ owner))

theorem unitsKept_calibrationFallsDue {s t : State} {i : Nat} (h : s.calibrationFallsDue i = some t) : UnitsKept s t := by
  unfold State.calibrationFallsDue at h
  obtain ⟨d, _, rfl⟩ := Option.map_eq_some_iff.mp h
  have taken := (UnitsKept.reach s d).trans (.onZone _ i (fun z => { z with calibrationDue := none }) fun _ => .of_same rfl rfl)
  exact .ite (fun _ => taken.trans (unitsKept_queueCalibration _ i)) taken

/-! ## Occupancy and LINE RESET -/

theorem unitsKept_takeOccupancy (s : State) : UnitsKept s s.takeOccupancy :=
  .foldl _ (fun u i => .onZone u i _ fun _ => .of_same rfl rfl) _ s

theorem unitsKept_handOverOccupancy (s : State) : UnitsKept s s.handOverOccupancy :=
  (unitsKept_takeOccupancy s).trans (unitsKept_startThenHandOut _)

theorem unitsKept_handOverAdvance (s : State) : UnitsKept s s.handOverAdvance := by
  have taken := unitsKept_takeOccupancy s
  unfold State.handOverAdvance
  dsimp only
  split
  · next r owner =>
    exact .ite (fun _ => taken.trans (unitsKept_requeueOwner (congrArg _ owner))) (taken.trans (unitsKept_startThenHandOut _))
  · exact taken.trans (unitsKept_startThenHandOut _)

theorem Zone.lineReset_ne_calibrating (now grace : Nat) (p : Option Profile) (z : Zone) :
    (z.lineReset now grace p).state ≠ .calibrating := by
  by_cases cold : z.state = .off ∨ z.state = .fault
  · rw [Zone.lineReset_cold cold]
    rcases cold with off | fault
    · exact fun calibrating => nomatch off.symm.trans calibrating
    · exact fun calibrating => nomatch fault.symm.trans calibrating
  · obtain ⟨off, fault⟩ := not_or.mp cold
    rw [Zone.lineReset_heating off fault]
    exact nofun

/-- The reset leaves no zone CALIBRATING and the reference free. -/
theorem unitsKept_zonesLineReset (s : State) : UnitsKept s s.zonesLineReset := by
  refine UnitsKept.trans (t := s.onZsv fun v => { v with
    calQueue := [], reference := none
    zones := v.zones.map (Zone.lineReset s.clock v.purgeGrace s.zoneProfile) }) ⟨⟨fun _ i => ?_, id, id, ?_⟩, id⟩
      (unitsKept_startTests _)
  · have reset := (s.zone_zonesReset i).symm ▸ Zone.lineReset_ne_calibrating s.clock s.zsv.purgeGrace s.zoneProfile (s.zone i)
    exact ⟨⟨fun calibrating => absurd calibrating reset, nofun⟩, fun calibrating => absurd calibrating reset⟩
  · exact fun ⟨profiles, patterns, zones, stations⟩ => ⟨profiles, patterns, (List.length_map ..).trans zones, stations⟩

end Sys2Proof.Machine
end

section
/-! SUPPORT. `UnitsKept` of the sequencer, the web, the belt and its cutter, and the report ring (R177, R180, R182). -/

namespace Sys2Proof.Machine

/-- What comes after a change of nothing that the invariants read. -/
theorem UnitsKept.after {s t u : State} (k : UnitsKept t u) (h : t.unitsView = s.unitsView) : UnitsKept s u :=
  (UnitsKept.of_view h).trans k

/-! ## The sequencer: it changes ZSV by the zone profile's test alone -/

theorem unitsKept_setMode (s : State) (m : SeqMode) : UnitsKept s (s.setMode m) := .onSeq ..

theorem unitsKept_enterHolding (s : State) (p : ReturnPoint) : UnitsKept s (s.enterHolding p) :=
  (unitsKept_setMode s _).trans (.raise ..)

theorem unitsKept_enterFault (s : State) (r : SeqFaultReason) : UnitsKept s (s.enterFault r) :=
  .ite (fun _ => .refl s) ((UnitsKept.onSeq s _).trans (.raise ..))

theorem unitsKept_toIdle (s : State) : UnitsKept s s.toIdle := .onSeq ..

theorem unitsKept_toArmed (s : State) : UnitsKept s s.toArmed :=
  .ite (fun _ => unitsKept_toIdle s) (.ite (fun _ => unitsKept_enterHolding ..) (unitsKept_setMode ..))

theorem unitsKept_removeHead (s : State) : UnitsKept s s.removeHead := (UnitsKept.onSeq s _).trans (unitsKept_switchTest _)

theorem unitsKept_headLeaves (s : State) : UnitsKept s s.headLeaves := (unitsKept_removeHead s).trans (.raise ..)

theorem unitsKept_endPanel (s : State) (reachedEnd : Bool) : UnitsKept s (s.endPanel reachedEnd) :=
  .ite (fun _ => (unitsKept_headLeaves _).after rfl) (.of_view rfl)

theorem unitsKept_endStay (s : State) : UnitsKept s s.endStay := by
  have ended := UnitsKept.onSeq s fun q => { q with chunk := none, wasteTarget := none, lastStrokeStart := none }
  exact .ite (fun _ => ended.trans (unitsKept_headLeaves _)) ended

theorem unitsKept_endWork (s : State) : UnitsKept s s.endWork :=
  .ite (fun _ => unitsKept_endPanel ..) (.ite (fun _ => unitsKept_endStay s) (.refl s))

theorem unitsKept_finishEnding (s : State) : UnitsKept s s.finishEnding := by
  have ended := (UnitsKept.onSeq s fun q => { q with ending := Ending.none }).trans (unitsKept_endWork _)
  have faulted : UnitsKept s _ :=
    UnitsKept.ite (c := s.seq.ending.webEnd = true) (fun _ => ended.trans (unitsKept_enterFault _ .webEnd)) ended
  exact .ite (fun _ => faulted.trans (unitsKept_toIdle _)) (.ite (fun _ => faulted) (faulted.trans (unitsKept_toArmed _)))

theorem unitsKept_beginFeed (s : State) (r : StepRecord) : UnitsKept s (s.beginFeed r) :=
  .ite (fun _ => .of_view rfl) (.of_view rfl)

theorem unitsKept_takeWalk (s : State) (w : WalkStop) : UnitsKept s (s.takeWalk w) := by
  cases w with
  | forming i r cs =>
    have moved := UnitsKept.onSeq s fun q => { q with
      step := none, openPanel := q.openPanel.map fun p => { p with pointer := i, counters := cs } }
    exact .ite (fun _ => moved.trans (unitsKept_enterHolding ..)) (moved.trans (unitsKept_beginFeed ..))
  | ended i => exact (unitsKept_endPanel s true).trans (unitsKept_toArmed _)
  | lost => exact (unitsKept_endPanel s false).trans (unitsKept_toArmed _)

theorem unitsKept_walkOn (s : State) : UnitsKept s s.walkOn := by
  unfold State.walkOn
  split
  · exact .refl s
  · exact unitsKept_takeWalk ..

theorem unitsKept_endRunWait (s : State) : UnitsKept s s.endRunWait := by
  unfold State.endRunWait
  split
  · exact .ite (fun _ => .ite (fun _ => .of_view rfl) (.of_view rfl)) ((unitsKept_walkOn _).after rfl)
  · exact .refl s

theorem unitsKept_foldMissed (s : State) : UnitsKept s s.foldMissed := .of_view rfl

theorem unitsKept_foldCheck (s : State) (r : StepRecord) (n : Nat) : UnitsKept s (s.foldCheck r n) := by
  have walked := (unitsKept_foldMissed s).trans (unitsKept_walkOn _)
  refine .ite (fun _ => unitsKept_walkOn s) ?_
  cases r.confirm with
  | stop => exact (unitsKept_foldMissed s).trans (unitsKept_enterFault ..)
  | retry => exact .ite (fun _ => unitsKept_setMode ..) walked
  | ignore | skip => exact walked

theorem unitsKept_lastFoldCheck (s : State) (r : StepRecord) : UnitsKept s (s.lastFoldCheck r) :=
  .ite (fun _ => .refl s) (unitsKept_foldMissed s)

theorem unitsKept_openPanelNow (s : State) : UnitsKept s s.openPanelNow := by
  unfold State.openPanelNow
  split
  · exact .refl s
  · exact (unitsKept_takeWalk ..).after rfl

theorem unitsKept_beginChunk (s : State) (target : Int) : UnitsKept s (s.beginChunk target) := by
  rw [State.beginChunk_eq]
  exact .of_view rfl

theorem unitsKept_startPanel (s : State) : UnitsKept s s.startPanel := by
  unfold State.startPanel
  split
  · exact ((UnitsKept.onFca s _).trans (.onSeq ..)).trans (unitsKept_beginChunk ..)
  · exact unitsKept_openPanelNow s

theorem unitsKept_repeatCheck (s : State) : UnitsKept s s.repeatCheck := by
  refine .ite (fun _ => (unitsKept_endStay s).trans (unitsKept_toArmed _)) ?_
  split
  · exact unitsKept_beginChunk ..
  · exact unitsKept_openPanelNow s

theorem unitsKept_endWasteWait (s : State) : UnitsKept s s.endWasteWait := by
  unfold State.endWasteWait
  split
  · exact .ite (fun _ => (unitsKept_repeatCheck _).after rfl) ((unitsKept_beginChunk ..).after rfl)
  · exact .refl s

theorem unitsKept_takeHold (s : State) : UnitsKept s s.takeHold := by
  refine .ite (fun _ => ?_) (.refl s)
  split
  case h_1 | h_2 | h_3 => exact unitsKept_enterHolding ..
  case h_4 => exact .refl s

theorem unitsKept_leaveHold (s : State) : UnitsKept s s.leaveHold := by
  refine .ite (fun _ => .refl s) ?_
  split
  case h_1 => exact unitsKept_toArmed s
  case h_2 | h_3 => exact unitsKept_setMode ..
  case h_4 =>
    split
    · exact unitsKept_beginFeed ..
    · exact .refl s
  case h_5 => exact .refl s

theorem unitsKept_waitStep (s : State) : UnitsKept s s.waitStep := by
  refine .ite (fun _ => ?_) (.refl s)
  split
  · exact unitsKept_endWasteWait s
  · exact unitsKept_endRunWait s
  · exact .refl s

theorem unitsKept_settle (s : State) : UnitsKept s s.settle :=
  (((unitsKept_takeHold s).trans (unitsKept_leaveHold _)).trans (unitsKept_waitStep _)).trans
    (.ite (fun _ => unitsKept_startPanel _) (.refl _))

/-- What an event has done, and then what SEQ does at its end. -/
theorem UnitsKept.settle {s t : State} (h : UnitsKept s t) : UnitsKept s t.settle := h.trans (unitsKept_settle t)

theorem unitsKept_webEnd (s : State) : UnitsKept s s.webEnd := by
  unfold State.webEnd
  split
  -- IDLE; a motion in progress; every other state
  case h_1 => exact .refl s
  case h_2 | h_3 | h_4 => exact .onSeq ..
  case h_5 => exact (unitsKept_endWork s).trans (unitsKept_enterFault ..)

/-! ## The web: it changes neither ZSV nor EVU -/

theorem WebOnly.unitsKept {s t : State} (h : WebOnly s t) : UnitsKept s t := by
  unfold WebOnly at h
  rw [h]
  exact .of_view rfl

theorem unitsKept_loseMark (s : State) : UnitsKept s s.loseMark := .of_view rfl

theorem unitsKept_feedAdvance (s : State) (counts : Nat) : UnitsKept s (s.feedAdvance counts) := by
  have fed := UnitsKept.onSeq s fun q => { q with feedTotal := q.feedTotal + counts, feedPort := none }
  exact UnitsKept.trans (.ite (fun _ => fed.trans (.onStr ..)) fed) (webOnly_takeAdvance _).unitsKept

/-! ## The belt -/

theorem unitsKept_cutCheck (s : State) : UnitsKept s s.cutCheck := by
  unfold State.cutCheck
  split
  · split
    · exact .onStr ..
    · exact .refl s
  · exact .refl s

theorem unitsKept_beltConsequences (s : State) : UnitsKept s s.beltConsequences :=
  (((UnitsKept.onStr s _).trans (unitsKept_handOverAdvance _)).trans (unitsKept_switchTest _)).trans (unitsKept_cutCheck _)

theorem unitsKept_beltDone {s t : State} (h : s.beltDone = some t) : UnitsKept s t := by
  unfold State.beltDone at h
  split at h
  · cases h
    exact (UnitsKept.onStr s _).trans (unitsKept_beltConsequences _)
  · cases h

theorem unitsKept_stopBelt (s : State) (moved : Nat) : UnitsKept s (s.stopBelt moved) :=
  .ite (fun _ => .onStr ..) ((UnitsKept.onStr s _).trans (unitsKept_beltConsequences _))

theorem unitsKept_guardStop (s : State) (fed moved : Nat) : UnitsKept s (s.guardStop fed moved) := by
  have cut : UnitsKept s (if s.feeding then s.feedAdvance fed else s) := .ite (fun _ => unitsKept_feedAdvance ..) (.refl s)
  exact (((cut.trans (.onSeq ..)).trans (unitsKept_stopBelt ..)).trans (unitsKept_endWork _)).trans (unitsKept_enterFault ..)

/-! ## The report ring -/

/-- `State.ringSound` of the ring alone. -/
def Evu.ringSound (e : Evu) : Prop :=
  e.slots.length = 8 ∧ e.writePos < 8 ∧ e.filled ≤ 8
    ∧ ∀ k, k < 8 → ((e.slots.getD ((e.oldest + k) % 8) none).isSome = true ↔ k < e.filled)

theorem State.ringSound_iff (s : State) : s.ringSound ↔ s.evu.ringSound := Iff.rfl

theorem getD_set_eq {α : Type} (l : List α) (i j : Nat) (a d : α) :
    (l.set i a).getD j d = if i = j ∧ j < l.length then a else l.getD j d := by
  simp only [List.getD_eq_getElem?_getD, List.getElem?_set]
  by_cases same : i = j <;> by_cases inside : j < l.length <;> simp [same, inside]

/-- The slot written is the last of the filled ones; a full ring loses its oldest. -/
theorem Evu.ringSound_write (r : Report) {e : Evu} (h : e.ringSound) : (e.write r).ringSound := by
  obtain ⟨eight, position, count, filled⟩ := h
  refine ⟨(List.length_set ..).trans eight, Nat.mod_lt _ (by decide), ?_, fun k inside => ?_⟩
  · show (if e.filled < 8 then e.filled + 1 else e.filled) ≤ 8
    split <;> omega
  · have written : ((e.write r).slots.getD (((e.write r).oldest + k) % 8) none).isSome = true
        ↔ e.writePos = ((e.write r).oldest + k) % 8 ∨ (e.slots.getD (((e.write r).oldest + k) % 8) none).isSome = true := by
      generalize place : ((e.write r).oldest + k) % 8 = j
      have bound : j < e.slots.length := by omega
      rw [Evu.write, getD_set_eq]
      by_cases here : e.writePos = j
      · simp [here, bound]
      · simp [here]
    rw [written]
    by_cases room : e.filled < 8
    · have count' : (e.write r).filled = e.filled + 1 := if_pos room
      have first : ((e.write r).oldest + k) % 8 = (e.oldest + k) % 8 := by
        simp only [Evu.oldest, count', show (e.write r).writePos = (e.writePos + 1) % 8 from rfl]
        omega
      rw [first, filled k inside, count']
      have at_end : e.writePos = (e.oldest + k) % 8 ↔ k = e.filled := by unfold Evu.oldest; omega
      omega
    · have count' : (e.write r).filled = e.filled := if_neg room
      have full : e.filled = 8 := by omega
      have next : ((e.write r).oldest + k) % 8 = (e.oldest + (k + 1) % 8) % 8 := by
        simp only [Evu.oldest, count', show (e.write r).writePos = (e.writePos + 1) % 8 from rfl]
        omega
      have stands := (filled ((k + 1) % 8) (Nat.mod_lt _ (by decide))).mpr (by omega)
      rw [next, count']
      exact ⟨fun _ => by omega, fun _ => .inr stands⟩

/-- What freeing slots leaves in a slot. -/
theorem isSome_getD_foldl_free (first n j : Nat) (l : List (Option Report)) :
    (((List.range n).foldl (fun l k => l.set ((first + k) % 8) none) l).getD j none).isSome = true
      ↔ (∀ k, k < n → (first + k) % 8 ≠ j) ∧ (l.getD j none).isSome = true := by
  induction n with
  | zero => simp
  | succ n ih =>
    rw [List.range_succ, List.foldl_append, List.foldl_cons, List.foldl_nil, getD_set_eq]
    constructor
    · split
      · exact nofun
      · next elsewhere =>
        intro standing
        obtain ⟨others, before⟩ := ih.mp standing
        refine ⟨fun k inside same => ?_, before⟩
        rcases Nat.lt_succ_iff_lt_or_eq.mp inside with earlier | rfl
        · exact others k earlier same
        · refine elsewhere ⟨same, ?_⟩
          by_contra outside
          rw [List.getD_eq_default _ _ (not_lt.mp outside)] at standing
          cases standing
    · rintro ⟨others, before⟩
      rw [if_neg fun here => others n (Nat.lt_succ_self n) here.1]
      exact ih.mpr ⟨fun k inside => others k (Nat.lt_succ_of_lt inside), before⟩

theorem length_foldl_set {α β : Type} (f : β → Nat) (a : α) (ks : List β) (l : List α) :
    (ks.foldl (fun l k => l.set (f k) a) l).length = l.length := by
  induction ks generalizing l with
  | nil => rfl
  | cons k rest ih => exact (ih _).trans (List.length_set ..)

/-- The slots freed are the oldest ones. -/
theorem Evu.ringSound_release {n : Nat} {e : Evu} (h : e.ringSound) (enough : n ≤ e.filled) : (e.release n).ringSound := by
  obtain ⟨eight, position, count, filled⟩ := h
  refine ⟨(length_foldl_set ..).trans eight, position, (Nat.sub_le ..).trans count, fun k inside => ?_⟩
  have first : ((e.release n).oldest + k) % 8 = (e.oldest + (n + k) % 8) % 8 := by
    simp only [Evu.oldest, Evu.release]
    omega
  show (((List.range n).foldl (fun l k => l.set ((e.oldest + k) % 8) none) e.slots).getD _ none).isSome = true ↔ k < e.filled - n
  rw [isSome_getD_foldl_free, first, filled _ (Nat.mod_lt _ (by decide))]
  constructor
  · rintro ⟨kept, standing⟩
    have later := kept ((n + k) % 8)
    have here : ((n + k) % 8 < n → False) := fun freed => later freed rfl
    omega
  · intro standing
    exact ⟨fun j freed same => by omega, by omega⟩

theorem UnitsKept.onEvu (s : State) (f : Evu → Evu) (h : s.evu.ringSound → (f s.evu).ringSound) : UnitsKept s (s.onEvu f) :=
  ⟨⟨id, id, h, id⟩, id⟩

theorem unitsKept_writeReport (s : State) (r : Report) : UnitsKept s (s.writeReport r) := by
  have written : UnitsKept s (s.onEvu (Evu.write r)) := .onEvu s _ (Evu.ringSound_write r)
  exact .ite (fun _ => written.trans (.raise ..)) ((written.trans (.raise ..)).trans (.raise ..))

theorem unitsKept_cutDone {s t : State} (h : s.cutDone = some t) : UnitsKept s t := by
  unfold State.cutDone at h
  split at h
  · cases h
    exact (UnitsKept.onStr s _).trans (unitsKept_cutCheck _)
  · cases h
    have finished (g : Segment) : UnitsKept s (s.finishSegment g) := (unitsKept_writeReport s _).trans (.onStr ..)
    exact (((finished _).trans (unitsKept_handOverOccupancy _)).trans (unitsKept_switchTest _)).trans (unitsKept_cutCheck _)
  · cases h

end Sys2Proof.Machine
end

section
/-! SUPPORT. `UnitsKept` of the rolls and of the stations. An unwind becomes ACTIVE by START UNWIND, which wants none ACTIVE, and by
CUT, where the old one is spent (R138, R143, R151); a station's misses follow the threshold (R167, R172). -/

namespace Sys2Proof.Machine

/-! ## The rolls -/

theorem UnitsKept.onRcu (s : State) (f : Rcu → Rcu) (h : s.oneActive → (s.onRcu f).oneActive) : UnitsKept s (s.onRcu f) :=
  ⟨⟨id, h, id, id⟩, id⟩

/-- An unwind that is not ACTIVE does not become so. -/
theorem UnitsKept.onUnwind (s : State) (u : UnwindId) (f : Unwind → Unwind)
    (h : (f (s.rcu.unwind u)).state = .active → (s.rcu.unwind u).state = .active) : UnitsKept s (s.onUnwind u f) := by
  refine .onRcu s _ fun ⟨one, between⟩ => ?_
  cases u with
  | a => exact ⟨fun ⟨a, b⟩ => one ⟨h a, b⟩, between⟩
  | b => exact ⟨fun ⟨a, b⟩ => one ⟨a, h b⟩, between⟩

theorem Unwind.spend_ne_active (u : Unwind) : u.spend.state ≠ .active := by
  unfold Unwind.spend
  split
  · exact nofun
  · next idle => exact idle

theorem unitsKept_spend (s : State) (u : UnwindId) : UnitsKept s (s.onUnwind u Unwind.spend) :=
  .onUnwind s u _ fun active => absurd active (Unwind.spend_ne_active _)

theorem unitsKept_toEmpty (s : State) (u : UnwindId) : UnitsKept s (s.onUnwind u Unwind.toEmpty) := .onUnwind s u _ nofun

theorem unitsKept_endChange (s : State) (o : ChangeOutcome) (cause : Option ChangeCause) : UnitsKept s (s.endChange o cause) :=
  .onRcu s _ fun ⟨one, _⟩ => ⟨one, nofun⟩

theorem unitsKept_enterPhase (s : State) (p : ChangePhase) : UnitsKept s (s.enterPhase p) := by
  refine .onRcu s _ fun ⟨one, between⟩ => ⟨one, fun c changes => ?_⟩
  obtain ⟨d, standing, rfl⟩ := Option.map_eq_some_iff.mp changes
  exact between d standing

theorem UnwindId.ne_other (u : UnwindId) : u ≠ u.other := by cases u <;> exact nofun

theorem unitsKept_startChange (s : State) (automatic : Bool) : UnitsKept s (s.startChange automatic) := by
  unfold State.startChange
  split
  · exact .refl s
  · next u _ =>
    exact .onRcu s _ fun ⟨one, _⟩ => ⟨one, fun c changes => by cases changes; exact u.ne_other⟩

theorem unitsKept_addRoll (s : State) : UnitsKept s s.addRoll := .onSeq ..

theorem unitsKept_revertChange (s : State) (c : Change) (cause : ChangeCause) : UnitsKept s (s.revertChange c cause) := by
  have held : UnitsKept s (if s.restartable c.old then s else s.addRoll) := .ite (fun _ => .refl s) (unitsKept_addRoll s)
  exact (held.trans (unitsKept_endChange ..)).trans (.raise ..)

theorem unitsKept_failChange (s : State) (cause : ChangeCause) : UnitsKept s (s.failChange cause) :=
  ((unitsKept_addRoll s).trans (unitsKept_endChange ..)).trans (.raise ..)

theorem unitsKept_breakChange (s : State) (cause : ChangeCause) : UnitsKept s (s.breakChange cause) := by
  unfold State.breakChange
  split
  · exact .refl s
  · exact .ite (fun _ => unitsKept_revertChange ..) (unitsKept_failChange ..)

theorem unitsKept_activeRollEnd (s : State) (u : UnwindId) : UnitsKept s (s.activeRollEnd u) := by
  unfold State.activeRollEnd
  split
  · exact unitsKept_webEnd s
  · exact .ite
      (fun _ => .ite (fun _ => ((unitsKept_endChange s _ _).trans (.raise ..)).trans (unitsKept_webEnd _)) (.refl s))
      (.ite (fun _ => (unitsKept_failChange ..).trans (unitsKept_webEnd _)) (.refl s))

theorem unitsKept_rollEnd (s : State) (u : UnwindId) : UnitsKept s (s.rollEnd u) :=
  .ite (fun _ => unitsKept_activeRollEnd ..) (.refl s)

theorem unitsKept_standbyRemoved (s : State) (u : UnwindId) : UnitsKept s (s.standbyRemoved u) := by
  unfold State.standbyRemoved
  split
  · exact .ite (fun _ => unitsKept_breakChange ..) (.refl s)
  · exact .refl s

theorem unitsKept_rollRemoved (s : State) (u : UnwindId) : UnitsKept s (s.rollRemoved u) := by
  unfold State.rollRemoved
  split
  -- EMPTY; LOADED or SPENT; READY; ACTIVE
  case h_1 => exact .refl s
  case h_2 | h_3 => exact unitsKept_toEmpty ..
  case h_4 => exact (unitsKept_standbyRemoved ..).trans (unitsKept_toEmpty ..)
  case h_5 => exact unitsKept_rollEnd ..

theorem unitsKept_unwindCode (s : State) (u : UnwindId) (code : Nat) : UnitsKept s (s.unwindCode u code) :=
  .ite (fun _ => .ite (fun _ => .onUnwind s u _ nofun) (.refl s))
    (.ite (fun _ => unitsKept_rollRemoved ..) (.ite (fun _ => unitsKept_rollEnd ..) (.refl s)))

theorem unitsKept_unwindNotice (s : State) (u : UnwindId) (c : Condition) : UnitsKept s (s.unwindNotice u c) := by
  have gone := UnitsKept.onUnwind s u (fun x => { x with runState := none }) id
  cases c with
  | fresh => exact .refl s
  | lost => exact gone.trans (unitsKept_breakChange ..)
  | stale | missing => exact gone

theorem unitsKept_unwindStatus (s : State) (u : UnwindId) (rs : RunState) : UnitsKept s (s.unwindStatus u rs) := by
  have taken := UnitsKept.onUnwind s u (fun x => { x with runState := some rs }) id
  unfold State.unwindStatus
  dsimp only
  split
  · exact taken
  · exact .ite (fun _ => taken.trans (unitsKept_enterPhase ..))
      (.ite (fun _ => (taken.trans (unitsKept_endChange ..)).trans (.raise ..)) taken)

theorem unitsKept_tryAuto (s : State) (u : UnwindId) : UnitsKept s (s.tryAuto u) := by
  unfold State.tryAuto
  split
  · exact (unitsKept_startChange ..).trans (.onUnwind _ u _ id)
  · exact .ite (fun _ => .refl s) ((UnitsKept.onUnwind s u _ id).trans (.raise ..))

theorem unitsKept_unwindReading (s : State) (u : UnwindId) (remaining : Nat) : UnitsKept s (s.unwindReading u remaining) := by
  have taken := UnitsKept.onUnwind s u (fun x => { x with remaining := some remaining }) id
  exact .ite (fun _ => .ite (fun _ => taken.trans (unitsKept_tryAuto ..)) taken) (.refl s)

theorem unitsKept_unwindResponse (s : State) (u : UnwindId) (fresh : Bool) (rs : RunState) (newCode : Option Nat)
    (remaining : Nat) : UnitsKept s (s.unwindResponse u fresh rs newCode remaining) := by
  have read (t : State) : UnitsKept t (if fresh then t.unwindReading u remaining else t) :=
    .ite (fun _ => unitsKept_unwindReading ..) (.refl t)
  cases newCode with
  | none => exact (unitsKept_unwindStatus s u rs).trans (read _)
  | some code => exact ((unitsKept_unwindStatus s u rs).trans (unitsKept_unwindCode ..)).trans (read _)

/-- CUT: the old unwind is spent before the new one becomes ACTIVE. -/
theorem unitsKept_cutComplete {s : State} {c : Change} (changes : s.rcu.change = some c) : UnitsKept s (s.cutComplete c) := by
  refine UnitsKept.trans (t := (s.onUnwind c.old Unwind.spend).onUnwind c.new Unwind.toActive) ?_ (unitsKept_enterPhase ..)
  refine ⟨⟨id, fun ⟨_, between⟩ => ?_, id, id⟩, id⟩
  have distinct : c.old ≠ c.new := between c changes
  obtain ⟨phase, old, new, deadline, automatic⟩ := c
  cases old <;> cases new
  case a.a | b.b => exact absurd rfl distinct
  case a.b => exact ⟨fun both => Unwind.spend_ne_active _ both.1, between⟩
  case b.a => exact ⟨fun both => Unwind.spend_ne_active _ both.2, between⟩

theorem unitsKept_tableStatus (s : State) (st : TableStatus) : UnitsKept s (s.tableStatus st) := by
  unfold State.tableStatus
  split
  · exact .refl s
  · next changes =>
    split
    · exact (webOnly_makeSplice s _).unitsKept.trans (unitsKept_enterPhase ..)
    · exact unitsKept_cutComplete changes
    · exact .refl s

theorem unitsKept_tableResponse (s : State) (st : TableStatus) (code : Nat) : UnitsKept s (s.tableResponse st code) :=
  .ite (fun _ => (unitsKept_tableStatus ..).trans (unitsKept_breakChange ..)) (unitsKept_tableStatus ..)

theorem unitsKept_accumulatorNotice (s : State) (c : Condition) : UnitsKept s (s.accumulatorNotice c) :=
  .ite (fun _ => (unitsKept_breakChange ..).after rfl) (.of_view rfl)

theorem unitsKept_deliverTension (s : State) (tension : Nat) : UnitsKept s (s.deliverTension tension) := by
  unfold State.deliverTension
  split
  · exact .refl s
  · exact .onFca ..

theorem unitsKept_fillingTest (s : State) (stock : Nat) : UnitsKept s (s.fillingTest stock) := by
  unfold State.fillingTest
  split
  · exact .ite (fun _ => unitsKept_enterPhase ..) (.refl s)
  · exact .refl s

theorem unitsKept_accumulatorReading (s : State) (stock tension : Nat) : UnitsKept s (s.accumulatorReading stock tension) := by
  have stored (t : State) (f : Rcu → Rcu) (h : (t.onRcu f).unitsView = t.unitsView) : UnitsKept t (t.onRcu f) := .of_view h
  exact (((stored s _ rfl).trans (unitsKept_deliverTension ..)).trans (stored _ _ rfl)).trans (unitsKept_fillingTest ..)

theorem unitsKept_rollsLineReset (s : State) : UnitsKept s s.rollsLineReset := by
  have spent (t : State) (f : Rcu → Rcu) (h : (t.onRcu f).unitsView = t.unitsView) : UnitsKept t (t.onRcu f).spendUnwinds :=
    ((unitsKept_spend _ .a).trans (unitsKept_spend _ .b)).after h
  unfold State.rollsLineReset
  dsimp only
  split
  · exact UnitsKept.trans (.ite (fun _ => (unitsKept_endChange s _ _).trans (.raise ..)) (.refl s)) (spent _ _ rfl)
  · exact spent _ _ rfl

theorem Rcu.activeUnwind_eq_none {r : Rcu} (h : r.activeUnwind = none) (u : UnwindId) : (r.unwind u).state ≠ .active := by
  unfold Rcu.activeUnwind at h
  split at h
  · cases h
  · next idleA =>
    split at h
    · cases h
    · next idleB => cases u with
      | a => exact idleA
      | b => exact idleB

/-- START UNWIND makes an unwind ACTIVE where none is. -/
theorem unitsKept_startUnwind {s : State} {u : UnwindId} (passed : ¬s.startRefused u = true) : UnitsKept s (s.startUnwind u) := by
  have idle : s.rcu.activeUnwind = none := by
    cases active : s.rcu.activeUnwind with
    | none => rfl
    | some v => simp [State.startRefused, active] at passed
  have none := Rcu.activeUnwind_eq_none idle
  refine UnitsKept.trans (t := s.onUnwind u Unwind.toActive) ?_ (.onWtr ..)
  refine .onRcu s _ fun ⟨_, between⟩ => ?_
  cases u with
  | a => exact ⟨fun both => none .b both.2, between⟩
  | b => exact ⟨fun both => none .a both.1, between⟩

/-! ## The stations -/

/-- A record as the threshold `th` allows it (R167). -/
def Station.within (th : Nat) (st : Station) : Prop := st.misses ≤ th ∧ (st.state = .lost ↔ st.misses = th)

theorem State.stationsSound_iff (s : State) : s.stationsSound ↔ s.slm.stations.length = 16 ∧ 1 ≤ s.slm.lossThreshold
    ∧ ∀ st ∈ s.slm.stations, st.within s.slm.lossThreshold := Iff.rfl

theorem Station.within_of_online {th : Nat} {st : Station} (low : 1 ≤ th) (online : st.state = .online) (none : st.misses = 0) :
    st.within th := by
  rw [Station.within, online, none]
  exact ⟨Nat.zero_le th, nofun, fun zero => by omega⟩

theorem Station.within_miss {th : Nat} {st : Station} (crc : Bool) (h : st.within th) : (st.miss th crc).within th := by
  unfold Station.miss
  dsimp only
  split
  · exact h
  · split
    · next below => exact ⟨below.le, nofun, fun same => absurd same below.ne⟩
    · exact ⟨le_refl th, fun _ => rfl, fun _ => rfl⟩

theorem Station.within_good {th : Nat} {st : Station} (r : Response) (low : 1 ≤ th) (h : st.within th) :
    (st.good r).within th := by
  have answered : st.answered.within th := by
    unfold Station.answered
    split
    · split
      · exact h
      · exact Station.within_of_online low rfl rfl
    · exact Station.within_of_online low rfl rfl
  have renewed : (st.answered.renew r.renewal).within th := by
    unfold Station.renew
    split <;> exact answered
  exact renewed

/-- Under a new threshold each record is one that it allows, whatever it was. -/
theorem Station.within_underThreshold {th : Nat} (low : 1 ≤ th) (st : Station) : (st.underThreshold th).within th := by
  unfold Station.underThreshold
  split
  · next lost => exact ⟨le_refl th, fun _ => rfl, fun _ => lost⟩
  · next missing =>
    split
    · exact ⟨le_refl th, fun _ => rfl, fun _ => rfl⟩
    · next below =>
      refine ⟨by omega, fun lost => ?_, fun same => by omega⟩
      rw [missing] at lost
      cases lost
  · next online => exact Station.within_of_online low online rfl

theorem mem_modifyAt {α : Type} {l : List α} {n : Nat} {f : α → α} {a : α} (h : a ∈ modifyAt l n f) :
    a ∈ l ∨ ∃ b ∈ l, a = f b := by
  cases n with
  | zero => exact .inl h
  | succ k =>
    obtain ⟨j, _, rfl⟩ := List.mem_iff_getElem.mp (show a ∈ l.modify k f from h)
    rw [List.getElem_modify]
    split
    · exact .inr ⟨_, List.getElem_mem _, rfl⟩
    · exact .inl (List.getElem_mem _)

/-- A station's record changes to one that the threshold allows. -/
theorem UnitsKept.onStation (s : State) (n : Nat) (f : Station → Station)
    (h : ∀ st, 1 ≤ s.slm.lossThreshold → st.within s.slm.lossThreshold → (f st).within s.slm.lossThreshold) :
    UnitsKept s (s.onStation n f) := by
  have size : (s.onStation n f).slm.stations.length = s.slm.stations.length := length_modifyAt ..
  refine ⟨⟨id, id, id, fun ⟨profiles, patterns, zones, stations⟩ => ⟨profiles, patterns, zones, size.trans stations⟩⟩, ?_⟩
  rintro ⟨sixteen, low, within⟩
  refine ⟨size.trans sixteen, low, fun st member => ?_⟩
  rcases mem_modifyAt member with old | ⟨before, old, rfl⟩
  · exact within st old
  · exact h before low (within before old)

theorem unitsKept_notifyOwner (s : State) (n : Nat) (c : Condition) : UnitsKept s (s.notifyOwner n c) := by
  unfold State.notifyOwner
  split
  · exact .ite (fun _ => unitsKept_zoneNotice ..) (.refl s)
  · exact unitsKept_unwindNotice ..
  · exact .ite (fun _ => unitsKept_breakChange ..) (.refl s)
  · exact unitsKept_accumulatorNotice ..
  · exact .refl s

theorem unitsKept_noticeIfChanged (s : State) (n : Nat) (before : Condition) : UnitsKept s (s.noticeIfChanged n before) :=
  .ite (fun _ => .refl s) (unitsKept_notifyOwner ..)

theorem unitsKept_deliver (s : State) (n : Nat) (r : Response) (newCode : Option Nat) :
    UnitsKept s (s.deliver n r newCode) := by
  unfold State.deliver
  dsimp only
  split
  · exact .ite (fun _ => unitsKept_zoneResponse ..) (.refl s)
  · exact unitsKept_unwindResponse ..
  · exact unitsKept_tableResponse ..
  · exact .ite (fun _ => unitsKept_accumulatorReading ..) (.refl s)
  · exact .refl s

theorem unitsKept_queueRequest (s : State) (n code : Nat) : UnitsKept s (s.queueRequest n code) :=
  .ite (fun _ => .of_view rfl) (.of_view rfl)

theorem unitsKept_goodResponse (s : State) (n : Nat) (r : Response) : UnitsKept s (s.goodResponse n r) := by
  have booked := UnitsKept.onStation s n (Station.good r) fun st low within => st.within_good r low within
  exact ((UnitsKept.trans (.ite (fun _ => booked.trans (unitsKept_queueRequest ..)) booked)
    (unitsKept_noticeIfChanged ..)).trans (unitsKept_deliver ..)).trans (.onStation _ n _ fun _ _ within => within)

theorem unitsKept_stationMiss (s : State) (n : Nat) (crc : Bool) : UnitsKept s (s.stationMiss n crc) := by
  have booked := UnitsKept.onStation s n (Station.miss s.slm.lossThreshold crc) fun st _ within => st.within_miss crc within
  exact UnitsKept.trans (.ite (fun _ => booked.trans (.raise ..)) booked) (unitsKept_noticeIfChanged ..)

theorem unitsKept_sendPoll (s : State) : UnitsKept s s.sendPoll := by
  unfold State.sendPoll
  split
  · exact .of_view rfl
  · refine .of_view ?_
    simp only [State.unitsView, State.onZsv_zsv, Zsv.ask_owner]
    rfl

theorem unitsKept_startCycle (s : State) : UnitsKept s s.startCycle := (unitsKept_sendPoll _).after rfl

theorem unitsKept_endCycle (s : State) : UnitsKept s s.endCycle := by
  unfold State.endCycle
  dsimp only
  split
  · exact (unitsKept_sendPoll _).after rfl
  · exact (unitsKept_startCycle _).after rfl
  · exact .ite (fun _ => (unitsKept_sendPoll _).after rfl) ((unitsKept_startCycle _).after rfl)

theorem unitsKept_nextPoll (s : State) : UnitsKept s s.nextPoll :=
  .ite (fun _ => (unitsKept_endCycle _).after rfl) ((unitsKept_sendPoll _).after rfl)

/-! ## The loss threshold -/

theorem ownersKept_rethreshold (th : Nat) (s : State) (n : Nat) : OwnersKept s (s.rethreshold th n) := by
  have counted : OwnersKept s (s.onStation n (Station.underThreshold th)) :=
    ⟨id, id, id, fun ⟨profiles, patterns, zones, stations⟩ => ⟨profiles, patterns, zones, (length_modifyAt ..).trans stations⟩⟩
  unfold State.rethreshold
  dsimp only
  split
  · exact (counted.trans (UnitsKept.raise ..).toOwnersKept).trans (unitsKept_notifyOwner ..).toOwnersKept
  · exact counted

theorem State.rethreshold_slm (th : Nat) (s : State) (n : Nat) : (s.rethreshold th n).slm =
    { s.slm with stations := modifyAt s.slm.stations n (Station.underThreshold th) } := by
  unfold State.rethreshold
  dsimp only
  split
  · rw [(unitsOnly_notifyOwner ..).slm, State.raise_slm]
    rfl
  · rfl

theorem State.foldl_rethreshold_slm (th : Nat) (l : List Nat) (s : State) : (l.foldl (State.rethreshold th) s).slm =
    { s.slm with stations := l.foldl (fun m n => modifyAt m n (Station.underThreshold th)) s.slm.stations } := by
  induction l generalizing s with
  | nil => rfl
  | cons n rest ih => rw [List.foldl_cons, ih, State.rethreshold_slm, List.foldl_cons]

/-- Changing the entries 1, 2, …, `n` of a list of `n` entries changes each of them once. -/
theorem foldl_modifyAt_eq_map {α : Type} (f : α → α) (l : List α) :
    (List.range' 1 l.length).foldl (fun m n => modifyAt m n f) l = l.map f := by
  have part (k j : Nat) : ((List.range' 1 k).foldl (fun m n => modifyAt m n f) l)[j]? =
      if j < k then l[j]?.map f else l[j]? := by
    induction k with
    | zero => rfl
    | succ k ih =>
      rw [List.range'_concat, List.foldl_append, List.foldl_cons, List.foldl_nil, one_mul, Nat.add_comm 1 k]
      show (List.modify _ k f)[j]? = _
      rw [List.getElem?_modify, ih]
      by_cases same : k = j
      · subst same
        simp
      · have shift : j < k + 1 ↔ j < k := by omega
        simp [same, shift]
  refine List.ext_getElem? fun j => ?_
  rw [part, List.getElem?_map]
  split
  · rfl
  · next outside => rw [List.getElem?_eq_none (not_lt.mp outside)]; rfl

theorem ownersKept_changeThreshold (s : State) (th : Nat) : OwnersKept s (s.changeThreshold th) := by
  have fold (l : List Nat) (t : State) : OwnersKept t (l.foldl (State.rethreshold th) t) := by
    induction l generalizing t with
    | nil => exact .refl t
    | cons n rest ih => exact (ownersKept_rethreshold th t n).trans (ih _)
  unfold State.changeThreshold
  split
  · exact .refl s
  · exact OwnersKept.trans (t := s.onSlm fun m => { m with lossThreshold := th }) ⟨id, id, id, id⟩ (fold _ _)

theorem unitsKept_changeThreshold (s : State) {th : Nat} (low : 1 ≤ th) : UnitsKept s (s.changeThreshold th) := by
  refine ⟨ownersKept_changeThreshold s th, fun sound => ?_⟩
  unfold State.changeThreshold
  split
  · exact sound
  · obtain ⟨sixteen, _, _⟩ := sound
    have all := foldl_modifyAt_eq_map (Station.underThreshold th) s.slm.stations
    rw [sixteen] at all
    rw [State.stationsSound_iff, State.foldl_rethreshold_slm]
    simp only [State.onSlm_slm, all]
    refine ⟨(List.length_map ..).trans sixteen, low, fun st member => ?_⟩
    obtain ⟨before, _, rfl⟩ := List.mem_map.mp member
    exact before.within_underThreshold low

theorem unitsKept_setScan (s : State) (mode : ScanMode) {last threshold window : Nat}
    (inRange : scanInRange last threshold window = true) : UnitsKept s (s.setScan mode last threshold window) := by
  obtain ⟨_, _, low, _⟩ := of_decide_eq_true inRange
  have stored : UnitsKept (s.changeThreshold threshold) ((s.changeThreshold threshold).onSlm fun m =>
    { m with mode := mode, lastStation := last, window := window }) := .of_view rfl
  have settled := ((unitsKept_changeThreshold s low).trans stored).settle
  unfold State.setScan
  dsimp only
  split
  · exact settled.trans (unitsKept_startCycle _)
  · exact settled

end Sys2Proof.Machine
end

section
/-! SUPPORT. `UnitsKept` of every request and every event, and O60, the step of the five invariants. -/

namespace Sys2Proof.Machine

/-! ## The rules of the requests -/

theorem UnitsKept.check {s : State} {c : Prop} [Decidable c] {reply : List Byte} {r : State × List Byte}
    (h : ¬c → UnitsKept s r.1) : UnitsKept s (if c then (s, reply) else r).1 := by
  split
  · exact .refl s
  · next passed => exact h passed

theorem UnitsKept.answer {s t : State} (h : UnitsKept s t) {reply : List Byte} : UnitsKept s (t, reply).1 := h

theorem unitsKept_handleReadStatus (p : List Byte) (s : State) : UnitsKept s (handleReadStatus p s).1 := by
  refine .check fun _ => ?_
  split
  · exact .refl s
  · exact .ite (fun _ => .of_view rfl) (.of_view rfl)

/-- The size of the tables is all that the Pattern Store's requests have to keep. -/
theorem UnitsKept.onPst (s : State) (f : Pst → Pst) (profiles : (f s.pst).profiles.length = s.pst.profiles.length)
    (patterns : (f s.pst).patterns.length = s.pst.patterns.length) : UnitsKept s (s.onPst f) := by
  refine .of_view ?_
  simp only [State.unitsView, State.onPst_pst, profiles, patterns]
  rfl

theorem unitsKept_setProfile (s : State) (id : Nat) (q : Profile) : UnitsKept s (s.onPst fun p => p.setProfile id q) :=
  .onPst s _ (length_modifyAt ..) rfl

theorem unitsKept_setPattern (s : State) (id : Nat) (f : Pst → PatternEntry) :
    UnitsKept s (s.onPst fun p => p.setPattern id (f p)) :=
  .onPst s _ rfl (length_modifyAt ..)

theorem unitsKept_handleLoadProfile (p : List Byte) (s : State) : UnitsKept s (handleLoadProfile p s).1 :=
  .check fun _ => .check fun _ => .check fun _ => .check fun _ => unitsKept_setProfile ..

theorem unitsKept_handleOpenPattern (p : List Byte) (s : State) : UnitsKept s (handleOpenPattern p s).1 :=
  .check fun _ => .check fun _ => .check fun _ => .check fun _ => unitsKept_setPattern s _ fun _ => _

theorem unitsKept_handleLoadSteps (p : List Byte) (s : State) : UnitsKept s (handleLoadSteps p s).1 := by
  refine .check fun _ => .check fun _ => .check fun _ => ?_
  split
  · exact .refl s
  · exact .check fun _ => unitsKept_setPattern s _ fun _ => _

theorem unitsKept_handleClosePattern (p : List Byte) (s : State) : UnitsKept s (handleClosePattern p s).1 :=
  .check fun _ => .check fun _ => .check fun _ => unitsKept_setPattern s _ (PatternEntry.closed · _)

theorem unitsKept_handleDeletePattern (p : List Byte) (s : State) : UnitsKept s (handleDeletePattern p s).1 :=
  .check fun _ => .check fun _ => .check fun _ => unitsKept_setPattern s _ fun _ => _

theorem unitsKept_handleQueueJob (p : List Byte) (s : State) : UnitsKept s (handleQueueJob p s).1 := by
  refine .check fun _ => .check fun _ => .check fun _ => .check fun _ => ?_
  split
  · exact .refl s
  · refine .check fun _ => .check fun _ => ?_
    dsimp only
    split
    · exact (unitsKept_switchTest _).after rfl
    · exact .onSeq ..

theorem unitsKept_handleReadStations (p : List Byte) (s : State) : UnitsKept s (handleReadStations p s).1 := by
  refine .check fun _ => ?_
  split
  · exact .refl s
  · refine .ite (fun _ => ?_) (.refl s)
    have size : (s.slm.stations.map Station.clearCounters).length = s.slm.stations.length := List.length_map ..
    refine ⟨⟨id, id, id, fun ⟨profiles, patterns, zones, stations⟩ => ⟨profiles, patterns, zones, size.trans stations⟩⟩, ?_⟩
    rintro ⟨sixteen, low, within⟩
    refine ⟨size.trans sixteen, low, fun st member => ?_⟩
    obtain ⟨before, old, rfl⟩ := List.mem_map.mp member
    exact within before old

theorem unitsKept_handleReadReports (p : List Byte) (s : State) : UnitsKept s (handleReadReports p s).1 := by
  refine .check fun _ => ?_
  split
  · exact .refl s
  · exact .ite (fun _ => .of_view rfl) (.refl s)

theorem unitsKept_growOpenMark (s : State) : UnitsKept s s.growOpenMark := (webOnly_growOpenMark s).unitsKept

theorem unitsKept_handleConfigureLine (p : List Byte) (s : State) : UnitsKept s (handleConfigureLine p s).1 := by
  refine .check fun _ => .check fun _ => .check fun _ => ?_
  split
  · exact .refl s
  · have stored : UnitsKept s { s with line := some (LineConfig.ofBytes p) } := .of_view rfl
    exact ((stored.trans (unitsKept_growOpenMark _)).trans (unitsKept_handOverOccupancy _)).trans (.useFree _)

theorem unitsKept_handleConfigureRolls (p : List Byte) (s : State) : UnitsKept s (handleConfigureRolls p s).1 := by
  refine .check fun _ => ?_
  split
  · exact .refl s
  · exact .check fun _ => .answer (.onRcu s _ id)

theorem unitsKept_markHeadCancelled (s : State) : UnitsKept s s.markHeadCancelled := .onSeq ..

theorem unitsKept_cancelHead (s : State) : UnitsKept s s.cancelHead := by
  have cancelled := unitsKept_markHeadCancelled s
  refine .ite (fun _ => cancelled) ?_
  split
  · exact cancelled
  · exact (cancelled.trans (unitsKept_endStay _)).trans (unitsKept_toArmed _)
  · exact (cancelled.trans (unitsKept_endStay _)).trans (unitsKept_setMode ..)
  · exact .ite (fun _ => (unitsKept_removeHead s).trans (unitsKept_toIdle _)) (unitsKept_removeHead s)

theorem unitsKept_handleCancelJob (p : List Byte) (s : State) : UnitsKept s (handleCancelJob p s).1 := by
  refine .check fun _ => .check fun _ => ?_
  split
  · exact (unitsKept_cancelHead s).settle
  · exact .answer (.onSeq ..)

theorem unitsKept_handleSetPace (p : List Byte) (s : State) : UnitsKept s (handleSetPace p s).1 := by
  refine .check fun _ => .check fun _ => ?_
  split
  · exact .refl s
  · exact .check fun _ => .answer (.onSeq ..)

theorem unitsKept_handleGo (p : List Byte) (s : State) : UnitsKept s (handleGo p s).1 :=
  .check fun _ => .check fun _ => ((UnitsKept.onSeq s _).trans (unitsKept_toArmed _)).settle

theorem unitsKept_handleHold (p : List Byte) (s : State) : UnitsKept s (handleHold p s).1 :=
  .check fun _ => (UnitsKept.onSeq s _).settle

theorem unitsKept_leaveFault (s : State) : UnitsKept s s.leaveFault :=
  .ite (fun _ => unitsKept_walkOn s) (unitsKept_toArmed s)

theorem unitsKept_handleResume (p : List Byte) (s : State) : UnitsKept s (handleResume p s).1 := by
  have released : UnitsKept s s.releaseHolds := .onSeq ..
  refine .check fun _ => .check fun _ => ?_
  split
  · exact (released.trans (unitsKept_leaveFault _)).settle
  · exact released.settle

theorem unitsKept_abortPanel (s : State) : UnitsKept s s.abortPanel := by
  unfold State.abortPanel
  split
  -- a motion in progress, a WAIT, HOLDING, FAULT, IDLE or ARMED
  case h_1 | h_2 | h_3 => exact .onSeq ..
  case h_4 | h_5 => exact (unitsKept_endWork s).trans (unitsKept_toArmed _)
  case h_6 => exact (unitsKept_endPanel s false).trans (unitsKept_setMode ..)
  case h_7 => exact unitsKept_endPanel s false
  case h_8 => exact .refl s

theorem unitsKept_stopLine (s : State) : UnitsKept s s.stopLine := by
  unfold State.stopLine
  split
  -- IDLE, a motion in progress, every other state
  case h_1 => exact .refl s
  case h_2 | h_3 | h_4 => exact .onSeq ..
  case h_5 => exact (unitsKept_endWork s).trans (unitsKept_toIdle _)

theorem unitsKept_enterRegion (s : State) (r : Mark) : UnitsKept s (s.enterRegion r) := (webOnly_enterRegion s r).unitsKept

theorem unitsKept_handleReportDefect (p : List Byte) (s : State) : UnitsKept s (handleReportDefect p s).1 := by
  refine .check fun _ => .check fun _ => .check fun _ => .check fun _ => ?_
  split
  · exact unitsKept_loseMark s
  · exact (unitsKept_enterRegion ..).trans (.useFree _)

theorem unitsKept_handleZoneCommand (p : List Byte) (s : State) : UnitsKept s (handleZoneCommand p s).1 := by
  refine .check fun _ => ?_
  split
  · exact .refl s
  · exact .check fun _ => .check fun _ => (unitsKept_zoneActions _ _ s).settle

theorem unitsKept_handleDeclareRoll (p : List Byte) (s : State) : UnitsKept s (handleDeclareRoll p s).1 := by
  refine .check fun _ => ?_
  split
  · exact .refl s
  · exact .check fun _ => .check fun _ => .check fun _ => .onUnwind s _ _ nofun

theorem unitsKept_handleStartUnwind (p : List Byte) (s : State) : UnitsKept s (handleStartUnwind p s).1 := by
  refine .check fun _ => ?_
  split
  · exact .refl s
  · exact .check unitsKept_startUnwind

theorem unitsKept_handleChangeRoll (p : List Byte) (s : State) : UnitsKept s (handleChangeRoll p s).1 := by
  refine .check fun _ => ?_
  split
  · exact .refl s
  · exact unitsKept_startChange s false

theorem unitsKept_handleAbortChange (p : List Byte) (s : State) : UnitsKept s (handleAbortChange p s).1 := by
  refine .check fun _ => ?_
  split
  · exact .refl s
  · split
    · exact (unitsKept_revertChange ..).settle
    · exact .refl s

theorem unitsKept_handleSetScan (p : List Byte) (s : State) : UnitsKept s (handleSetScan p s).1 := by
  refine .check fun _ => ?_
  split
  · exact .refl s
  · refine .check fun outside => .check fun _ => .check fun _ => unitsKept_setScan s _ ?_
    simpa using outside

theorem unitsKept_handleReleaseReports (p : List Byte) (s : State) : UnitsKept s (handleReleaseReports p s).1 :=
  .check fun _ => .check fun _ => .check fun enough => .check fun _ =>
    .onEvu s _ fun sound => Evu.ringSound_release sound (not_lt.mp enough)

theorem unitsKept_handleLineReset (p : List Byte) (s : State) : UnitsKept s (handleLineReset p s).1 := by
  have blocks : UnitsKept s ((((s.onSeq Seq.lineReset).onFca fun _ => Fca.powerOn).onWtr Wtr.lineReset).onStr Str.lineReset) :=
    .of_view rfl
  exact .check fun _ => (blocks.trans (unitsKept_zonesLineReset _)).trans (unitsKept_rollsLineReset _)

/-! ## A request frame -/

theorem unitsKept_pushReply (s : State) (kind : Byte) (tag : BitVec 16) (reply : List Byte) :
    UnitsKept s (s.pushReply kind tag reply) := by
  refine .of_view ?_
  simp [State.unitsView]

theorem unitsKept_restartSilence (s : State) : UnitsKept s s.restartSilence := .onHlp ..

/-- A request frame is discarded, refused or judged by its rule: the units stay sound when its rule keeps them so. -/
theorem unitsKept_hostRequest {h : List Byte → State → State × List Byte} (keeps : ∀ p s, UnitsKept s (h p s).1)
    (kind : Byte) (a : Availability) (tag : BitVec 16) (p : List Byte) (s : State) :
    UnitsKept s (hostRequest kind a h tag p s) := by
  have restarted := unitsKept_restartSilence s
  refine .ite (fun _ => .of_view rfl) (.ite (fun _ => restarted.trans (unitsKept_pushReply ..)) ?_)
  exact (restarted.trans (keeps p _)).trans (unitsKept_pushReply ..)

/-- Whatever next state `o` answers, the units are sound in it where they were in `s`. -/
structure UnitsStaySound (s : State) (o : Host.Outcome State Fault Refusal) : Prop where
  of_next : ∀ t, o = .next t → UnitsKept s t

theorem UnitsKept.stays {s t : State} (h : UnitsKept s t) : UnitsStaySound s (.next t) :=
  ⟨fun _ same => by cases same; exact h⟩

/-- A change that keeps the units sound, and then what `o` answers. -/
theorem UnitsKept.then_stays {s t : State} {o : Host.Outcome State Fault Refusal} (h : UnitsKept s t)
    (k : UnitsStaySound t o) : UnitsStaySound s o :=
  ⟨fun u next => h.trans (k.of_next u next)⟩

theorem UnitsKept.request {h : List Byte → State → State × List Byte} (keeps : ∀ p s, UnitsKept s (h p s).1)
    (kind : Byte) (a : Availability) (tag : BitVec 16) (p : List Byte) (s : State) :
    UnitsStaySound s (.next (hostRequest kind a h tag p s)) :=
  (unitsKept_hostRequest keeps kind a tag p s).stays

/-! ## The events -/

theorem unitsStaySound_powerOnReset (a b g d : Bool) (s : State) : UnitsStaySound s (exec (.powerOnReset a b g d) s) := by
  rw [exec_powerOnReset]
  have fresh : UnitsKept s (State.powerOn a b g d) :=
    ⟨⟨fun _ => referenceSound_powerOn a b g d, fun _ => ⟨fun both => (nomatch both.1), nofun⟩,
      fun _ => ringSound_powerOn a b g d, fun _ => ⟨rfl, rfl, rfl, rfl⟩⟩, fun _ => stationsSound_powerOn a b g d⟩
  exact (fresh.trans (.of_view (t := { State.powerOn a b g d with pending := s.pending, freeCtr := s.freeCtr }) rfl)).stays

theorem unitsKept_beginNotice (s : State) : UnitsKept s s.beginNotice := .of_view rfl
theorem unitsKept_beginReply (s : State) : UnitsKept s s.beginReply := .onHlp ..
theorem unitsKept_countCrcError (s : State) : UnitsKept s s.countCrcError := .onHlp ..

theorem unitsStaySound_replyEnd (s : State) : UnitsStaySound s (execReplyEnd s) := by
  refine UnitsKept.stays ?_
  split
  · have freed := UnitsKept.onHlp s fun h => { h with buffer := h.buffer.tail }
    exact .ite (fun _ => freed.trans (unitsKept_beginNotice _)) (freed.trans (unitsKept_beginReply _))
  · exact .refl s

theorem unitsStaySound_noticeBegin (s : State) : UnitsStaySound s (execNoticeBegin s) := by
  refine UnitsKept.stays ?_
  split
  · exact .ite (fun _ => unitsKept_beginNotice s) (.refl s)
  · exact .refl s

theorem unitsStaySound_noticeEnd (s : State) : UnitsStaySound s (execNoticeEnd s) := by
  have begun := unitsKept_beginReply s
  refine UnitsKept.stays ?_
  split
  · dsimp only
    split
    · exact .ite (fun _ => begun.trans (unitsKept_beginNotice _)) begun
    · exact begun
  · exact .refl s

theorem unitsStaySound_silenceTimeout (s : State) : UnitsStaySound s (execSilenceTimeout s) := by
  refine UnitsKept.stays ?_
  split
  · exact .refl s
  · next e _ =>
    have restarted := (UnitsKept.reach s e).trans (unitsKept_restartSilence _)
    exact .ite (fun _ => restarted) ((restarted.trans (.raise ..)).trans (.onSeq ..)).settle

theorem unitsStaySound_markEdge (edge : Edge) (s : State) : UnitsStaySound s (execMarkEdge edge s) :=
  UnitsKept.stays (.ite (fun _ => .ite (fun _ => unitsKept_startPanel s) (.of_view rfl)) (.refl s))

theorem unitsStaySound_paceExpiry (s : State) : UnitsStaySound s (execPaceExpiry s) := by
  refine UnitsKept.stays ?_
  split
  · exact .refl s
  · exact .ite (fun _ => (unitsKept_startPanel _).after rfl) (.of_view rfl)

theorem unitsStaySound_guardOpen (fed moved : Nat) (s : State) : UnitsStaySound s (execGuardOpen fed moved s) := by
  have opened := UnitsKept.onSeq s fun q => { q with guardIsOpen := true }
  exact UnitsKept.stays (UnitsKept.ite (fun _ => opened) ((opened.trans (unitsKept_guardStop _ fed moved)).trans (.useFree _)))

/-- The feed's end: an ending that waited for it, the end of the stay of a cancelled job, or the WAIT. -/
theorem unitsStaySound_feedDone (s : State) : UnitsStaySound s (execFeedDone s) := by
  refine UnitsKept.stays ?_
  split
  · exact .refl s
  · next c _ =>
    have advanced := unitsKept_feedAdvance s c
    refine UnitsKept.trans (UnitsKept.settle (.ite (fun _ => ?_) (.ite (fun _ => .ite (fun _ => ?_) ?_) ?_))) (.useFree _)
    · exact advanced.trans (unitsKept_finishEnding _)
    · exact advanced.trans ((unitsKept_endStay _).trans (unitsKept_toArmed _))
    · exact advanced.trans (unitsKept_setMode ..)
    · exact advanced.trans (unitsKept_setMode ..)

theorem unitsStaySound_strokeDone (s : State) : UnitsStaySound s (execStrokeDone s) := by
  refine UnitsKept.stays ?_
  split
  · next r _ _ =>
    have rested := UnitsKept.onSeq s fun q => { q with bladePort := none }
    refine UnitsKept.settle (.ite (fun _ => ?_) ?_)
    · exact rested.trans ((unitsKept_lastFoldCheck _ r).trans (unitsKept_finishEnding _))
    · exact rested.trans (unitsKept_foldCheck ..)
  · exact .refl s

theorem unitsStaySound_defectActiveEdge (s : State) : UnitsStaySound s (execDefectActiveEdge s) :=
  UnitsKept.stays (.ite (fun _ => (unitsKept_loseMark _).after rfl) ((unitsKept_enterRegion ..).after rfl))

theorem unitsStaySound_defectInactiveEdge (s : State) : UnitsStaySound s (execDefectInactiveEdge s) :=
  UnitsKept.stays (.ite (fun _ => .of_view rfl) (.ite (fun _ => .of_view rfl) (.of_view rfl)))

/-- An event that does not arise changes nothing; one that arises is followed by what SEQ does. -/
theorem unitsStaySound_thenSettle {s : State} {o : Option State} (h : ∀ t, o = some t → UnitsKept s t) :
    UnitsStaySound s (.next (s.thenSettle o)) := by
  cases o with
  | none => exact (UnitsKept.refl s).stays
  | some t => exact (h t rfl).settle.stays

theorem unitsStaySound_phaseDeadline (s : State) : UnitsStaySound s (execPhaseDeadline s) := by
  refine UnitsKept.stays ?_
  split
  · exact .refl s
  · exact ((UnitsKept.reach s _).trans (unitsKept_breakChange ..)).settle

theorem unitsStaySound_stationResponse (bytes : List Byte) (s : State) : UnitsStaySound s (execStationResponse bytes s) := by
  refine UnitsKept.stays ?_
  split
  · exact .refl s
  · refine ((UnitsKept.settle ?_).trans (unitsKept_nextPoll _)).trans (.useFree _)
    split
    · exact unitsKept_goodResponse ..
    · exact unitsKept_stationMiss ..
    · exact unitsKept_stationMiss ..

theorem unitsStaySound_responseWindowExpiry (s : State) : UnitsStaySound s (execResponseWindowExpiry s) := by
  refine UnitsKept.stays ?_
  split
  · exact .refl s
  · exact (unitsKept_stationMiss ..).settle.trans (unitsKept_nextPoll _)

/-! ## Every command, and a step -/

theorem unitsStaySound_exec (c : Instr) (s : State) : UnitsStaySound s (exec c s) := by
  cases c with
  | powerOnReset a b g d => exact unitsStaySound_powerOnReset a b g d s
  | lineReset tag p => exact UnitsKept.request unitsKept_handleLineReset ..
  | identify tag p => exact UnitsKept.request (fun _ t => .check fun _ => .refl t) ..
  | readStatus tag p => exact UnitsKept.request unitsKept_handleReadStatus ..
  | configureLine tag p => exact UnitsKept.request unitsKept_handleConfigureLine ..
  | configureZones tag p => exact UnitsKept.request (fun _ _ => .check fun _ => .check fun _ => .of_view rfl) ..
  | configureRolls tag p => exact UnitsKept.request unitsKept_handleConfigureRolls ..
  | configureLink tag p => exact UnitsKept.request (fun _ _ => .check fun _ => .check fun _ => .of_view rfl) ..
  | loadProfile tag p => exact UnitsKept.request unitsKept_handleLoadProfile ..
  | readProfile tag p => exact UnitsKept.request (fun _ t => .check fun _ => .check fun _ => .refl t) ..
  | openPattern tag p => exact UnitsKept.request unitsKept_handleOpenPattern ..
  | loadSteps tag p => exact UnitsKept.request unitsKept_handleLoadSteps ..
  | closePattern tag p => exact UnitsKept.request unitsKept_handleClosePattern ..
  | deletePattern tag p => exact UnitsKept.request unitsKept_handleDeletePattern ..
  | readSteps tag p => exact UnitsKept.request (fun _ t => .check fun _ => .check fun _ => .refl t) ..
  | queueJob tag p => exact UnitsKept.request unitsKept_handleQueueJob ..
  | cancelJob tag p => exact UnitsKept.request unitsKept_handleCancelJob ..
  | readJobs tag p => exact UnitsKept.request (fun _ t => .check fun _ => .refl t) ..
  | setPace tag p => exact UnitsKept.request unitsKept_handleSetPace ..
  | go tag p => exact UnitsKept.request unitsKept_handleGo ..
  | hold tag p => exact UnitsKept.request unitsKept_handleHold ..
  | resume tag p => exact UnitsKept.request unitsKept_handleResume ..
  | abortPanel tag p => exact UnitsKept.request (fun _ s => .check fun _ => .check fun _ => (unitsKept_abortPanel s).settle) ..
  | stopLine tag p => exact UnitsKept.request (fun _ s => .check fun _ => unitsKept_stopLine s) ..
  | reportDefect tag p => exact UnitsKept.request unitsKept_handleReportDefect ..
  | readMarks tag p => exact UnitsKept.request (fun _ t => .check fun _ => .check fun _ => .refl t) ..
  | readSegments tag p => exact UnitsKept.request (fun _ t => .check fun _ => .check fun _ => .refl t) ..
  | zoneCommand tag p => exact UnitsKept.request unitsKept_handleZoneCommand ..
  | readZones tag p => exact UnitsKept.request (fun _ t => .check fun _ => .refl t) ..
  | declareRoll tag p => exact UnitsKept.request unitsKept_handleDeclareRoll ..
  | startUnwind tag p => exact UnitsKept.request unitsKept_handleStartUnwind ..
  | changeRoll tag p => exact UnitsKept.request unitsKept_handleChangeRoll ..
  | abortChange tag p => exact UnitsKept.request unitsKept_handleAbortChange ..
  | readRolls tag p => exact UnitsKept.request (fun _ t => .check fun _ => .refl t) ..
  | setScan tag p => exact UnitsKept.request unitsKept_handleSetScan ..
  | readStations tag p => exact UnitsKept.request unitsKept_handleReadStations ..
  | takeRequests tag p => exact UnitsKept.request (fun _ _ => .check fun _ => .check fun _ => .of_view rfl) ..
  | readReports tag p => exact UnitsKept.request unitsKept_handleReadReports ..
  | releaseReports tag p => exact UnitsKept.request unitsKept_handleReleaseReports ..
  | takeEvents tag p => exact UnitsKept.request (fun _ _ => .check fun _ => .of_view rfl) ..
  | setNotices tag p => exact UnitsKept.request (fun _ _ => .check fun _ => .of_view rfl) ..
  | unknownKindRequest kind tag p => exact UnitsKept.request (h := fun _ t => (t, statusOnly .unknown)) (fun _ t => .refl t) ..
  | strayFrame => exact UnitsKept.stays (UnitsKept.of_view (s := s) rfl)
  | linkOverrun => exact UnitsKept.stays (UnitsKept.ite (fun _ => .of_view rfl) (.refl s))
  | frameCrcError => exact (unitsKept_countCrcError s).stays
  | frameLengthError => exact (unitsKept_countCrcError s).stays
  | interByteGap => exact (unitsKept_countCrcError s).stays
  | missingStopBit inFrame => exact UnitsKept.stays (UnitsKept.ite (fun _ => unitsKept_countCrcError s) (.refl s))
  | replyEnd => exact unitsStaySound_replyEnd s
  | noticeBegin => exact unitsStaySound_noticeBegin s
  | silenceTimeout => exact unitsStaySound_silenceTimeout s
  | markEdge edge => exact unitsStaySound_markEdge edge s
  | paceExpiry => exact unitsStaySound_paceExpiry s
  | foldEdge edge => exact UnitsKept.stays (UnitsKept.ite (fun _ => .onSeq ..) (.refl s))
  | guardOpen fed moved => exact unitsStaySound_guardOpen fed moved s
  | guardClose => exact UnitsKept.stays (UnitsKept.onSeq s _)
  | feedDone => exact unitsStaySound_feedDone s
  | strokeDone => exact unitsStaySound_strokeDone s
  | waitEnd => exact UnitsKept.stays (UnitsKept.ite (fun _ => (UnitsKept.reach s _).settle) (.refl s))
  | wasteWaitEnd => exact UnitsKept.stays (UnitsKept.ite (fun _ => (UnitsKept.reach s _).settle) (.refl s))
  | defectActiveEdge => exact unitsStaySound_defectActiveEdge s
  | defectInactiveEdge => exact unitsStaySound_defectInactiveEdge s
  | beltDone => exact unitsStaySound_thenSettle fun _ => unitsKept_beltDone
  | cutDone => exact unitsStaySound_thenSettle fun _ => unitsKept_cutDone
  | settleExpiry zone => exact unitsStaySound_thenSettle fun _ => unitsKept_settleExpiry
  | purgeDeadline zone => exact unitsStaySound_thenSettle fun _ => unitsKept_purgeFallsDue
  | forceTime zone => exact unitsStaySound_thenSettle fun _ => unitsKept_forcePurge
  | purgeEndTime zone => exact unitsStaySound_thenSettle fun _ => unitsKept_endPurge
  | compareDeadline => exact unitsStaySound_thenSettle fun _ => unitsKept_compareTimeout
  | calibrationDue zone => exact unitsStaySound_thenSettle fun _ => unitsKept_calibrationFallsDue
  | phaseDeadline => exact unitsStaySound_phaseDeadline s
  | stationResponse bytes => exact unitsStaySound_stationResponse bytes s
  | responseWindowExpiry => exact unitsStaySound_responseWindowExpiry s
  | noticeEnd => exact unitsStaySound_noticeEnd s

theorem unitsStaySound_tick (s : State) : UnitsStaySound s s.tick := by
  unfold State.tick
  split
  · exact UnitsKept.stays (UnitsKept.of_view (s := s) (t := { s with clock := s.clock + 1 }) rfl)
  · exact unitsStaySound_exec ..
  · exact (UnitsKept.useFree s).then_stays (unitsStaySound_exec ..)

theorem unitsStaySound_step (s : State) : UnitsStaySound s (step s) := by
  cases waiting : s.pending with
  | nil =>
    rw [step_of_empty waiting]
    exact unitsStaySound_tick s
  | cons c rest =>
    rw [step_of_front waiting]
    exact (UnitsKept.of_view (s := s) (t := { s with pending := rest }) rfl).then_stays (unitsStaySound_exec ..)

/-- Settles O60: a step is a command's or the clock's, and each keeps every unit sound. -/
theorem stepKeepsUnitsSound : Obligations.StepKeepsUnitsSound := by
  intro s t next
  obtain ⟨⟨reference, rolls, ring, tables⟩, stations⟩ := (unitsStaySound_step s).of_next t next
  exact ⟨reference, rolls, stations, ring, tables⟩

end Sys2Proof.Machine
end

section
/-! SUPPORT. Updates of one zone of the table: two in a row, and what an update reads of the zone alone. -/

namespace Sys2Proof.Machine

theorem modifyAt_congr {α : Type} {l : List α} {n : Nat} {f g : α → α} (h : ∀ a, entryAt l n = some a → f a = g a) :
    modifyAt l n f = modifyAt l n g := by
  cases n with
  | zero => rfl
  | succ k =>
    refine List.ext_getElem? fun j => ?_
    show (l.modify k f)[j]? = (l.modify k g)[j]?
    rw [List.getElem?_modify, List.getElem?_modify]
    by_cases same : k = j
    · subst same
      cases found : l[k]? with
      | none => rfl
      | some a => simp [h a found]
    · simp [same]

theorem modifyAt_modifyAt {α : Type} (l : List α) (n : Nat) (f g : α → α) :
    modifyAt (modifyAt l n f) n g = modifyAt l n fun a => g (f a) := by
  cases n with
  | zero => rfl
  | succ k =>
    refine List.ext_getElem? fun j => ?_
    show ((l.modify k f).modify k g)[j]? = (l.modify k _)[j]?
    rw [List.getElem?_modify, List.getElem?_modify, List.getElem?_modify]
    by_cases same : k = j <;> cases l[j]? <;> simp [same]

/-- Two updates that make the same of zone `i` as it stands are one. -/
theorem State.onZone_congr {s : State} {i : Nat} {f g : Zone → Zone} (h : f (s.zone i) = g (s.zone i)) :
    s.onZone i f = s.onZone i g := by
  have same : modifyAt s.zsv.zones i f = modifyAt s.zsv.zones i g := by
    refine modifyAt_congr fun a found => ?_
    have entry : s.zone i = a := by rw [State.zone, found]; rfl
    rwa [entry] at h
  show s.onZsv (fun v => { v with zones := modifyAt v.zones i f }) = _
  show ({ s with zsv := { s.zsv with zones := modifyAt s.zsv.zones i f } } : State) = _
  rw [same]
  rfl

theorem State.onZone_onZone (s : State) (i : Nat) (f g : Zone → Zone) :
    (s.onZone i f).onZone i g = s.onZone i fun z => g (f z) := by
  show ({ s with zsv := { s.zsv with zones := modifyAt (modifyAt s.zsv.zones i f) i g } } : State) = _
  rw [modifyAt_modifyAt]
  rfl

/-- An update that leaves zone `i` as it stands changes nothing. -/
theorem State.onZone_of_fixes {s : State} {i : Nat} {f : Zone → Zone} (h : f (s.zone i) = s.zone i) : s.onZone i f = s :=
  (State.onZone_congr (g := fun z => z) h).trans (s.onZone_id i)

/-- An update that leaves the zone of power-on reaches every number alike. -/
theorem State.zone_onZone_of_fixes {f : Zone → Zone} (h : f Zone.powerOn = Zone.powerOn) (s : State) (i : Nat) :
    (s.onZone i f).zone i = f (s.zone i) := by
  by_cases entry : 1 ≤ i ∧ i ≤ s.zsv.zones.length
  · exact s.zone_onZone_same f entry.1 entry.2
  · rw [State.onZone_of_fixes (f := f) (by rw [s.zone_of_no_entry entry, h]), s.zone_of_no_entry entry, h]

/-- Inside the band follows whether the zone heats, its corrected temperature and its setpoint (R108). -/
theorem Zone.inside_eq (z : Zone) (fresh : Bool) (band : Nat) : z.inside fresh band = (z.state.heating &&
    match z.corrected, z.setpoint with
    | some c, some sp => fresh && decide (c - sp ≤ band ∧ sp - c ≤ band)
    | _, _ => false) := by
  unfold Zone.inside
  cases z.state <;> cases z.corrected <;> cases z.setpoint <;> rfl

theorem Zone.inside_iff {z : Zone} (heats : z.state.heating = true) (fresh : Bool) (band : Nat) :
    z.inside fresh band = true ↔ fresh = true ∧ ∃ c sp : Int, z.corrected = some c ∧ z.setpoint = some sp
      ∧ c - sp ≤ band ∧ sp - c ≤ band := by
  rw [Zone.inside_eq, heats, Bool.true_and]
  cases z.corrected with
  | none => simp
  | some c =>
    cases z.setpoint with
    | none => simp
    | some sp => simp

end Sys2Proof.Machine
end

section
/-! SUPPORT. The switch of the zone profile (R105, R106, R107, R113): when it is due, and what it makes of each zone. Settles O49. -/

namespace Sys2Proof.Machine

/-! ## When it is due -/

theorem State.switchDue_iff (s : State) (id : Nat) : s.switchDue id = true ↔ s.zsv.profile ≠ some id
    ∧ ∀ g ∈ s.str.segments, s.zsv.profile = some g.profileId →
        ∃ b1, g.b1 = some b1 ∧ b1 + s.entryDistance + s.tunnel ≤ s.str.belt := by
  have left (g : Segment) : s.stillToLeave g = false ↔ ∃ b1, g.b1 = some b1 ∧ b1 + s.entryDistance + s.tunnel ≤ s.str.belt := by
    unfold State.stillToLeave
    cases g.b1 <;> simp
  simp only [State.switchDue, Bool.and_eq_true, decide_eq_true_eq, Bool.not_eq_true', List.any_eq_false, Bool.and_eq_true,
    beq_iff_eq, not_and, Bool.not_eq_true, left, eq_comm (a := s.zsv.profile) (b := some _)]

/-! ## What it makes of one zone -/

/-- What the switch makes of a zone with the settle timer in it: `fresh` and `band` say what is inside the band, `due` when a
timer started now runs off. -/
def Zone.switchedTo (p : Profile) (fresh : Bool) (band due : Nat) (z : Zone) : Zone :=
  { z.switched p with
    settle := if (z.switched p).state = .warming then
        if (z.switched p).inside fresh band then .running due else .stopped
      else (z.switched p).settle }

theorem ZoneTableOnly.insideBand {s t : State} (h : ZoneTableOnly s t) (i : Nat) :
    t.insideBand i = (t.zone i).inside (s.stationFresh i) s.band := by
  unfold ZoneTableOnly at h
  unfold State.insideBand
  rw [h]
  rfl

theorem zoneTableOnly_restartIfWarming (s : State) (i : Nat) : ZoneTableOnly s (s.restartIfWarming i) := by
  unfold State.restartIfWarming
  split
  · exact .onZone s i _
  · exact .refl s

theorem zoneTableOnly_switchZone (p : Profile) (s : State) (i : Nat) : ZoneTableOnly s (State.switchZone p s i) :=
  (ZoneTableOnly.onZone s i _).trans (zoneTableOnly_restartIfWarming _ i)

theorem State.zone_switchZone_same (p : Profile) (s : State) (i : Nat) : (State.switchZone p s i).zone i =
    (s.zone i).switchedTo p (s.stationFresh i) s.band (s.clock + s.zsv.settleTime) := by
  have moved : (s.onZone i (Zone.switched p)).zone i = (s.zone i).switched p := State.zone_onZone_of_fixes (by rfl) s i
  unfold State.switchZone State.restartIfWarming
  rw [moved]
  split
  · next warming =>
    obtain ⟨low, high⟩ := (s.onZone i (Zone.switched p)).entry_of_zone_ne (i := i) fun off => by
      rw [moved] at off
      rw [off] at warming
      cases warming
    rw [State.restartSettle, State.zone_onZone_same _ _ low high, (ZoneTableOnly.onZone s i _).insideBand, moved,
      Zone.switchedTo, if_pos warming]
    rfl
  · next other => rw [moved, Zone.switchedTo, if_neg other]

theorem State.zone_switchZone_other (p : Profile) (s : State) {i j : Nat} (other : j ≠ i) :
    (State.switchZone p s i).zone j = s.zone j := by
  have moved : (s.onZone i (Zone.switched p)).zone j = s.zone j := s.zone_onZone_other _ other
  unfold State.switchZone State.restartIfWarming
  split
  · exact (State.zone_onZone_other _ _ other).trans moved
  · exact moved

theorem zoneTableOnly_foldl_switchZone (p : Profile) (l : List Nat) (s : State) :
    ZoneTableOnly s (l.foldl (State.switchZone p) s) := by
  induction l generalizing s with
  | nil => exact .refl s
  | cons i rest ih => exact (zoneTableOnly_switchZone p s i).trans (ih _)

theorem ZoneTableOnly.settleTime {s t : State} (h : ZoneTableOnly s t) : t.zsv.settleTime = s.zsv.settleTime := by
  unfold ZoneTableOnly at h
  rw [h]

theorem ZoneTableOnly.stationFresh {s t : State} (h : ZoneTableOnly s t) (i : Nat) : t.stationFresh i = s.stationFresh i := by
  unfold ZoneTableOnly at h
  rw [h]
  rfl

theorem ZoneTableOnly.band {s t : State} (h : ZoneTableOnly s t) : t.band = s.band := by
  unfold ZoneTableOnly at h
  rw [h]
  rfl

/-- Each zone named once is switched, and the others stand. -/
theorem State.zone_foldl_switchZone (p : Profile) {l : List Nat} (once : l.Nodup) (s : State) (j : Nat) :
    (l.foldl (State.switchZone p) s).zone j = if j ∈ l
      then (s.zone j).switchedTo p (s.stationFresh j) s.band (s.clock + s.zsv.settleTime) else s.zone j := by
  induction l generalizing s with
  | nil => rfl
  | cons i rest ih =>
    obtain ⟨fresh, once⟩ := List.nodup_cons.mp once
    have table := zoneTableOnly_switchZone p s i
    rw [List.foldl_cons, ih once, table.clock, table.settleTime, table.stationFresh, table.band]
    by_cases same : j = i
    · subst same
      rw [if_neg fresh, if_pos List.mem_cons_self, State.zone_switchZone_same]
    · rw [State.zone_switchZone_other p s same]
      simp [same]

/-! ## The setpoint and the limit of each state (R106, R107) -/

theorem Zone.retarget_frame (p : Profile) (sp : Int) (z : Zone) : z.retarget p sp = { z with
    setpoint := (z.retarget p sp).setpoint, limit := (z.retarget p sp).limit, lowering := (z.retarget p sp).lowering } := by
  unfold Zone.retarget
  dsimp only
  split_ifs <;> rfl

section OneZone
variable (p : Profile) (fresh : Bool) (band due : Nat) {z : Zone}

/-- The zone `z` with the setpoint, the limit and the lowering of `new`. -/
def Zone.aimedAs (z new : Zone) : Zone :=
  { z with setpoint := new.setpoint, limit := new.limit, lowering := new.lowering }

theorem Zone.switchedTo_of_cold (cold : z.state = .off ∨ z.state = .fault) : z.switchedTo p fresh band due = z := by
  have same : z.switched p = z := by
    unfold Zone.switched
    rcases cold with state | state <;> rw [state]
  rw [Zone.switchedTo, same, if_neg]
  rcases cold with state | state <;> rw [state] <;> exact nofun

theorem Zone.switchedTo_of_warm (warm : z.state = .warming ∨ z.state = .ready) :
    z.aimed p p.setTemp (z.switchedTo p fresh band due)
    ∧ z.switchedTo p fresh band due = { z.aimedAs (z.switchedTo p fresh band due) with
        state := .warming
        settle := if (z.switchedTo p fresh band due).inside fresh band then .running due else .stopped } := by
  have switched : z.switched p = { z.retarget p p.setTemp with state := .warming } := by
    unfold Zone.switched
    rcases warm with state | state <;> rw [state]
    · dsimp only
      rw [← state, ← z.retarget_state p]
      rfl
    · rfl
  have inside : (z.switchedTo p fresh band due).inside fresh band = (z.switched p).inside fresh band := rfl
  rw [inside]
  unfold Zone.switchedTo Zone.aimedAs
  rw [if_pos (by rw [switched]), switched, z.retarget_frame p]
  exact ⟨z.aimed_retarget p p.setTemp, rfl⟩

theorem Zone.switchedTo_of_standby
    (low : z.state = .standby ∨ (z.state = .purging ∨ z.state = .calibrating) ∧ z.ret = some .standby) :
    z.aimed p ((p.setTemp : Int) - p.standbyDrop) (z.switchedTo p fresh band due)
    ∧ z.switchedTo p fresh band due = z.aimedAs (z.switchedTo p fresh band due) := by
  have switched : z.switched p = z.retarget p ((p.setTemp : Int) - p.standbyDrop) := by
    unfold Zone.switched
    rcases low with state | ⟨state | state, ret⟩ <;> rw [state]
    · rfl
    all_goals dsimp only; rw [ret]; rfl
  have other : (z.switched p).state ≠ .warming := by
    rw [switched, Zone.retarget_state]
    rcases low with state | ⟨state | state, _⟩ <;> rw [state] <;> exact nofun
  unfold Zone.switchedTo Zone.aimedAs
  rw [if_neg other, switched, z.retarget_frame p]
  exact ⟨z.aimed_retarget p _, rfl⟩

theorem Zone.switchedTo_of_held (held : z.state = .purging ∨ z.state = .calibrating)
    (warm : z.ret = some .warming ∨ z.ret = some .ready) :
    z.aimed p p.setTemp (z.switchedTo p fresh band due)
    ∧ z.switchedTo p fresh band due = { z.aimedAs (z.switchedTo p fresh band due) with ret := some .warming } := by
  have switched : z.switched p = { z.retarget p p.setTemp with ret := some .warming } := by
    unfold Zone.switched
    rcases held with state | state <;> rcases warm with ret | ret <;> rw [state] <;> dsimp only <;> rw [ret] <;> rfl
  have other : (z.switched p).state ≠ .warming := by
    rw [switched]
    show (z.retarget p p.setTemp).state ≠ .warming
    rw [Zone.retarget_state]
    rcases held with state | state <;> rw [state] <;> exact nofun
  unfold Zone.switchedTo Zone.aimedAs
  rw [if_neg other, switched, z.retarget_frame p]
  exact ⟨z.aimed_retarget p _, rfl⟩

end OneZone

/-! ## The switch -/

theorem State.switchTest_of_due {s : State} {id : Nat} {p : Profile} (head : s.headJobProfileId = some id)
    (loaded : s.pst.profile id = some p) : s.switchTest = if s.switchDue id then s.switchZones id p else s := by
  have profile : s.headJobProfile = some p := by rw [State.headJobProfile, head, Option.bind_some, loaded]
  rw [State.switchTest_eq, head, profile]

theorem State.switchTest_of_no_profile {s : State} (none : ∀ id, s.headJobProfileId = some id → s.pst.profile id = none) :
    s.switchTest = s := by
  have profile : s.headJobProfile = .none := Option.bind_eq_none_iff.mpr none
  rw [State.switchTest_eq, profile]
  cases s.headJobProfileId <;> rfl

/-- Settles O49: the switch test is a fold over the zones 1..Z, each of which takes what its state or return state calls for. -/
theorem profileSwitches : Obligations.ProfileSwitches := by
  intro s
  refine ⟨State.switchTest_of_no_profile, fun id p head loaded => ?_⟩
  have test := State.switchTest_of_due head loaded
  refine ⟨fun standing => ?_, fun due => ?_⟩
  · rw [test, if_neg fun passed => standing ((s.switchDue_iff id).mp passed)]
  · have switched : s.switchTest = s.switchZones id p := by rw [test, if_pos ((s.switchDue_iff id).mpr due)]
    dsimp only
    rw [switched]
    have table : ZoneTableOnly (s.onZsv fun v => { v with profile := some id }) (s.switchZones id p) :=
      zoneTableOnly_foldl_switchZone p s.zoneNumbers _
    have zone (i : Nat) := State.zone_foldl_switchZone p (l := s.zoneNumbers) List.nodup_range'
      (s.onZsv fun v => { v with profile := some id }) i
    refine ⟨table, fun i outside => ?_, fun i low high => ?_⟩
    · exact (zone i).trans (if_neg (mt (s.mem_zoneNumbers i).mp outside))
    · have new := (zone i).trans (if_pos ((s.mem_zoneNumbers i).mpr ⟨low, high⟩))
      rw [table.insideBand]
      change (s.switchZones id p).zone i = _ at new
      rw [new]
      exact ⟨fun cold => Zone.switchedTo_of_cold _ _ _ _ cold, fun warm => Zone.switchedTo_of_warm _ _ _ _ warm,
        fun standby => Zone.switchedTo_of_standby _ _ _ _ standby, fun held =>
          Zone.switchedTo_of_held _ _ _ _ (held.elim And.left And.left) (held.imp And.right And.right)⟩

end Sys2Proof.Machine
end

section
/-! SUPPORT. What a poll carries (R106, R131, R147, R162, R208), and the poll that comes next (R163, R176). Settles O55. -/

namespace Sys2Proof.Machine

/-! ## The frame -/

section Frame
variable (s : State) (n : Nat) {out : List Byte}

/-- The poll of station `n` is its number, `out` and the CRC of both. -/
def State.carries (out : List Byte) : Prop :=
  s.pollFrame n = BitVec.ofNat 8 n :: out ++ crcBytes (BitVec.ofNat 8 n :: out)

variable {s n}

theorem State.carries_of_record (record : s.outputRecord n = out) : s.carries n out := by
  unfold State.carries State.pollFrame
  dsimp only
  rw [record, beBytes_one]
  rfl

theorem State.carries_zone (zone : n ≤ 8) (record : s.zoneOutput n = out) : s.carries n out := by
  refine State.carries_of_record ?_
  rw [State.outputRecord, roleOf, if_pos zone, record]

/-- A zone's setpoint is absent where it has none. -/
theorem State.carries_zone_with {mode : Byte} {kind : List Byte} (zone : n ≤ 8)
    (record : s.zoneOutput n = mode :: beIntOpt 2 (s.zone n).setpoint ++ kind) :
    s.carries n (mode :: (match (s.zone n).setpoint with
      | none => [0xFF#8, 0xFF#8]
      | some t => beInt 2 t) ++ kind) := by
  refine State.carries_zone zone (record.trans ?_)
  cases (s.zone n).setpoint <;> rfl

theorem State.carries_unwind {u : UnwindId} (station : n = u.station) (command : [s.unwindCommand u] = out) :
    s.carries n out := by
  subst station command
  cases u <;> exact State.carries_of_record rfl

theorem State.carries_table (command : [s.tableCommand] = out) : s.carries 11 out := State.carries_of_record command

theorem State.carries_accumulator {mm : Nat} (target : s.fillTarget = mm) :
    s.carries 12 (beBytes 4 mm ++ beBytes 4 s.rcu.settings.capacity) :=
  State.carries_of_record (by rw [← target]; rfl)

theorem State.carries_auxiliary (auxiliary : 13 ≤ n) : s.carries n [] := by
  refine State.carries_of_record ?_
  rw [State.outputRecord, roleOf, if_neg (by omega), if_neg (by omega), if_neg (by omega), if_neg (by omega)]

end Frame

/-! ## The unwinds (R147) -/

/-- When an unwind is given RUN. -/
def State.runs (s : State) (u : UnwindId) : Prop :=
  (s.rcu.change = none ∧ (s.rcu.unwind u).state = .active ∧ s.seq.rollHold = false)
  ∨ ∃ c, s.rcu.change = some c ∧ ((c.phase = .filling ∧ c.old = u) ∨ (c.phase = .restarting ∧ c.new = u
    ∧ ¬(s.rcu.brakeSpent = true ∧ (s.rcu.unwind u).state = .spent)))

theorem Rcu.resetBrakes_eq_false_iff (r : Rcu) (u : UnwindId) :
    r.resetBrakes u = false ↔ ¬(r.brakeSpent = true ∧ (r.unwind u).state = .spent) := by
  simp [Rcu.resetBrakes]

theorem State.unwindCommand_of_runs {s : State} {u : UnwindId} (runs : s.runs u) : s.unwindCommand u = 1#8 := by
  unfold State.unwindCommand
  rcases runs with ⟨idle, active, free⟩ | ⟨c, changes, phase⟩
  · rw [idle]
    exact if_pos ⟨active, free⟩
  · rw [changes]
    exact if_pos (by rwa [Rcu.resetBrakes_eq_false_iff])

theorem State.unwindCommand_of_brakes {s : State} {u : UnwindId} (brakes : ¬s.runs u) : s.unwindCommand u = 2#8 := by
  unfold State.unwindCommand
  unfold State.runs at brakes
  rw [not_or] at brakes
  obtain ⟨idle, changing⟩ := brakes
  cases change : s.rcu.change with
  | none => exact if_neg fun ⟨active, free⟩ => idle ⟨change, active, free⟩
  | some c =>
    refine if_neg fun phase => changing ⟨c, change, ?_⟩
    rwa [Rcu.resetBrakes_eq_false_iff] at phase

theorem State.carries_command {s : State} {n : Nat} {u : UnwindId} (station : n = u.station) :
    (s.runs u → s.carries n [1#8]) ∧ (¬s.runs u → s.carries n [2#8]) :=
  ⟨fun runs => State.carries_unwind station (by rw [State.unwindCommand_of_runs runs]),
    fun brakes => State.carries_unwind station (by rw [State.unwindCommand_of_brakes brakes])⟩

/-! ## The splice table and the accumulator -/

/-- A change is in progress in phase `p`. -/
def State.inPhase (s : State) (p : ChangePhase) : Prop := ∃ c, s.rcu.change = some c ∧ c.phase = p

theorem State.inPhase_iff (s : State) (p : ChangePhase) : s.inPhase p ↔ s.rcu.change.map Change.phase = some p :=
  Option.map_eq_some_iff.symm

/-! ## The next poll (R131, R163, R176) -/

theorem Zsv.ask_eq (n : Nat) (v : Zsv) : v.ask n =
    { v with reference := v.reference.map fun r => { r with asked := r.asked || decide (r.zone = n) } } := by
  unfold Zsv.ask
  congr 1
  cases v.reference with
  | none => rfl
  | some r =>
    dsimp only [Option.map]
    split
    · next asked => rw [decide_eq_true asked, Bool.or_true]
    · next other => rw [decide_eq_false other, Bool.or_false]

theorem State.sendPoll_of_last {s : State} (last : s.slm.toPoll = []) :
    s.sendPoll = { s with slm := { s.slm with pollFrame := [] } } := by
  unfold State.sendPoll
  rw [last]
  rfl

theorem State.sendPoll_of_next {s : State} {n : Nat} {rest : List Nat} (next : s.slm.toPoll = n :: rest) :
    s.sendPoll = { s with slm := { s.slm with pollFrame := s.pollFrame n }, zsv := s.zsv.ask n } := by
  unfold State.sendPoll
  rw [next]
  rfl

/-- Settles O55: the output record of each role, and the equations of the poll sent. -/
theorem pollsCarry : Obligations.PollsCarry := by
  refine ⟨fun s n => ⟨fun zone => ⟨fun shut => ?_, fun heats => ?_, fun purges => ?_, fun calibrates r owner => ?_⟩,
    fun a => State.carries_command (u := .a) a, fun b => State.carries_command (u := .b) b, fun table => ?_,
    fun accumulator => ?_, fun auxiliary => State.carries_auxiliary auxiliary⟩,
    fun s => ⟨State.sendPoll_of_last, fun n rest next => ⟨?_, ?_, fun more => ?_, fun last => ?_⟩⟩⟩
  · refine State.carries_zone zone ?_
    unfold State.zoneOutput
    rcases shut with state | state <;> rw [state]
  · refine State.carries_zone_with zone ?_
    unfold State.zoneOutput
    rcases heats with state | state | state <;> rw [state] <;> rfl
  · refine State.carries_zone_with zone ?_
    unfold State.zoneOutput
    rw [purges]
    rfl
  · refine State.carries_zone_with zone ?_
    unfold State.zoneOutput
    rw [calibrates, owner, Option.map_some, codeOpt]
    cases r.kind <;> rfl
  · subst table
    refine ⟨fun splicing => ?_, fun cutting => ?_, fun other more => ?_⟩
    all_goals refine State.carries_table ?_; rw [State.tableCommand]
    · rw [(s.inPhase_iff _).mp splicing]
    · rw [(s.inPhase_iff _).mp cutting]
    · split
      · next splicing => exact absurd ((s.inPhase_iff _).mpr splicing) other
      · next cutting => exact absurd ((s.inPhase_iff _).mpr cutting) more
      · rfl
  · subst accumulator
    refine ⟨fun filling => ?_, fun keeping => ?_, fun emptying => ?_⟩
    all_goals refine State.carries_accumulator ?_; rw [State.fillTarget]
    · rw [(s.inPhase_iff _).mp filling]
    · rcases keeping with idle | restarting
      · rw [idle]
        rfl
      · rw [(s.inPhase_iff _).mp restarting]
    · rcases emptying with phase | phase | phase <;> rw [(s.inPhase_iff _).mp phase]
  · rw [State.sendPoll_of_next next, Zsv.ask_eq]
  · rw [State.sendPoll_of_next next]
  · obtain ⟨k, tail, rfl⟩ := List.exists_cons_of_ne_nil more
    exact State.nextPoll_of_more next
  · subst last
    rw [State.nextPoll_of_last next]
    split
    · rw [State.sendPoll_eq]
      rfl
    · rw [State.startCycle_eq, State.sendPoll_eq]
      rfl

end Sys2Proof.Machine
end

section
/-! SUPPORT. What the zones' own work reaches, the hand-out of the reference (R131) and the start tests (R124), one zone at a time. -/

namespace Sys2Proof.Machine

/-! ## What it reaches -/

/-- `t` is `s` with another table of zones, queue and owner of the reference. -/
def ZoneWork (s t : State) : Prop :=
  t = { s with zsv := { s.zsv with zones := t.zsv.zones, calQueue := t.zsv.calQueue, reference := t.zsv.reference } }

theorem ZoneWork.refl (s : State) : ZoneWork s s := rfl
theorem ZoneWork.onZone (s : State) (i : Nat) (f : Zone → Zone) : ZoneWork s (s.onZone i f) := rfl
theorem ZoneWork.releaseReference (s : State) : ZoneWork s s.releaseReference := rfl

theorem ZoneWork.trans {s t u : State} (h : ZoneWork s t) (k : ZoneWork t u) : ZoneWork s u := by
  unfold ZoneWork at *
  rw [k]
  simp only
  rw [h]

theorem ZoneTableOnly.work {s t : State} (h : ZoneTableOnly s t) : ZoneWork s t := by
  unfold ZoneTableOnly at h
  unfold ZoneWork
  rw [h]

theorem ZoneTableOnly.calQueue {s t : State} (h : ZoneTableOnly s t) : t.zsv.calQueue = s.zsv.calQueue := by rw [h.zsv]
theorem ZoneTableOnly.reference {s t : State} (h : ZoneTableOnly s t) : t.zsv.reference = s.zsv.reference := by rw [h.zsv]

theorem ZoneWork.zonesOnly {s t : State} (h : ZoneWork s t) : ZonesOnly s t := by
  unfold ZoneWork at h
  unfold ZonesOnly
  rw [h]

theorem ZoneWork.insideBand {s t : State} (h : ZoneWork s t) (i : Nat) :
    t.insideBand i = (t.zone i).inside (s.stationFresh i) s.band := by
  unfold ZoneWork at h
  unfold State.insideBand
  rw [h]
  rfl

theorem zoneTableOnly_startTests (s : State) : ZoneTableOnly s s.startTests := zoneTableOnly_foldl_startTest ..

/-! ## The hand-out (R131) -/

theorem State.eligible_iff (s : State) (i : Nat) : s.eligible i = true ↔ (s.zone i).mayCompare := by
  unfold State.eligible Zone.mayCompare
  cases (s.zone i).state <;> simp [ZoneState.steady]

/-- The state of a zone that may be handed the reference is a return state. -/
theorem Zone.mayCompare.asReturn {z : Zone} (h : z.mayCompare) : ∃ k : ZoneReturn, z.state = k.state := by
  obtain ⟨state | state | state, _⟩ := h
  · exact ⟨.warming, state⟩
  · exact ⟨.ready, state⟩
  · exact ⟨.standby, state⟩

/-- The reference is handed to zone `i`, which leaves state `k` to calibrate. -/
def State.handedTo (s : State) (i : Nat) (k : ZoneReturn) : State :=
  ({ s with zsv := { s.zsv with
      calQueue := s.zsv.calQueue.filter fun j => j != i
      reference := some
        { zone := i, asked := false, kind := if (s.zone i).calibrated then .short else .long
          deadline := s.clock + if (s.zone i).calibrated then 8000 else 40000 } } } : State).onZone i
    fun z => { z with state := .calibrating, ret := some k, settle := .stopped }

theorem State.handOut_of_owned {s : State} {r : RefOwner} (owned : s.zsv.reference = some r) : s.handOut = s := by
  rw [State.handOut, owned]

theorem State.handOut_of_ne_none {s : State} (owned : s.zsv.reference ≠ none) : s.handOut = s := by
  obtain ⟨r, owner⟩ := Option.ne_none_iff_exists'.mp owned
  exact State.handOut_of_owned owner

theorem State.handOut_of_none {s : State} (none : ∀ j ∈ s.zsv.calQueue, ¬(s.zone j).mayCompare) : s.handOut = s := by
  have found : s.zsv.calQueue.find? s.eligible = .none :=
    List.find?_eq_none.mpr fun j queued => mt (s.eligible_iff j).mp (none j queued)
  unfold State.handOut
  rw [found]
  split <;> rfl

theorem State.handOut_of_found {s : State} {i : Nat} {k : ZoneReturn} (free : s.zsv.reference = none)
    (found : s.zsv.calQueue.find? s.eligible = some i) (state : (s.zone i).state = k.state) : s.handOut = s.handedTo i k := by
  have ret : (s.zone i).state.asReturn = some k := by rw [state]; cases k <;> rfl
  have kind : (s.zone i).calKind.compareTime = if (s.zone i).calibrated then 8000 else 40000 := by
    unfold Zone.calKind
    split <;> rfl
  unfold State.handOut State.handedTo
  rw [free, found]
  dsimp only
  rw [kind]
  refine State.onZone_congr ?_
  show ({ s.zone i with state := .calibrating, ret := (s.zone i).state.asReturn, settle := .stopped } : Zone) = _
  rw [ret]
  rfl

theorem State.handOut_of_first {s : State} {i : Nat} {k : ZoneReturn} (free : s.zsv.reference = none) {before after : List Nat}
    (queue : s.zsv.calQueue = before ++ i :: after) (others : ∀ j ∈ before, ¬(s.zone j).mayCompare)
    (may : (s.zone i).mayCompare) (state : (s.zone i).state = k.state) : s.handOut = s.handedTo i k := by
  refine State.handOut_of_found free ?_ state
  have skipped : before.find? s.eligible = none :=
    List.find?_eq_none.mpr fun j earlier => mt (s.eligible_iff j).mp (others j earlier)
  rw [queue, List.find?_append, skipped, List.find?_cons_of_pos ((s.eligible_iff i).mpr may)]
  rfl

/-- The hand-out changes nothing, or hands the free reference to a queued zone that may compare. -/
theorem State.handOut_cases (s : State) : s.handOut = s ∨ ∃ i k, s.zsv.reference = none ∧ i ∈ s.zsv.calQueue
    ∧ (s.zone i).mayCompare ∧ (s.zone i).state = k.state ∧ s.handOut = s.handedTo i k := by
  cases owner : s.zsv.reference with
  | some r => exact .inl (State.handOut_of_owned owner)
  | none =>
    cases found : s.zsv.calQueue.find? s.eligible with
    | none => exact .inl (State.handOut_of_none fun j queued => mt (s.eligible_iff j).mpr (List.find?_eq_none.mp found j queued))
    | some i =>
      have may := (s.eligible_iff i).mp (List.find?_some found)
      obtain ⟨k, state⟩ := may.asReturn
      exact .inr ⟨i, k, rfl, List.mem_of_find?_eq_some found, may, state, State.handOut_of_found owner found state⟩

theorem zoneWork_handOut (s : State) : ZoneWork s s.handOut := by
  rcases s.handOut_cases with same | ⟨i, k, _, _, _, _, handed⟩
  · rw [same]
    exact .refl s
  · rw [handed]
    rfl

/-- Of a zone the hand-out changes the state, the return state and the settle timer at most. -/
theorem State.zone_handOut_frame (s : State) (j : Nat) : ∃ state ret settle,
    s.handOut.zone j = { s.zone j with state := state, ret := ret, settle := settle } := by
  rcases s.handOut_cases with same | ⟨i, k, _, _, _, _, handed⟩
  · rw [same]
    exact ⟨_, _, _, rfl⟩
  · rw [handed]
    rcases State.zone_onZone_cases _ i _ j with ⟨rfl, new⟩ | ⟨old, -⟩
    · exact ⟨_, _, _, new⟩
    · exact ⟨_, _, _, old⟩

/-- A zone that is not queued, or may not compare, sees nothing of the hand-out. -/
theorem State.handOut_spares {s : State} {j : Nat} (spared : j ∉ s.zsv.calQueue ∨ ¬(s.zone j).mayCompare) :
    s.handOut.zone j = s.zone j ∧ (j ∈ s.handOut.zsv.calQueue ↔ j ∈ s.zsv.calQueue)
      ∧ (s.handOut.zsv.reference.map RefOwner.zone = some j ↔ s.zsv.reference.map RefOwner.zone = some j) := by
  rcases s.handOut_cases with same | ⟨i, k, free, queued, may, _, handed⟩
  · rw [same]
    exact ⟨rfl, Iff.rfl, Iff.rfl⟩
  · have other : j ≠ i := by
      rintro rfl
      exact spared.elim (· queued) (· may)
    rw [handed, free]
    refine ⟨State.zone_onZone_other _ _ other, ?_, fun owned => absurd (Option.some.inj owned).symm other, nofun⟩
    show j ∈ s.zsv.calQueue.filter (fun l => l != i) ↔ _
    simp [other]

theorem State.zone_handedTo {s : State} {i : Nat} (low : 1 ≤ i) (high : i ≤ s.zsv.zones.length) (k : ZoneReturn) :
    (s.handedTo i k).zone i = { s.zone i with state := .calibrating, ret := some k, settle := .stopped } :=
  State.zone_onZone_same _ _ low high

/-! ## The start tests (R124) -/

theorem Zone.tested_of_occupied {z : Zone} (occupied : z.occupied = true) (now duration : Nat) : z.tested now duration = z := by
  simp [Zone.tested, occupied]

/-- The purge of a zone that is neither READY nor STANDBY does not start. -/
theorem Zone.tested_of_other {z : Zone} (ready : z.state ≠ .ready) (standby : z.state ≠ .standby) (now duration : Nat) :
    z.tested now duration = z := by
  unfold Zone.tested
  split
  · split
    · next state => exact absurd state ready
    · next state => exact absurd state standby
    · rfl
  · rfl

theorem Zone.tested_of_not_startsPurge {z : Zone} (h : ¬z.startsPurge) (now duration : Nat) : z.tested now duration = z := by
  by_cases pending : z.purgePending = true
  · by_cases occupied : z.occupied = true
    · exact Zone.tested_of_occupied occupied ..
    · have free : z.occupied = false := by simpa using occupied
      exact Zone.tested_of_other (fun ready => h ⟨pending, free, .inl ready⟩) (fun standby => h ⟨pending, free, .inr standby⟩) ..
  · exact Zone.tested_of_not_pending (by simpa using pending) ..

theorem Zone.tested_of_startsPurge {z : Zone} {k : ZoneReturn} (h : z.startsPurge) (state : z.state = k.state) (now duration : Nat) :
    z.tested now duration = z.purgeStarted k now duration := by
  obtain ⟨pending, free, ready | standby⟩ := h
  · cases k <;> rw [ready] at state <;> cases state
    simp [Zone.tested, pending, free, ready]
  · cases k <;> rw [standby] at state <;> cases state
    simp [Zone.tested, pending, free, standby]

theorem State.zone_startTests_of_not_startsPurge {s : State} {i : Nat} (h : ¬(s.zone i).startsPurge) :
    s.startTests.zone i = s.zone i := by
  rw [State.zone_startTests, Zone.tested_of_not_startsPurge h, ite_self]

theorem State.zone_startTests_of_startsPurge {s : State} {i : Nat} {k : ZoneReturn} (low : 1 ≤ i) (high : i ≤ s.zoneCount)
    (h : (s.zone i).startsPurge) (state : (s.zone i).state = k.state) :
    s.startTests.zone i = (s.zone i).purgeStarted k s.clock s.zsv.purgeDuration := by
  rw [State.zone_startTests, if_pos ⟨low, high⟩, Zone.tested_of_startsPurge h state]

theorem State.startTest_of_not_startsPurge {s : State} {i : Nat} (h : ¬(s.zone i).startsPurge) : s.startTest i = s := by
  unfold State.startTest
  dsimp only
  split
  · next due =>
    obtain ⟨pending, free⟩ : (s.zone i).purgePending = true ∧ (s.zone i).occupied = false := by simpa using due
    split
    · next ready => exact absurd ⟨pending, free, .inl ready⟩ h
    · next standby => exact absurd ⟨pending, free, .inr standby⟩ h
    · rfl
  · rfl

theorem State.startTest_of_startsPurge {s : State} {i : Nat} {k : ZoneReturn} (h : (s.zone i).startsPurge)
    (state : (s.zone i).state = k.state) :
    s.startTest i = s.onZone i fun z => z.purgeStarted k s.clock s.zsv.purgeDuration := by
  obtain ⟨pending, free, ready | standby⟩ := h
  · cases k <;> rw [ready] at state <;> cases state
    simp only [State.startTest, pending, free, ready]
    rfl
  · cases k <;> rw [standby] at state <;> cases state
    simp only [State.startTest, pending, free, standby]
    rfl

theorem State.length_zones_startTests (s : State) : s.startTests.zsv.zones.length = s.zsv.zones.length := by
  have one (t : State) (i : Nat) : (t.startTest i).zsv.zones.length = t.zsv.zones.length := by
    unfold State.startTest
    dsimp only
    split
    · split <;> first | exact length_modifyAt .. | rfl
    · rfl
  have all (l : List Nat) (t : State) : (l.foldl State.startTest t).zsv.zones.length = t.zsv.zones.length := by
    induction l generalizing t with
    | nil => rfl
    | cons i rest ih => exact (ih _).trans (one t i)
  exact all s.zoneNumbers s

/-! ## Both, as they follow a release or a hand-over -/

theorem zoneWork_startThenHandOut (s : State) : ZoneWork s s.startThenHandOut :=
  (zoneTableOnly_startTests s).work.trans (zoneWork_handOut _)

/-- A zone whose purge does not start, and that is not queued or may not compare, sees nothing of either. -/
theorem State.startThenHandOut_spares {s : State} {j : Nat} (stands : ¬(s.zone j).startsPurge)
    (spared : j ∉ s.zsv.calQueue ∨ ¬(s.zone j).mayCompare) :
    s.startThenHandOut.zone j = s.zone j ∧ (j ∈ s.startThenHandOut.zsv.calQueue ↔ j ∈ s.zsv.calQueue)
      ∧ (s.startThenHandOut.zsv.reference.map RefOwner.zone = some j ↔ s.zsv.reference.map RefOwner.zone = some j) := by
  have table := zoneTableOnly_startTests s
  have tested := State.zone_startTests_of_not_startsPurge stands
  have handed : j ∉ s.startTests.zsv.calQueue ∨ ¬(s.startTests.zone j).mayCompare := by rwa [table.calQueue, tested]
  have spares := State.handOut_spares handed
  rwa [table.calQueue, table.reference, tested] at spares

/-- A zone whose pending purge starts sees nothing of the hand-out. -/
theorem State.zone_startThenHandOut_of_startsPurge {s : State} {i : Nat} {k : ZoneReturn} (low : 1 ≤ i) (high : i ≤ s.zoneCount)
    (h : (s.zone i).startsPurge) (state : (s.zone i).state = k.state) :
    s.startThenHandOut.zone i = (s.zone i).purgeStarted k s.clock s.zsv.purgeDuration := by
  have tested := State.zone_startTests_of_startsPurge low high h state
  have purging : ¬(s.startTests.zone i).mayCompare := by
    rw [tested]
    rintro ⟨state | state | state, _⟩ <;> cases state
  exact (State.handOut_spares (.inr purging)).1.trans tested

end Sys2Proof.Machine
end

section
/-! SUPPORT. What a fresh reading, a notice and a fault code make of a zone (R104, R107, R113, R114, R116 to R118). Settles O47. -/

namespace Sys2Proof.Machine

/-! ## FAULT (R116) -/

theorem ZoneState.heating_iff (st : ZoneState) : st.heating = true ↔ st ≠ .off ∧ st ≠ .fault := by
  cases st <;> simp [ZoneState.heating]

theorem zoneWork_dropCalibration (s : State) (i : Nat) : ZoneWork s (s.dropCalibration i) := by
  unfold State.dropCalibration
  split
  · exact ZoneWork.trans (t := (s.leaveQueue i).releaseReference) rfl (zoneWork_startThenHandOut _)
  · rfl

/-- A zone that drops its calibration with no purge pending stands, neither queued nor the owner. -/
theorem State.dropCalibration_spec {s : State} {i : Nat} (stands : ¬(s.zone i).startsPurge) :
    (s.dropCalibration i).zone i = s.zone i ∧ i ∉ (s.dropCalibration i).zsv.calQueue
      ∧ (s.dropCalibration i).zsv.reference.map RefOwner.zone ≠ some i := by
  have left : i ∉ (s.leaveQueue i).zsv.calQueue := by
    show i ∉ s.zsv.calQueue.filter fun j => j != i
    simp
  unfold State.dropCalibration
  split
  · have gone : i ∉ (s.leaveQueue i).releaseReference.zsv.calQueue := left
    have spared := State.startThenHandOut_spares (s := (s.leaveQueue i).releaseReference) stands (.inl gone)
    obtain ⟨zone, queue, owner⟩ := spared
    exact ⟨zone, mt queue.mp gone, mt owner.mp nofun⟩
  · next free =>
    exact ⟨rfl, left, mt (s.ownsReference_iff i).mpr free⟩

/-- `t` is `s` with zone `i` in FAULT for `cause`, the segments over it flagged and ZONE_FAULT raised (R93, R116). -/
def State.faulted (s t : State) (i : Nat) (cause : ZoneCause) : Prop :=
  (t.zone i).state = .fault ∧ (t.zone i).faultCause = some cause ∧ (t.zone i).setpoint = none
  ∧ (t.zone i).limit = none ∧ (t.zone i).purgePending = false ∧ (t.zone i).purgeDeadline = none
  ∧ t.zsv.reference.map RefOwner.zone ≠ some i ∧ i ∉ t.zsv.calQueue
  ∧ t = { s with
      zsv := t.zsv
      str := { s.str with
        segments := s.str.segments.map fun g =>
          if s.overlapsZone g i then { g with flags := { g.flags with zoneFault := true } } else g }
      evu := s.evu.raise .zoneFault }

section Fault
variable {s : State} {i : Nat} (low : 1 ≤ i) (high : i ≤ s.zsv.zones.length)
include low high

theorem State.zone_faultZone (heats : (s.zone i).state.heating = true) (cause : ZoneCause) :
    (s.faultZone i cause).zone i = { (s.zone i).shut .fault with faultCause := some cause }
      ∧ i ∉ (s.faultZone i cause).zsv.calQueue ∧ (s.faultZone i cause).zsv.reference.map RefOwner.zone ≠ some i := by
  let t := ((s.onZone i fun z => { z.shut .fault with faultCause := some cause }).flagZone i PanelFlags.setZoneFault).raise .zoneFault
  have zone : t.zone i = { (s.zone i).shut .fault with faultCause := some cause } := s.zone_onZone_same _ low high
  have stands : ¬(t.zone i).startsPurge := by
    rw [zone]
    exact fun starts => nomatch starts.1
  have entered : s.faultZone i cause = t.dropCalibration i := if_pos heats
  rw [entered, ← zone]
  exact State.dropCalibration_spec stands

theorem State.faulted_faultZone (heats : (s.zone i).state.heating = true) (cause : ZoneCause) :
    s.faulted (s.faultZone i cause) i cause := by
  obtain ⟨zone, queue, owner⟩ := State.zone_faultZone low high heats cause
  have entered : s.faultZone i cause = State.dropCalibration _ i := if_pos heats
  have frame := (zoneWork_dropCalibration (((s.onZone i fun z =>
    { z.shut .fault with faultCause := some cause }).flagZone i PanelFlags.setZoneFault).raise .zoneFault) i).zonesOnly
  unfold State.faulted
  rw [zone]
  refine ⟨rfl, rfl, rfl, rfl, rfl, rfl, owner, queue, ?_⟩
  rw [entered]
  exact frame

end Fault

/-! ## A fresh reading (R104, R107, R113, R114) -/

/-- The zone once a reading is taken: the raw one and the corrected temperature. -/
def Zone.read (raw : Int) (z : Zone) : Zone :=
  { z with lastRaw := some raw, corrected := some (max 0 (min (raw + z.offset) 25000)) }

/-- What the settle test makes of a zone, its timer started at the test running off at `due`. -/
def Zone.settleTested (fresh : Bool) (band due : Nat) (z : Zone) : Zone :=
  { z with
    settle := if z.state = .warming then
        if z.inside fresh band then if z.settle = .stopped then .running due else z.settle else .stopped
      else z.settle }

theorem Zone.overTemp_iff (z : Zone) : z.overTemp = true ↔
    (z.state ≠ .off ∧ z.state ≠ .fault) ∧ ∃ l c, z.limit = some l ∧ z.corrected = some c ∧ l < c := by
  rw [← z.state.heating_iff]
  unfold Zone.overTemp
  cases z.corrected with
  | none => simp
  | some c =>
    cases z.limit with
    | none => simp
    | some l => simp

theorem Zone.overTemp_read_iff (z : Zone) (raw : Int) : (z.read raw).overTemp = true ↔
    (z.state ≠ .off ∧ z.state ≠ .fault) ∧ ∃ l, z.limit = some l ∧ l < max 0 (min (raw + z.offset) 25000) := by
  rw [Zone.overTemp_iff]
  refine and_congr_right fun _ => ⟨fun ⟨l, c, limit, corrected, above⟩ => ⟨l, limit, ?_⟩,
    fun ⟨l, limit, above⟩ => ⟨l, _, limit, rfl, above⟩⟩
  rwa [Option.some.inj corrected]

theorem State.settleTest_eq (s : State) (i : Nat) : s.settleTest i =
    s.onZone i fun _ => (s.zone i).settleTested (s.stationFresh i) s.band (s.clock + s.zsv.settleTime) := by
  generalize tested : (s.zone i).settleTested (s.stationFresh i) s.band (s.clock + s.zsv.settleTime) = z
  have whole {f : Zone → Zone} (h : f (s.zone i) = z) : s.onZone i f = s.onZone i fun _ => z := State.onZone_congr h
  have same (h : z = s.zone i) : s = s.onZone i fun _ => z := (State.onZone_of_fixes (f := fun _ => z) h).symm
  rw [Zone.settleTested] at tested
  unfold State.settleTest
  dsimp only
  split
  · next warming =>
    split
    · next inside =>
      have inside : (s.zone i).inside (s.stationFresh i) s.band = true := inside
      split
      · next stopped => exact whole (by rw [← tested, if_pos warming, if_pos inside, if_pos stopped])
      · next running => exact same (by rw [← tested, if_pos warming, if_pos inside, if_neg running])
    · next outside =>
      have outside : ¬(s.zone i).inside (s.stationFresh i) s.band = true := outside
      exact whole (by rw [← tested, if_pos warming, if_neg outside])
  · next other => exact same (by rw [← tested, if_neg other])

/-- What a reading that is not too hot makes of a zone, before it may ask for its calibration. -/
def Zone.readTo (raw : Int) (fresh : Bool) (band due : Nat) (z : Zone) : Zone :=
  ((z.read raw).lowerLimit band).settleTested fresh band due

def State.zoneRead (s : State) (i : Nat) (raw : Int) : State :=
  s.onZone i fun _ => (s.zone i).readTo raw (s.stationFresh i) s.band (s.clock + s.zsv.settleTime)

theorem Zone.readTo_frame (raw : Int) (fresh : Bool) (band due : Nat) (z : Zone) : ∃ limit lowering settle,
    z.readTo raw fresh band due = { z.read raw with limit := limit, lowering := lowering, settle := settle } := by
  obtain ⟨limit, lowering, frame⟩ := (z.read raw).lowerLimit_frame band
  rw [Zone.readTo, frame]
  exact ⟨limit, lowering, _, rfl⟩

theorem Zone.readTo_settle (raw : Int) (fresh : Bool) (band due : Nat) (z : Zone) : (z.readTo raw fresh band due).settle =
    if z.state = .warming then
      if (z.readTo raw fresh band due).inside fresh band then if z.settle = .stopped then .running due else z.settle
      else .stopped
    else z.settle := by
  obtain ⟨limit, lowering, frame⟩ := (z.read raw).lowerLimit_frame band
  rw [Zone.readTo, frame]
  rfl

section Reading
variable {s : State} {i : Nat} (raw : Int)

theorem State.freshReading_of_hot (low : 1 ≤ i) (high : i ≤ s.zsv.zones.length) (hot : ((s.zone i).read raw).overTemp = true) :
    s.freshReading i raw = (s.onZone i (Zone.read raw)).faultZone i .overtemp := by
  have zone : (s.onZone i (Zone.read raw)).zone i = (s.zone i).read raw := s.zone_onZone_same _ low high
  unfold State.freshReading
  exact if_pos (by rw [← zone] at hot; exact hot)

theorem State.freshReading_of_cool (low : 1 ≤ i) (high : i ≤ s.zsv.zones.length) (cool : ¬((s.zone i).read raw).overTemp = true) :
    s.freshReading i raw = (s.zoneRead i raw).calibrationEntry i := by
  have zone : (s.onZone i (Zone.read raw)).zone i = (s.zone i).read raw := s.zone_onZone_same _ low high
  have lowered : ((s.onZone i (Zone.read raw)).onZone i (Zone.lowerLimit s.band)).zone i =
      ((s.zone i).read raw).lowerLimit s.band := by
    rw [State.onZone_onZone, State.zone_onZone_same _ _ low high]
  have tested : ((s.onZone i (Zone.read raw)).onZone i (Zone.lowerLimit s.band)).settleTest i = s.zoneRead i raw := by
    rw [State.settleTest_eq, lowered, State.onZone_onZone, State.onZone_onZone]
    rfl
  rw [← tested]
  exact if_neg (by rw [← zone] at cool; exact cool)

theorem zoneTableOnly_zoneRead (s : State) (i : Nat) : ZoneTableOnly s (s.zoneRead i raw) := .onZone s i _

theorem State.zone_zoneRead (low : 1 ≤ i) (high : i ≤ s.zsv.zones.length) : (s.zoneRead i raw).zone i =
    (s.zone i).readTo raw (s.stationFresh i) s.band (s.clock + s.zsv.settleTime) :=
  s.zone_onZone_same _ low high

end Reading

/-! ## The lowering of the limit (R107) -/

theorem Zone.lowerLimit_of_cooled {z : Zone} {band : Nat} {c sp : Int} (lowering : z.lowering = true)
    (corrected : z.corrected = some c) (setpoint : z.setpoint = some sp) (cooled : c ≤ sp + band) :
    z.lowerLimit band = { z with limit := some (sp + 4 * (band : Int)), lowering := false } := by
  rw [Zone.lowerLimit, lowering, corrected, setpoint]
  exact if_pos cooled

theorem Zone.lowerLimit_of_not_cooled {z : Zone} {band : Nat} {c : Int} (corrected : z.corrected = some c)
    (h : ∀ sp, ¬(z.lowering = true ∧ z.setpoint = some sp ∧ c ≤ sp + band)) : z.lowerLimit band = z := by
  unfold Zone.lowerLimit
  split
  · next lowering shown setpoint =>
    obtain rfl := Option.some.inj (shown.symm.trans corrected)
    exact if_neg fun cooled => h _ ⟨lowering, setpoint, cooled⟩
  · rfl

/-! ## The first calibration (R114) -/

theorem State.joinQueue_of_known {s : State} {i : Nat}
    (known : i ∈ s.zsv.calQueue ∨ s.zsv.reference.map RefOwner.zone = some i) : s.joinQueue i = s := by
  rw [State.joinQueue, if_pos]
  rw [Bool.or_eq_true, List.contains_iff_mem, s.ownsReference_iff]
  exact known

theorem State.joinQueue_of_new {s : State} {i : Nat} (unqueued : i ∉ s.zsv.calQueue)
    (free : s.zsv.reference.map RefOwner.zone ≠ some i) :
    s.joinQueue i = { s with zsv := { s.zsv with calQueue := s.zsv.calQueue ++ [i] } } := by
  rw [State.joinQueue, if_neg]
  · rfl
  · rw [Bool.or_eq_true, List.contains_iff_mem, s.ownsReference_iff]
    exact not_or.mpr ⟨unqueued, free⟩

/-- With the reference owned by another, a zone that is not queued joins the queue and waits. -/
theorem State.queueCalibration_of_owned {s : State} {i : Nat} (unqueued : i ∉ s.zsv.calQueue)
    (other : s.zsv.reference.map RefOwner.zone ≠ some i) (owned : s.zsv.reference ≠ none) :
    s.queueCalibration i = { s with zsv := { s.zsv with calQueue := s.zsv.calQueue ++ [i] } } := by
  rw [State.queueCalibration, State.joinQueue_of_new unqueued other]
  exact State.handOut_of_ne_none owned

/-- With the reference owned, a zone that asks is known after it. -/
theorem State.known_of_queueCalibration {s : State} {i : Nat} (owned : s.zsv.reference ≠ none) :
    s.zsv.reference.map RefOwner.zone = some i ∨ i ∈ (s.queueCalibration i).zsv.calQueue := by
  by_cases known : i ∈ s.zsv.calQueue ∨ s.zsv.reference.map RefOwner.zone = some i
  · rw [State.queueCalibration, State.joinQueue_of_known known, State.handOut_of_ne_none owned]
    exact known.symm
  · obtain ⟨unqueued, free⟩ := not_or.mp known
    rw [State.queueCalibration_of_owned unqueued free owned]
    exact .inr (List.mem_append_right _ List.mem_cons_self)

/-- `t` has handed the reference, free in `s` with nobody else queued, to zone `i`, which leaves state `k` to calibrate. -/
def State.handedAlone (s t : State) (i : Nat) (k : ZoneReturn) : Prop :=
  t.zone i = { s.zone i with state := .calibrating, ret := some k, settle := .stopped } ∧ t.zsv.calQueue = []
  ∧ t.zsv.reference = some
    { zone := i, asked := false, kind := if (s.zone i).calibrated then .short else .long
      deadline := s.clock + if (s.zone i).calibrated then 8000 else 40000 }

theorem State.handedAlone_handOut {s : State} {i : Nat} {k : ZoneReturn} (low : 1 ≤ i) (high : i ≤ s.zsv.zones.length)
    (free : s.zsv.reference = none) (single : s.zsv.calQueue = [i]) (may : (s.zone i).mayCompare)
    (state : (s.zone i).state = k.state) : s.handedAlone s.handOut i k := by
  rw [State.handOut_of_first (before := []) (after := []) free single nofun may state]
  refine ⟨State.zone_handedTo low high k, ?_, rfl⟩
  show s.zsv.calQueue.filter (fun j => j != i) = []
  rw [single]
  simp

/-- With the reference free and nobody queued, a zone that may compare takes the reference. -/
theorem State.handedAlone_queueCalibration {s : State} {i : Nat} {k : ZoneReturn} (low : 1 ≤ i) (high : i ≤ s.zsv.zones.length)
    (free : s.zsv.reference = none) (empty : s.zsv.calQueue = []) (may : (s.zone i).mayCompare)
    (state : (s.zone i).state = k.state) : s.handedAlone (s.queueCalibration i) i k := by
  have joined : s.joinQueue i = { s with zsv := { s.zsv with calQueue := [i] } } := by
    rw [State.joinQueue_of_new (by rw [empty]; exact List.not_mem_nil) (by rw [free]; exact nofun), empty]
    rfl
  rw [State.queueCalibration, joined]
  exact State.handedAlone_handOut (s := { s with zsv := { s.zsv with calQueue := [i] } }) low high free rfl may state

theorem State.calibrationEntry_of_not {s : State} {i : Nat}
    (h : ¬((s.zone i).state = .warming ∧ (s.zone i).calibrated = false ∧ s.insideBand i = true)) : s.calibrationEntry i = s :=
  if_neg h

theorem State.calibrationEntry_of {s : State} {i : Nat} (warming : (s.zone i).state = .warming)
    (uncalibrated : (s.zone i).calibrated = false) (inside : s.insideBand i = true) :
    s.calibrationEntry i = s.queueCalibration i :=
  if_pos ⟨warming, uncalibrated, inside⟩

/-- The calibration entry changes the state, the return state and the settle timer of its zone at most. -/
theorem State.zone_calibrationEntry_frame (s : State) (i : Nat) : ∃ state ret settle,
    (s.calibrationEntry i).zone i = { s.zone i with state := state, ret := ret, settle := settle } := by
  by_cases asks : (s.zone i).state = .warming ∧ (s.zone i).calibrated = false ∧ s.insideBand i = true
  · obtain ⟨warming, uncalibrated, inside⟩ := asks
    rw [State.calibrationEntry_of warming uncalibrated inside, State.queueCalibration, ← s.zone_joinQueue i i]
    exact State.zone_handOut_frame ..
  · rw [State.calibrationEntry_of_not asks]
    exact ⟨_, _, _, rfl⟩

/-! ## A reading that is not too hot -/

section Cool
variable {s : State} {i : Nat} (raw : Int)

/-- The zone with the corrected temperature of the reading is inside the band (R108). -/
def State.readInside (s : State) (i : Nat) (raw : Int) : Prop :=
  (s.station i).condition = .fresh ∧ ∃ sp : Int, (s.zone i).setpoint = some sp
    ∧ max 0 (min (raw + (s.zone i).offset) 25000) - sp ≤ s.band ∧ sp - max 0 (min (raw + (s.zone i).offset) 25000) ≤ s.band

theorem State.readTo_inside_iff (warming : (s.zone i).state = .warming) (due : Nat) :
    ((s.zone i).readTo raw (s.stationFresh i) s.band due).inside (s.stationFresh i) s.band = true ↔ s.readInside i raw := by
  obtain ⟨limit, lowering, settle, frame⟩ := (s.zone i).readTo_frame raw (s.stationFresh i) s.band due
  have heats : ((s.zone i).readTo raw (s.stationFresh i) s.band due).state.heating = true := by
    rw [frame]
    show (s.zone i).state.heating = true
    rw [warming]
    rfl
  rw [Zone.inside_iff heats, frame, State.readInside]
  refine and_congr (by simp [State.stationFresh]) ?_
  constructor
  · rintro ⟨c, sp, corrected, setpoint, within⟩
    rw [← Option.some.inj corrected] at within
    exact ⟨sp, setpoint, within⟩
  · rintro ⟨sp, setpoint, within⟩
    exact ⟨_, sp, rfl, setpoint, within⟩

variable (low : 1 ≤ i) (high : i ≤ s.zsv.zones.length)
include low high

theorem State.zoneRead_insideBand_iff (warming : (s.zone i).state = .warming) :
    (s.zoneRead i raw).insideBand i = true ↔ s.readInside i raw := by
  rw [(zoneTableOnly_zoneRead raw s i).work.insideBand, State.zone_zoneRead raw low high]
  exact State.readTo_inside_iff raw warming _

/-- State, calibration, return state and occupancy stand until the zone may ask for its calibration. -/
theorem State.zone_zoneRead_same : ((s.zoneRead i raw).zone i).state = (s.zone i).state
    ∧ ((s.zoneRead i raw).zone i).calibrated = (s.zone i).calibrated
    ∧ ((s.zoneRead i raw).zone i).occupied = (s.zone i).occupied := by
  obtain ⟨limit, lowering, settle, frame⟩ :=
    (s.zone i).readTo_frame raw (s.stationFresh i) s.band (s.clock + s.zsv.settleTime)
  rw [State.zone_zoneRead raw low high, frame]
  exact ⟨rfl, rfl, rfl⟩

theorem State.zoneRead_settle : ((s.zoneRead i raw).zone i).settle =
    if (s.zone i).state = .warming then
      if (s.zoneRead i raw).insideBand i then
        if (s.zone i).settle = .stopped then .running (s.clock + s.zsv.settleTime) else (s.zone i).settle
      else .stopped
    else (s.zone i).settle := by
  rw [(zoneTableOnly_zoneRead raw s i).work.insideBand, State.zone_zoneRead raw low high]
  exact Zone.readTo_settle ..

/-- No zone but a WARMING, uncalibrated one inside the band asks for its calibration. -/
theorem State.calibrationEntry_zoneRead_of_not
    (h : ¬((s.zone i).state = .warming ∧ (s.zone i).calibrated = false ∧ s.readInside i raw)) :
    (s.zoneRead i raw).calibrationEntry i = s.zoneRead i raw := by
  obtain ⟨state, calibrated, -⟩ := State.zone_zoneRead_same raw low high
  refine State.calibrationEntry_of_not fun ⟨warming, uncalibrated, inside⟩ => h ?_
  rw [state] at warming
  exact ⟨warming, calibrated ▸ uncalibrated, (State.zoneRead_insideBand_iff raw low high warming).mp inside⟩

theorem State.calibrationEntry_zoneRead_of (warming : (s.zone i).state = .warming)
    (uncalibrated : (s.zone i).calibrated = false) (inside : s.readInside i raw) :
    (s.zoneRead i raw).calibrationEntry i = (s.zoneRead i raw).queueCalibration i := by
  obtain ⟨state, calibrated, -⟩ := State.zone_zoneRead_same raw low high
  exact State.calibrationEntry_of (state.trans warming) (calibrated.trans uncalibrated)
    ((State.zoneRead_insideBand_iff raw low high warming).mpr inside)

theorem State.limit_zoneRead_of_cooled {sp : Int} (lowering : (s.zone i).lowering = true) (setpoint : (s.zone i).setpoint = some sp)
    (cooled : max 0 (min (raw + (s.zone i).offset) 25000) ≤ sp + s.band) :
    ((s.zoneRead i raw).zone i).limit = some (sp + 4 * (s.band : Int)) ∧ ((s.zoneRead i raw).zone i).lowering = false := by
  rw [State.zone_zoneRead raw low high, Zone.readTo,
    Zone.lowerLimit_of_cooled (z := (s.zone i).read raw) lowering rfl setpoint cooled]
  exact ⟨rfl, rfl⟩

theorem State.limit_zoneRead_of_not_cooled (h : ∀ sp, ¬((s.zone i).lowering = true ∧ (s.zone i).setpoint = some sp
      ∧ max 0 (min (raw + (s.zone i).offset) 25000) ≤ sp + s.band)) :
    ((s.zoneRead i raw).zone i).limit = (s.zone i).limit ∧ ((s.zoneRead i raw).zone i).lowering = (s.zone i).lowering := by
  rw [State.zone_zoneRead raw low high, Zone.readTo, Zone.lowerLimit_of_not_cooled (z := (s.zone i).read raw) rfl h]
  exact ⟨rfl, rfl⟩

/-- A WARMING zone inside the band that is free to compare takes the free reference for its first, LONG calibration. -/
theorem State.calibrating_of_zoneRead (warming : (s.zone i).state = .warming) (uncalibrated : (s.zone i).calibrated = false)
    (free : s.zsv.reference = none) (empty : s.zsv.calQueue = []) (unoccupied : (s.zone i).occupied = false) :
    (((s.zoneRead i raw).queueCalibration i).zone i).state = .calibrating
    ∧ ((s.zoneRead i raw).queueCalibration i).zsv.reference =
      some { zone := i, asked := false, kind := .long, deadline := s.clock + 40000 } := by
  obtain ⟨state, calibrated, occupied⟩ := State.zone_zoneRead_same raw low high
  have entry : i ≤ (s.zoneRead i raw).zsv.zones.length := high.trans (length_modifyAt ..).ge
  obtain ⟨zone, -, reference⟩ := State.handedAlone_queueCalibration (s := s.zoneRead i raw) (k := .warming) low entry free empty
    ⟨.inl (state.trans warming), occupied.trans unoccupied⟩ (state.trans warming)
  rw [reference, zone, calibrated, uncalibrated]
  exact ⟨rfl, rfl⟩

end Cool

/-! ## The whole of it -/

theorem State.zoneNotice_lost (s : State) (i : Nat) : s.zoneNotice i .lost = (s.zoneNotice i .stale).faultZone i .station := rfl

theorem State.faultZone_of_cold {s : State} {i : Nat} (cold : ¬(s.zone i).state.heating = true) (c : ZoneCause) :
    s.faultZone i c = s := if_neg cold

section Whole
variable {s : State} {i : Nat} (raw : Int) (low : 1 ≤ i) (high : i ≤ s.zsv.zones.length)
include low high

/-- A reading above the limit faults the zone, which holds the reading. -/
theorem State.freshReading_faults (hot : ((s.zone i).read raw).overTemp = true) :
    ((s.freshReading i raw).zone i).lastRaw = some raw
    ∧ ((s.freshReading i raw).zone i).corrected = some (max 0 (min (raw + (s.zone i).offset) 25000))
    ∧ s.faulted (s.freshReading i raw) i .overtemp := by
  have zone : (s.onZone i (Zone.read raw)).zone i = (s.zone i).read raw := s.zone_onZone_same _ low high
  have entry : i ≤ (s.onZone i (Zone.read raw)).zsv.zones.length := high.trans (length_modifyAt ..).ge
  have heats : ((s.onZone i (Zone.read raw)).zone i).state.heating = true := by
    rw [zone]
    exact (ZoneState.heating_iff _).mpr (((s.zone i).overTemp_read_iff raw).mp hot).1
  rw [State.freshReading_of_hot raw low high hot]
  have faulted := State.faulted_faultZone low entry heats .overtemp
  rw [(State.zone_faultZone low entry heats .overtemp).1, zone]
  exact ⟨rfl, rfl, faulted⟩

/-- Whatever the reading, the zone holds it. -/
theorem State.freshReading_holds (cool : ¬((s.zone i).read raw).overTemp = true) :
    ((s.freshReading i raw).zone i).lastRaw = some raw
    ∧ ((s.freshReading i raw).zone i).corrected = some (max 0 (min (raw + (s.zone i).offset) 25000))
    ∧ ((s.freshReading i raw).zone i).limit = ((s.zoneRead i raw).zone i).limit
    ∧ ((s.freshReading i raw).zone i).lowering = ((s.zoneRead i raw).zone i).lowering := by
  rw [State.freshReading_of_cool raw low high cool]
  obtain ⟨state, ret, settle, entered⟩ := State.zone_calibrationEntry_frame (s.zoneRead i raw) i
  obtain ⟨limit, lowering, timer, read⟩ :=
    (s.zone i).readTo_frame raw (s.stationFresh i) s.band (s.clock + s.zsv.settleTime)
  rw [entered, State.zone_zoneRead raw low high, read]
  exact ⟨rfl, rfl, rfl, rfl⟩

end Whole

/-- Settles O47: a reading faults the zone or is taken by `zoneRead`; notices and codes come down to `faultZone`. -/
theorem readingsActOnZones : Obligations.ReadingsActOnZones := by
  intro i s low eight sized
  have high : i ≤ s.zsv.zones.length := by
    obtain ⟨-, -, zones, -⟩ := sized
    exact eight.trans zones.ge
  have cold (h : ¬((s.zone i).state ≠ .off ∧ (s.zone i).state ≠ .fault)) : ¬(s.zone i).state.heating = true :=
    mt (s.zone i).state.heating_iff.mp h
  refine ⟨fun raw => ?_, ?_, fun heats => ?_, fun off => ?_, fun code valve probe => ?_⟩
  · by_cases hot : ((s.zone i).read raw).overTemp = true
    · obtain ⟨lastRaw, corrected, faulted⟩ := State.freshReading_faults raw low high hot
      exact ⟨lastRaw, corrected, fun _ => faulted, fun cool => absurd (((s.zone i).overTemp_read_iff raw).mp hot) cool⟩
    · obtain ⟨lastRaw, corrected, limit, lowering⟩ := State.freshReading_holds raw low high hot
      refine ⟨lastRaw, corrected, fun tooHot => absurd (((s.zone i).overTemp_read_iff raw).mpr tooHot) hot, fun _ => ?_⟩
      dsimp only
      rw [limit, lowering, State.freshReading_of_cool raw low high hot]
      obtain ⟨state, -, -⟩ := State.zone_zoneRead_same raw low high
      have settle := State.zoneRead_settle raw low high
      refine ⟨(zoneTableOnly_zoneRead raw s i).work.zonesOnly.trans (zonesOnly_calibrationEntry _ i),
        fun sp ⟨lowers, setpoint, cooled⟩ => ?_,
        State.limit_zoneRead_of_not_cooled raw low high, fun other => ?_, fun warming outside => ?_,
        fun warming inside calibrated => ?_, fun warming inside uncalibrated free empty unoccupied => ?_,
        fun warming inside uncalibrated owned => ?_⟩
      · exact State.limit_zoneRead_of_cooled raw low high lowers setpoint cooled
      · rw [State.calibrationEntry_zoneRead_of_not raw low high fun h => other h.1]
        exact ⟨state, settle.trans (if_neg other), rfl⟩
      · rw [State.calibrationEntry_zoneRead_of_not raw low high fun h => outside h.2.2]
        rw [if_pos warming, if_neg (mt (State.zoneRead_insideBand_iff raw low high warming).mp outside)] at settle
        exact ⟨state.trans warming, settle⟩
      · rw [State.calibrationEntry_zoneRead_of_not raw low high fun h => by rw [h.2.1] at calibrated; cases calibrated]
        rw [if_pos warming, if_pos ((State.zoneRead_insideBand_iff raw low high warming).mpr inside)] at settle
        exact ⟨state.trans warming, settle⟩
      · rw [State.calibrationEntry_zoneRead_of raw low high warming uncalibrated inside]
        exact State.calibrating_of_zoneRead raw low high warming uncalibrated free empty unoccupied
      · rw [State.calibrationEntry_zoneRead_of raw low high warming uncalibrated inside]
        exact State.known_of_queueCalibration (s := s.zoneRead i raw) owned
  · have gone : (s.zoneNotice i .stale).zone i = { s.zone i with
        corrected := none, settle := if (s.zone i).state = .warming then .stopped else (s.zone i).settle } :=
      s.zone_onZone_same _ low high
    have entry : i ≤ (s.zoneNotice i .stale).zsv.zones.length := high.trans (length_modifyAt ..).ge
    refine ⟨rfl, rfl, rfl, fun off => ?_, fun heats => ?_⟩
    · have cold : ¬((s.zoneNotice i .stale).zone i).state.heating = true := by
        rw [gone]
        exact cold off
      exact State.faultZone_of_cold cold _
    · have heating : ((s.zoneNotice i .stale).zone i).state.heating = true := by
        rw [gone]
        exact (s.zone i).state.heating_iff.mpr heats
      refine ⟨State.faulted_faultZone low entry heating _, ?_⟩
      rw [State.zoneNotice_lost, (State.zone_faultZone low entry heating _).1, gone]
      rfl
  · have heating := (s.zone i).state.heating_iff.mpr heats
    exact ⟨State.faulted_faultZone low high heating .valveFault, State.faulted_faultZone low high heating .probeFault⟩
  · exact ⟨State.faultZone_of_cold (cold off) _, State.faultZone_of_cold (cold off) _⟩
  · rw [State.zoneCode, if_neg valve, if_neg probe]

end Sys2Proof.Machine
end

section
/-! SUPPORT. The end of a calibration (R104, R117, R124, R129, R131, R132, R134, R135). Settles O48. -/

namespace Sys2Proof.Machine

/-! ## Which compare done stands after the reading -/

theorem State.compareStands_iff (s : State) (i : Nat) :
    s.compareStands i = true ↔ ∃ r, s.zsv.reference = some r ∧ r.zone = i ∧ r.asked = true := by
  unfold State.compareStands
  cases s.zsv.reference <;> simp

section Reading
variable {s : State} {i : Nat} (raw : Int) (low : 1 ≤ i) (high : i ≤ s.zsv.zones.length)
include low high

/-- The reading that faults the zone abandons its calibration. -/
theorem State.compareStands_of_hot (hot : ((s.zone i).read raw).overTemp = true) :
    (s.freshReading i raw).compareStands i = false := by
  have zone : (s.onZone i (Zone.read raw)).zone i = (s.zone i).read raw := s.zone_onZone_same _ low high
  rw [State.freshReading_of_hot raw low high hot]
  refine State.compareStands_faultZone _ i _ ?_
  rw [zone]
  exact (ZoneState.heating_iff _).mpr (((s.zone i).overTemp_read_iff raw).mp hot).1

theorem State.compareStands_of_cool (cool : ¬((s.zone i).read raw).overTemp = true) :
    (s.freshReading i raw).compareStands i = s.compareStands i := by
  rw [State.freshReading_of_cool raw low high cool, State.compareStands_calibrationEntry]
  rfl

end Reading

/-- Any other response than a standing compare done is a reading alone. -/
theorem State.zoneReadings_of_not {s : State} {i : Nat} {fresh : Bool} {status : Byte} (raw reference : Int)
    (h : status.getLsbD 7 = false ∨ (if fresh then s.freshReading i raw else s).compareStands i = false) :
    s.zoneReadings i fresh status raw reference = if fresh then s.freshReading i raw else s := by
  refine if_neg ?_
  rw [Bool.and_eq_true, not_and_or]
  exact h.imp (fun clear => by rw [compareDone, clear]; exact nofun) (fun gone => by rw [gone]; exact nofun)

theorem State.zoneReadings_of {s : State} {i : Nat} {fresh : Bool} {status : Byte} (raw reference : Int)
    (done : status.getLsbD 7 = true) (stands : (if fresh then s.freshReading i raw else s).compareStands i = true) :
    s.zoneReadings i fresh status raw reference = (if fresh then s.freshReading i raw else s).completeCalibration i raw reference :=
  if_pos (Bool.and_eq_true_iff.mpr ⟨done, stands⟩)

/-! ## What the completion makes of the owner (R132) -/

/-- The zone calibrated by `off`, at `now` with recalibrations every `interval` seconds, back in state `k` with the settle timer it
had. -/
def Zone.calibratedBack (off : Int) (k : ZoneReturn) (now interval : Nat) (z : Zone) : Zone :=
  { z with
    state := k.state, ret := none, offset := if off < -500 then -500 else if 500 < off then 500 else off, calibrated := true
    calLimit := decide (off < -500 ∨ 500 < off)
    corrected := match z.corrected, z.lastRaw with
      | some _, some last => some (max 0 (min (last + (if off < -500 then -500 else if 500 < off then 500 else off)) 25000))
      | c, _ => c
    calibrationDue := if interval = 0 then none else some (now + interval * 1000) }

/-- With its settle timer anew in WARMING. -/
def State.calibratedBack (s : State) (i : Nat) (off : Int) (k : ZoneReturn) : Zone :=
  { (s.zone i).calibratedBack off k s.clock s.zsv.recalInterval with
    settle := if k = ZoneReturn.warming then
        if (s.onZone i fun _ => (s.zone i).calibratedBack off k s.clock s.zsv.recalInterval).insideBand i
        then .running (s.clock + s.zsv.settleTime) else .stopped
      else (s.zone i).settle }

theorem compareOffset_eq (raw reference : Int) : compareOffset raw reference =
    (if reference - raw < -500 then -500 else if 500 < reference - raw then 500 else reference - raw,
      decide (reference - raw < -500 ∨ 500 < reference - raw)) := by
  refine Prod.ext ?_ rfl
  show max (-500) (min 500 (reference - raw)) = _
  dsimp only
  split_ifs <;> omega

/-- The state as the completion leaves it to the start tests and the hand-out. -/
def State.calibrated (s : State) (i : Nat) (off : Int) (k : ZoneReturn) : State :=
  { (s.onZone i fun _ => s.calibratedBack i off k) with
    zsv := { (s.onZone i fun _ => s.calibratedBack i off k).zsv with reference := none }, evu := s.evu.raise .calDone }

theorem State.zone_calibrated {s : State} {i : Nat} (low : 1 ≤ i) (high : i ≤ s.zsv.zones.length) (off : Int) (k : ZoneReturn) :
    (s.calibrated i off k).zone i = s.calibratedBack i off k :=
  s.zone_onZone_same _ low high

/-- The settle timer of the zone that is back follows whether that zone is inside the band. -/
theorem State.calibratedBack_settle {s : State} {i : Nat} (low : 1 ≤ i) (high : i ≤ s.zsv.zones.length) (off : Int) (k : ZoneReturn) :
    (s.calibratedBack i off k).settle = if k = ZoneReturn.warming then
        if (s.calibratedBack i off k).inside (s.stationFresh i) s.band
        then .running (s.clock + s.zsv.settleTime) else .stopped
      else (s.zone i).settle := by
  have inside : (s.onZone i fun _ => (s.zone i).calibratedBack off k s.clock s.zsv.recalInterval).insideBand i =
      (s.calibratedBack i off k).inside (s.stationFresh i) s.band := by
    rw [(ZoneWork.onZone s i _).insideBand, State.zone_onZone_same _ _ low high]
    rfl
  rw [← inside]
  rfl

section Completion
variable {s : State} {i : Nat} {k : ZoneReturn} (low : 1 ≤ i) (high : i ≤ s.zsv.zones.length) (ret : (s.zone i).ret = some k)
  (raw reference : Int)
include low high ret

theorem State.completeCalibration_eq : s.completeCalibration i raw reference =
    (s.calibrated i (reference - raw) k).startThenHandOut := by
  let f (z : Zone) : Zone := { z.withOffset (compareOffset raw reference).1 with
    calibrated := true, calLimit := (compareOffset raw reference).2
    calibrationDue := if s.zsv.recalInterval = 0 then none else some (s.clock + s.zsv.recalInterval * 1000) }
  let t := (s.onZone i f).releaseReference
  have zone : t.zone i = f (s.zone i) := s.zone_onZone_same f low high
  have returned : t.returnZone i = t.ownerReturned i k := State.returnZone_eq (by rw [zone]; exact ret)
  have base : { f (s.zone i) with state := k.state, ret := none } =
      (s.zone i).calibratedBack (reference - raw) k s.clock s.zsv.recalInterval := by
    dsimp only [f, Zone.withOffset, Zone.calibratedBack]
    cases (s.zone i).corrected with
    | none => simp [compareOffset_eq]
    | some c => cases (s.zone i).lastRaw <;> simp [compareOffset_eq, satTemp]
  have inside : (t.onZone i fun z => { z with state := k.state, ret := none }).insideBand i =
      (s.onZone i fun _ => (s.zone i).calibratedBack (reference - raw) k s.clock s.zsv.recalInterval).insideBand i := by
    have collapsed : (s.onZone i f).onZone i (fun z => { z with state := k.state, ret := none }) =
        s.onZone i fun _ => (s.zone i).calibratedBack (reference - raw) k s.clock s.zsv.recalInterval := by
      rw [State.onZone_onZone]
      exact State.onZone_congr base
    rw [← collapsed]
    rfl
  have whole : t.ownerReturned i k = (s.onZone i fun _ => s.calibratedBack i (reference - raw) k).releaseReference := by
    have settled : t.ownerReturned i k = (((s.onZone i f).onZone i fun z => { z with state := k.state, ret := none }).onZone i
        fun z => { z with
          settle := if k = .warming then
              if (t.onZone i fun z => { z with state := k.state, ret := none }).insideBand i
              then .running (s.clock + s.zsv.settleTime) else .stopped
            else z.settle }).releaseReference := rfl
    rw [settled, inside, State.onZone_onZone, State.onZone_onZone]
    refine congrArg State.releaseReference (State.onZone_congr ?_)
    rw [State.calibratedBack, ← base]
    rfl
  show ((t.returnZone i).raise .calDone).startThenHandOut = _
  rw [returned, whole]
  rfl

/-- A pending purge of a zone that returns to READY or STANDBY unoccupied starts in the same event (R124). -/
theorem State.completeCalibration_purges (configured : i ≤ s.zoneCount) (other : k ≠ .warming)
    (pending : (s.zone i).purgePending = true) (free : (s.zone i).occupied = false) :
    (s.completeCalibration i raw reference).zone i =
        (s.calibratedBack i (reference - raw) k).purgeStarted k s.clock s.zsv.purgeDuration
      ∧ (s.completeCalibration i raw reference).evu = s.evu.raise .calDone := by
  have zone := State.zone_calibrated low high (reference - raw) k
  have starts : ((s.calibrated i (reference - raw) k).zone i).startsPurge := by
    rw [zone]
    refine ⟨pending, free, ?_⟩
    cases k with
    | warming => exact absurd rfl other
    | ready => exact .inl rfl
    | standby => exact .inr rfl
  have state : ((s.calibrated i (reference - raw) k).zone i).state = k.state := by
    rw [zone]
    rfl
  have purged := State.zone_startThenHandOut_of_startsPurge (s := s.calibrated i (reference - raw) k) low configured starts state
  rw [State.completeCalibration_eq low high ret]
  constructor
  · rw [purged, zone]
    rfl
  · have frame := (zoneWork_startThenHandOut (s.calibrated i (reference - raw) k)).zonesOnly
    unfold ZonesOnly at frame
    rw [frame]
    rfl

end Completion

/-- With nobody queued the hand-out changes nothing. -/
theorem State.startThenHandOut_of_empty {s : State} (empty : s.zsv.calQueue = []) : s.startThenHandOut = s.startTests := by
  refine State.handOut_of_none fun j queued => ?_
  rw [(zoneTableOnly_startTests s).calQueue, empty] at queued
  cases queued

/-- Settles O48: the compare done stands or not after the reading; the completion is `calibrated` and what follows a release. -/
theorem calibrationCompletes : Obligations.CalibrationCompletes := by
  intro i s fresh status raw reference low eight sized
  have high : i ≤ s.zsv.zones.length := by
    obtain ⟨-, -, zones, -⟩ := sized
    exact eight.trans zones.ge
  refine ⟨fun h => ?_, fun done stands cool => ?_, ⟨fun k ret => ⟨?_, fun _ configured _ other pending free => ?_⟩,
    fun k ret unqueued stands => ?_⟩, fun code => ⟨fun valve probe => ?_, fun fault => ?_⟩⟩
  · refine State.zoneReadings_of_not raw reference (h.imp_right fun h => ?_)
    cases fresh with
    | false =>
      rcases h with gone | ⟨fresh, _⟩
      · exact Bool.eq_false_iff.mpr (mt (s.compareStands_iff i).mp gone)
      · cases fresh
    | true =>
      by_cases hot : ((s.zone i).read raw).overTemp = true
      · exact State.compareStands_of_hot raw low high hot
      · rcases h with gone | ⟨_, off, fault, limit⟩
        · exact (State.compareStands_of_cool raw low high hot).trans (Bool.eq_false_iff.mpr (mt (s.compareStands_iff i).mp gone))
        · exact absurd (((s.zone i).overTemp_read_iff raw).mpr ⟨⟨off, fault⟩, limit⟩) hot
  · refine State.zoneReadings_of raw reference done ?_
    have standing := (s.compareStands_iff i).mpr stands
    cases fresh with
    | false => exact standing
    | true =>
      refine (State.compareStands_of_cool raw low high fun hot => cool ?_).trans standing
      obtain ⟨⟨off, fault⟩, limit⟩ := ((s.zone i).overTemp_read_iff raw).mp hot
      exact ⟨rfl, off, fault, limit⟩
  · exact State.completeCalibration_eq low high ret raw reference
  · exact State.completeCalibration_purges low high ret raw reference configured other pending free
  · have zone := State.zone_calibrated low high (reference - raw) k
    have standing : ¬((s.calibrated i (reference - raw) k).zone i).startsPurge := by
      rw [zone]
      rintro ⟨pending, free, _⟩
      rcases stands with none | occupied
      · exact nomatch none.symm.trans pending
      · exact nomatch occupied.symm.trans free
    have spares := State.startThenHandOut_spares standing (.inl unqueued)
    have work := zoneWork_startThenHandOut (s.calibrated i (reference - raw) k)
    rw [zone] at spares
    obtain ⟨same, -, owner⟩ := spares
    dsimp only
    rw [State.completeCalibration_eq low high ret, work.insideBand, same]
    refine ⟨work.zonesOnly, ?_, mt owner.mp nofun, fun empty => ?_⟩
    · show s.calibratedBack i (reference - raw) k = { (s.zone i).calibratedBack (reference - raw) k s.clock s.zsv.recalInterval with
        settle := if k = ZoneReturn.warming then
            if (s.calibratedBack i (reference - raw) k).inside (s.stationFresh i) s.band
            then .running (s.clock + s.zsv.settleTime) else .stopped
          else (s.zone i).settle }
      rw [← State.calibratedBack_settle low high]
      rfl
    · rw [State.startThenHandOut_of_empty (s := s.calibrated i (reference - raw) k) empty, (zoneTableOnly_startTests _).reference]
      rfl
  · exact if_pos ⟨valve, probe⟩
  · unfold State.zoneResponse
    rw [if_neg fun h => fault.elim h.1 h.2]
    split
    · next alone =>
      obtain ⟨stale, clear⟩ : fresh = false ∧ compareDone status = false := by simpa using alone
      subst stale
      exact .inl (State.zoneReadings_of_not (s := s.zoneCode i code) (fresh := false) raw reference (.inl clear)).symm
    · split
      · exact .inl rfl
      · exact .inr rfl

end Sys2Proof.Machine
end

section
/-! SUPPORT. The six timed events of a zone (R113, R121, R122, R124, R125, R127, R130, R131, R133, R134). Settles O46. -/

namespace Sys2Proof.Machine

section Timers
variable {s : State} {i : Nat}

/-! ## SETTLE_EXPIRY (R113) -/

theorem State.settleExpiry_of_none (h : (s.zone i).state ≠ .warming ∨ ∀ e, (s.zone i).settle ≠ .running e) :
    s.settleExpiry i = none := by
  unfold State.settleExpiry
  split
  · next warming running => exact (h.elim (· warming) (· _ running)).elim
  · rfl

theorem State.settleExpiry_of_uncalibrated {e : Nat} (warming : (s.zone i).state = .warming)
    (running : (s.zone i).settle = .running e) (uncalibrated : (s.zone i).calibrated = false) :
    s.settleExpiry i = some ((s.reach e).onZone i fun x => { x with settle := .settled }) := by
  rw [State.settleExpiry, warming, running]
  exact congrArg some (if_neg (by rw [show ((s.reach e).zone i).calibrated = false from uncalibrated]; exact nofun))

/-- The zone READY at `e`, before the start tests and the hand-out. -/
def State.madeReady (s : State) (i e : Nat) : State :=
  ((s.reach e).onZone i fun z => { z with state := .ready, settle := .stopped }).raise .zoneReady

theorem State.settleExpiry_of_calibrated {e : Nat} (warming : (s.zone i).state = .warming)
    (running : (s.zone i).settle = .running e) (calibrated : (s.zone i).calibrated = true) :
    s.settleExpiry i = some (s.madeReady i e).startThenHandOut := by
  rw [State.settleExpiry, warming, running]
  exact congrArg some (if_pos calibrated)

/-! ## PURGE_DEADLINE (R122) -/

theorem State.purgeFallsDue_of_none (h : (s.zone i).purgeDeadline = none ∨ (s.zone i).purgePending = true
    ∨ (s.zone i).state = .off ∨ (s.zone i).state = .fault ∨ (s.zone i).state = .purging) : s.purgeFallsDue i = none := by
  unfold State.purgeFallsDue
  split
  · rfl
  · next d deadline =>
    refine if_neg ?_
    rcases h with absent | pending | state | state | state
    · exact nomatch absent.symm.trans deadline
    · simp [pending]
    all_goals simp [state, ZoneState.steady]

theorem State.purgeFallsDue_of {d : Nat} (deadline : (s.zone i).purgeDeadline = some d)
    (fresh : (s.zone i).purgePending = false)
    (state : (s.zone i).state.steady = true ∨ (s.zone i).state = .calibrating) :
    s.purgeFallsDue i = some ((s.reach d).pendPurge i d) := by
  rw [State.purgeFallsDue, deadline]
  refine if_pos ?_
  rcases state with steady | calibrating
  · simp [fresh, steady]
  · simp [fresh, calibrating]

variable (low : 1 ≤ i) (high : i ≤ s.zsv.zones.length)

/-- Zone `i` made purge pending, due at `d`, before its start test. -/
def State.pended (s : State) (i d : Nat) : State :=
  s.onZone i fun z => { z with
    purgeDeadline := some d, purgePending := true, forceTime := some (d + s.zsv.purgeGrace * 1000) }

include low high

theorem State.pendPurge_waits (d : Nat)
    (waits : (s.zone i).occupied = true ∨ (s.zone i).state ≠ .ready ∧ (s.zone i).state ≠ .standby) :
    s.pendPurge i d = s.pended i d := by
  refine State.startTest_of_not_startsPurge (s := s.pended i d) ?_
  rw [State.pended, State.zone_onZone_same _ _ low high]
  rintro ⟨_, free, state⟩
  rcases waits with occupied | ⟨ready, standby⟩
  · exact nomatch occupied.symm.trans free
  · exact state.elim ready standby

theorem State.pendPurge_starts {k : ZoneReturn} (d : Nat) (free : (s.zone i).occupied = false) (other : k ≠ .warming)
    (state : (s.zone i).state = k.state) : s.pendPurge i d = s.onZone i fun z =>
      { z with purgeDeadline := some d }.purgeStarted k s.clock s.zsv.purgeDuration := by
  have zone : (s.pended i d).zone i = _ := s.zone_onZone_same _ low high
  have starts : ((s.pended i d).zone i).startsPurge := by
    rw [zone]
    refine ⟨rfl, free, ?_⟩
    rw [state]
    cases k with
    | warming => exact absurd rfl other
    | ready => exact .inl rfl
    | standby => exact .inr rfl
  have begun := State.startTest_of_startsPurge (k := k) starts (by rw [zone]; exact state)
  refine begun.trans ?_
  rw [State.pended, State.onZone_onZone]
  rfl

theorem State.purgeFallsDue_starts {k : ZoneReturn} {d : Nat} (deadline : (s.zone i).purgeDeadline = some d)
    (fresh : (s.zone i).purgePending = false) (free : (s.zone i).occupied = false) (other : k ≠ .warming)
    (state : (s.zone i).state = k.state) :
    s.purgeFallsDue i = some ((s.reach d).onZone i fun z => z.purgeStarted k (max s.clock d) s.zsv.purgeDuration) := by
  have steady : (s.zone i).state.steady = true := by rw [state]; cases k <;> rfl
  rw [State.purgeFallsDue_of deadline fresh (.inl steady), State.pendPurge_starts (s := s.reach d) low high d free other state]
  refine congrArg some (State.onZone_congr ?_)
  have same : { s.zone i with purgeDeadline := some d } = s.zone i := by rw [← deadline]
  exact congrArg (Zone.purgeStarted · k _ _) same

omit low high

/-! ## FORCE_TIME (R125) -/

theorem State.forcePurge_of_none (h : (s.zone i).forceTime = none ∨ (s.zone i).purgePending = false
    ∨ (s.zone i).state = .off ∨ (s.zone i).state = .fault ∨ (s.zone i).state = .purging) : s.forcePurge i = none := by
  unfold State.forcePurge
  split
  · rfl
  · next f time =>
    split
    · next pending =>
      rcases h with absent | fresh | state | state | state
      · exact nomatch absent.symm.trans time
      · exact nomatch fresh.symm.trans pending
      all_goals rw [state]
    · rfl

/-- What a forced purge begins in: the calibration of an owner is abandoned, and the zone requeued. -/
def State.forced (s : State) (i f : Nat) (k : ZoneReturn) : State :=
  if (s.zone i).state = .calibrating then ((s.reach f).releaseReference.beginPurge i k).joinQueue i
  else (s.reach f).beginPurge i k

theorem State.forcePurge_of {f : Nat} {k : ZoneReturn} (time : (s.zone i).forceTime = some f)
    (pending : (s.zone i).purgePending = true)
    (state : (s.zone i).state = k.state ∨ (s.zone i).state = .calibrating ∧ (s.zone i).ret = some k) :
    s.forcePurge i = some ((s.forced i f k).purgeForced i) := by
  rw [State.forcePurge, time]
  refine (if_pos pending).trans ?_
  rcases state with steady | ⟨calibrating, ret⟩
  · have other : (s.zone i).state ≠ .calibrating := by
      rw [steady]
      exact k.state_ne_calibrating
    rw [State.forced, if_neg other, steady]
    cases k <;> rfl
  · rw [State.forced, if_pos calibrating, calibrating, ret]
    rfl

/-! ## PURGE_END_TIME (R127) -/

theorem State.endPurge_of_none (h : (s.zone i).state ≠ .purging ∨ (s.zone i).purgeEnd = none) : s.endPurge i = none := by
  unfold State.endPurge
  split
  · next purging ends => exact h.elim (absurd purging) fun absent => nomatch absent.symm.trans ends
  · rfl

/-- The zone whose purge has ended at `e`, before it returns. -/
def State.purgeEnded (s : State) (i e : Nat) : State :=
  (s.reach e).onZone i fun z => { z with
    purgeEnd := none, purgeDeadline := some (max s.clock e + s.zsv.purgeInterval * 1000) }

theorem State.endPurge_of {e : Nat} (purging : (s.zone i).state = .purging) (ends : (s.zone i).purgeEnd = some e) :
    s.endPurge i = some ((s.purgeEnded i e).returnZone i).handOut := by
  rw [State.endPurge, purging, ends]
  rfl

/-! ## COMPARE_DEADLINE (R133) and CALIBRATION_DUE (R130) -/

theorem State.compareTimeout_of_none (free : s.zsv.reference = none) : s.compareTimeout = none := by
  rw [State.compareTimeout, free]
  rfl

theorem State.compareTimeout_of {r : RefOwner} (owner : s.zsv.reference = some r) :
    s.compareTimeout = some ((s.reach r.deadline).requeueOwner r.zone) := by
  rw [State.compareTimeout, owner]
  rfl

/-- Zone `i` whose calibration has fallen due at `d`, before it is queued. -/
def State.dueTaken (s : State) (i d : Nat) : State := (s.reach d).onZone i fun x => { x with calibrationDue := none }

theorem State.calibrationFallsDue_of_none (absent : (s.zone i).calibrationDue = none) : s.calibrationFallsDue i = none := by
  rw [State.calibrationFallsDue, absent]
  rfl

theorem State.dueTaken_state (d : Nat) : ((s.dueTaken i d).zone i).state = (s.zone i).state :=
  State.view_onZone Zone.state (s.reach d) i (fun _ => by rfl) i

theorem State.calibrationFallsDue_of_idle {d : Nat} (due : (s.zone i).calibrationDue = some d)
    (state : (s.zone i).state = .off ∨ (s.zone i).state = .fault ∨ (s.zone i).state = .calibrating) :
    s.calibrationFallsDue i = some (s.dueTaken i d) := by
  rw [State.calibrationFallsDue, due]
  refine congrArg some (if_neg ?_)
  have same := State.dueTaken_state (s := s) (i := i) d
  rw [State.dueTaken] at same
  rw [same]
  rcases state with state | state | state <;> simp [state, ZoneState.steady]

theorem State.calibrationFallsDue_of_asking {d : Nat} (due : (s.zone i).calibrationDue = some d) (off : (s.zone i).state ≠ .off)
    (fault : (s.zone i).state ≠ .fault) (calibrating : (s.zone i).state ≠ .calibrating) :
    s.calibrationFallsDue i = some ((s.dueTaken i d).queueCalibration i) := by
  rw [State.calibrationFallsDue, due]
  refine congrArg some (if_pos ?_)
  have same := State.dueTaken_state (s := s) (i := i) d
  rw [State.dueTaken] at same
  rw [same]
  cases state : (s.zone i).state <;> simp_all [ZoneState.steady]

end Timers

/-! ## What follows -/

theorem Zone.spared_of_purging {z : Zone} (purging : z.state = .purging) : ¬z.startsPurge ∧ ¬z.mayCompare := by
  constructor
  · rintro ⟨_, _, ready | standby⟩
    · exact nomatch purging.symm.trans ready
    · exact nomatch purging.symm.trans standby
  · rintro ⟨state | state | state, _⟩ <;> exact nomatch purging.symm.trans state

theorem Zone.spared_of_occupied {z : Zone} (occupied : z.occupied = true) : ¬z.startsPurge ∧ ¬z.mayCompare :=
  ⟨fun starts => (nomatch occupied.symm.trans starts.2.1), fun may => (nomatch occupied.symm.trans may.2)⟩

theorem State.reference_joinQueue (s : State) (i : Nat) : (s.joinQueue i).zsv.reference = s.zsv.reference := by
  unfold State.joinQueue
  split <;> rfl

/-- A zone that does not own the reference is queued once it has joined. -/
theorem State.mem_joinQueue {s : State} {i : Nat} (free : s.zsv.reference.map RefOwner.zone ≠ some i) :
    i ∈ (s.joinQueue i).zsv.calQueue := by
  by_cases queued : i ∈ s.zsv.calQueue
  · rwa [State.joinQueue_of_known (.inl queued)]
  · rw [State.joinQueue_of_new queued free]
    exact List.mem_append_right _ List.mem_cons_self

/-- What a forced purge changes beside the zones (R93, R125). -/
theorem State.purgeForced_frame {s t : State} (h : ZonesOnly s t) (i : Nat) : t.purgeForced i = { s with
    zsv := (t.purgeForced i).zsv
    str := { s.str with
      segments := s.str.segments.map fun g =>
        if s.overlapsZone g i then { g with flags := { g.flags with purged := true } } else g }
    evu := s.evu.raise .purgeForced } := by
  unfold ZonesOnly at h
  generalize t.zsv = v at h
  subst h
  exact (zoneWork_startThenHandOut _).zonesOnly

section Follows
variable {s : State} {i : Nat} {k : ZoneReturn} (low : 1 ≤ i) (high : i ≤ s.zsv.zones.length)
include low high

/-- A zone back from PURGING or CALIBRATING. -/
theorem State.zone_ownerReturned : (s.ownerReturned i k).zone i =
    { s.zone i with
      state := k.state, ret := none
      settle := if k = ZoneReturn.warming then
          if ((s.ownerReturned i k).zone i).inside (s.stationFresh i) s.band
          then .running (s.clock + s.zsv.settleTime) else .stopped
        else (s.zone i).settle } := by
  let v := s.onZone i fun z => { z with state := k.state, ret := none }
  have first : v.zone i = { s.zone i with state := k.state, ret := none } := s.zone_onZone_same _ low high
  have whole : (s.ownerReturned i k).zone i = { v.zone i with
      settle := if k = .warming then if v.insideBand i then .running (s.clock + s.zsv.settleTime) else .stopped
        else (v.zone i).settle } :=
    v.zone_onZone_same _ low (high.trans (length_modifyAt ..).ge)
  have inside : ((s.ownerReturned i k).zone i).inside (s.stationFresh i) s.band = v.insideBand i := by
    rw [whole]
    rfl
  rw [inside, whole, first]

/-- A forced purge: the zone PURGING, whoever of the others the reference goes to. -/
theorem State.zone_forced (f : Nat) : (s.forced i f k).zone i = (s.zone i).purgeStarted k (max s.clock f) s.zsv.purgeDuration := by
  have begun (t : State) (zones : t.zsv.zones = s.zsv.zones) (clock : t.clock = max s.clock f)
      (duration : t.zsv.purgeDuration = s.zsv.purgeDuration) :
      (t.beginPurge i k).zone i = (s.zone i).purgeStarted k (max s.clock f) s.zsv.purgeDuration := by
    have same : t.zone i = s.zone i := by rw [State.zone, zones]; rfl
    rw [State.beginPurge, State.zone_onZone_same _ _ low (by rw [zones]; exact high), same, clock, duration]
    rfl
  unfold State.forced
  split
  · rw [State.zone_joinQueue]
    exact begun _ rfl rfl rfl
  · exact begun _ rfl rfl rfl

omit low high in
theorem zonesOnly_forced (f : Nat) : ZonesOnly (s.reach f) (s.forced i f k) := by
  unfold State.forced
  split
  · exact (ZonesOnly.onZsv (s.reach f) _).trans ((zonesOnly_beginPurge ..).trans (zonesOnly_joinQueue ..))
  · exact zonesOnly_beginPurge ..

theorem State.purgeForced_forced (f : Nat) : ((s.forced i f k).purgeForced i).zone i =
      (s.zone i).purgeStarted k (max s.clock f) s.zsv.purgeDuration
    ∧ ((s.zone i).state = .calibrating → i ∈ ((s.forced i f k).purgeForced i).zsv.calQueue
      ∧ ((s.forced i f k).purgeForced i).zsv.reference.map RefOwner.zone ≠ some i) := by
  have zone := State.zone_forced (k := k) low high f
  obtain ⟨stands, spared⟩ := Zone.spared_of_purging (z := (s.forced i f k).zone i) (by rw [zone]; rfl)
  have spares := State.startThenHandOut_spares
    (s := ((s.forced i f k).flagZone i PanelFlags.setPurged).raise .purgeForced) stands (.inr spared)
  obtain ⟨same, queue, owner⟩ := spares
  refine ⟨same.trans zone, fun calibrating => ⟨queue.mpr ?_, mt owner.mp ?_⟩⟩
  · show i ∈ (s.forced i f k).zsv.calQueue
    rw [State.forced, if_pos calibrating]
    exact State.mem_joinQueue nofun
  · show (s.forced i f k).zsv.reference.map RefOwner.zone ≠ some i
    rw [State.forced, if_pos calibrating, State.reference_joinQueue]
    exact nofun

end Follows

/-- The owner of the reference back in state `k` at its deadline `e`, requeued, before the start tests and the hand-out (R133). -/
def State.timedOut (s : State) (i : Nat) (k : ZoneReturn) (e : Nat) : State :=
  { (s.reach e).ownerReturned i k with zsv := { ((s.reach e).ownerReturned i k).zsv with
      reference := none
      calQueue := if i ∈ s.zsv.calQueue then s.zsv.calQueue else s.zsv.calQueue ++ [i] } }

section TimedOut
variable {s : State} {i : Nat} {k : ZoneReturn} (low : 1 ≤ i) (high : i ≤ s.zsv.zones.length) (e : Nat)
include low high

theorem State.zone_timedOut : ((s.timedOut i k e).zone i).state = k.state ∧ ((s.timedOut i k e).zone i).ret = none
    ∧ ((s.timedOut i k e).zone i).occupied = (s.zone i).occupied
    ∧ ((s.timedOut i k e).zone i).purgePending = (s.zone i).purgePending
    ∧ ((s.timedOut i k e).zone i).calibrated = (s.zone i).calibrated := by
  have zone : (s.timedOut i k e).zone i = _ := State.zone_ownerReturned (s := s.reach e) low high
  rw [zone]
  exact ⟨rfl, rfl, rfl, rfl, rfl⟩

/-- An occupied owner waits in the queue for the reference. -/
theorem State.timedOut_waits (occupied : (s.zone i).occupied = true) :
    ((s.timedOut i k e).startThenHandOut.zone i).state = k.state ∧ ((s.timedOut i k e).startThenHandOut.zone i).ret = none
    ∧ i ∈ (s.timedOut i k e).startThenHandOut.zsv.calQueue
    ∧ (s.timedOut i k e).startThenHandOut.zsv.reference.map RefOwner.zone ≠ some i := by
  obtain ⟨state, ret, occupancy, -, -⟩ := State.zone_timedOut (k := k) low high e
  obtain ⟨stands, spared⟩ := Zone.spared_of_occupied (occupancy.trans occupied)
  obtain ⟨same, queue, owner⟩ := State.startThenHandOut_spares stands (.inr spared)
  rw [same]
  refine ⟨state, ret, queue.mpr ?_, mt owner.mp nofun⟩
  show i ∈ if i ∈ s.zsv.calQueue then s.zsv.calQueue else s.zsv.calQueue ++ [i]
  split
  · next queued => exact queued
  · exact List.mem_append_right _ List.mem_cons_self

/-- An unoccupied one, alone in the queue and with no purge to start, takes the reference again. -/
theorem State.timedOut_again (free : (s.zone i).occupied = false) (fresh : (s.zone i).purgePending = false)
    (empty : s.zsv.calQueue = []) : (s.timedOut i k e).handedAlone (s.timedOut i k e).startThenHandOut i k := by
  obtain ⟨state, -, occupancy, pending, -⟩ := State.zone_timedOut (k := k) low high e
  have table := zoneTableOnly_startTests (s.timedOut i k e)
  have stands : ¬((s.timedOut i k e).zone i).startsPurge := fun starts => (nomatch (pending.trans fresh).symm.trans starts.1)
  have tested := State.zone_startTests_of_not_startsPurge stands
  have entry : i ≤ (s.timedOut i k e).startTests.zsv.zones.length := by
    rw [State.length_zones_startTests]
    exact (high.trans (length_modifyAt ..).ge).trans (length_modifyAt ..).ge
  have single : (s.timedOut i k e).startTests.zsv.calQueue = [i] := by
    rw [table.calQueue]
    show (if i ∈ s.zsv.calQueue then s.zsv.calQueue else s.zsv.calQueue ++ [i]) = [i]
    rw [empty]
    rfl
  have may : ((s.timedOut i k e).startTests.zone i).mayCompare := by
    rw [tested]
    refine ⟨?_, occupancy.trans free⟩
    rw [state]
    cases k <;> decide
  have handed := State.handedAlone_handOut (k := k) low entry table.reference single may (by rw [tested]; exact state)
  unfold State.handedAlone at *
  rwa [tested, table.clock] at handed

end TimedOut

/-- Settles O46: what each event does is an equation, and what follows a release or a hand-over spares the zone or not. -/
theorem zoneTimers : Obligations.ZoneTimers := by
  refine ⟨fun t stands => State.settle_of_stands stands, fun i s low eight sized => ?_⟩
  have high : i ≤ s.zsv.zones.length := by
    obtain ⟨-, -, zones, -⟩ := sized
    exact eight.trans zones.ge
  have settled {o : Option State} {t : State} (h : o = some t) :
      (Host.Outcome.next (s.thenSettle o) : Host.Outcome State Fault Refusal) = .next t.settle := by rw [h]; rfl
  have idle {o : Option State} (h : o = none) :
      (Host.Outcome.next (s.thenSettle o) : Host.Outcome State Fault Refusal) = .next s := by rw [h]; rfl
  refine ⟨fun h => idle (State.settleExpiry_of_none h), fun e warming running => ⟨fun uncalibrated => ?_, fun calibrated => ?_⟩,
    fun h => idle (State.purgeFallsDue_of_none h), fun d deadline fresh => ⟨fun state => ?_,
      fun free => ⟨fun ready => ?_, fun standby => ?_⟩⟩,
    fun h => idle (State.forcePurge_of_none h), fun f k time pending state => ?_,
    fun h => idle (State.endPurge_of_none h), fun e k purging ends ret => ?_,
    fun free => idle (State.compareTimeout_of_none free), fun r k owner zone ret => ?_,
    fun absent => idle (State.calibrationFallsDue_of_none absent), fun d due =>
      ⟨fun state => ?_, fun off fault calibrating => ⟨?_, ?_⟩⟩⟩
  · exact settled (State.settleExpiry_of_uncalibrated warming running uncalibrated)
  · have zone : (s.madeReady i e).zone i = { s.zone i with state := .ready, settle := .stopped } :=
      (s.reach e).zone_onZone_same _ low high
    refine ⟨(s.madeReady i e).startThenHandOut, settled (State.settleExpiry_of_calibrated warming running calibrated),
      (zoneWork_startThenHandOut _).zonesOnly, fun fresh unqueued => ?_, fun pending free configured => ?_⟩
    · refine (State.startThenHandOut_spares (s := s.madeReady i e) ?_ (.inl unqueued)).1.trans zone
      rw [zone]
      exact fun starts => nomatch fresh.symm.trans starts.1
    · rw [State.zone_startThenHandOut_of_startsPurge (s := s.madeReady i e) (k := .ready) low configured
        (by rw [zone]; exact ⟨pending, free, .inl rfl⟩) (by rw [zone]; rfl)]
      rfl
  · have steady : (s.zone i).state.steady = true ∨ (s.zone i).state = .calibrating := by
      rcases state with state | state | ⟨state | state, _⟩ <;> rw [state] <;> decide
    have pended := settled (State.purgeFallsDue_of deadline fresh steady)
    rwa [State.pendPurge_waits (s := s.reach d) low high d ?_] at pended
    rcases state with state | state | ⟨-, occupied⟩
    · exact .inr ⟨fun ready => (nomatch state.symm.trans ready), fun standby => (nomatch state.symm.trans standby)⟩
    · exact .inr ⟨fun ready => (nomatch state.symm.trans ready), fun standby => (nomatch state.symm.trans standby)⟩
    · exact .inl occupied
  · exact settled (State.purgeFallsDue_starts low high deadline fresh free (k := .ready) nofun ready)
  · exact settled (State.purgeFallsDue_starts low high deadline fresh free (k := .standby) nofun standby)
  · have forced : (s.zone i).state = k.state ∨ (s.zone i).state = .calibrating ∧ (s.zone i).ret = some k := by
      rcases state with ⟨state, rfl⟩ | ⟨state, rfl⟩ | ⟨state, rfl⟩ | calibrating
      · exact .inl state
      · exact .inl state
      · exact .inl state
      · exact .inr calibrating
    obtain ⟨zone, requeued⟩ := State.purgeForced_forced (k := k) low high f
    exact ⟨(s.forced i f k).purgeForced i, settled (State.forcePurge_of time pending forced), zone,
      State.purgeForced_frame (zonesOnly_forced f) i, requeued⟩
  · let v := (s.purgeEnded i e).ownerReturned i k
    have ended : (s.purgeEnded i e).zone i = { s.zone i with
        purgeEnd := none, purgeDeadline := some (max s.clock e + s.zsv.purgeInterval * 1000) } :=
      (s.reach e).zone_onZone_same _ low high
    have returned : (s.purgeEnded i e).returnZone i = v := State.returnZone_eq (by rw [ended]; exact ret)
    have back : v.zone i = _ := State.zone_ownerReturned low (high.trans (length_modifyAt ..).ge)
    have work : ZoneWork (s.reach e) v.handOut := ZoneWork.trans (t := v) rfl (zoneWork_handOut v)
    refine ⟨v.handOut, (settled (State.endPurge_of purging ends)).trans (by rw [returned]), work.zonesOnly, fun spared => ?_⟩
    have same : v.handOut.zone i = v.zone i := by
      rcases spared with unqueued | owned
      · exact (State.handOut_spares (s := v) (.inl unqueued)).1
      · rw [State.handOut_of_ne_none (s := v) owned]
    rw [work.insideBand, same]
    refine back.trans ?_
    rw [ended]
    rfl
  · have back : s.compareTimeout = some (s.timedOut i k r.deadline).startThenHandOut := by
      rw [State.compareTimeout_of owner, zone, State.requeueOwner_eq (s := s.reach r.deadline) ret]
      rfl
    refine ⟨_, settled back, (ZoneWork.trans (t := s.timedOut i k r.deadline) rfl (zoneWork_startThenHandOut _)).zonesOnly,
      fun occupied _ => State.timedOut_waits low high _ occupied, fun free fresh empty => ?_⟩
    obtain ⟨-, -, -, -, calibrated⟩ := State.zone_timedOut (k := k) low high r.deadline
    obtain ⟨same, queue, reference⟩ := State.timedOut_again (k := k) low high r.deadline free fresh empty
    rw [same, queue, reference, calibrated]
    exact ⟨rfl, rfl, rfl, rfl⟩
  · exact settled (State.calibrationFallsDue_of_idle due state)
  · intro r owner unqueued other
    have asked := settled (State.calibrationFallsDue_of_asking due off fault calibrating)
    have free : (s.dueTaken i d).zsv.reference.map RefOwner.zone ≠ some i := by
      show s.zsv.reference.map RefOwner.zone ≠ some i
      rw [owner]
      exact fun same => other (Option.some.inj same)
    have owned : (s.dueTaken i d).zsv.reference ≠ none := fun none => (nomatch owner.symm.trans none)
    rwa [State.queueCalibration_of_owned (s := s.dueTaken i d) unqueued free owned] at asked
  · intro free empty purging unoccupied
    have zone : (s.dueTaken i d).zone i = { s.zone i with calibrationDue := none } := (s.reach d).zone_onZone_same _ low high
    obtain ⟨k, state⟩ : ∃ k : ZoneReturn, (s.zone i).state = k.state := by
      cases state : (s.zone i).state with
      | off => exact absurd state off
      | fault => exact absurd state fault
      | calibrating => exact absurd state calibrating
      | purging => exact absurd state purging
      | warming => exact ⟨.warming, rfl⟩
      | ready => exact ⟨.ready, rfl⟩
      | standby => exact ⟨.standby, rfl⟩
    obtain ⟨same, -, reference⟩ := State.handedAlone_queueCalibration (s := s.dueTaken i d) (k := k) low
      (high.trans (length_modifyAt ..).ge) free empty (by
        rw [zone]
        refine ⟨?_, unoccupied⟩
        show (s.zone i).state = .warming ∨ (s.zone i).state = .ready ∨ (s.zone i).state = .standby
        rw [state]
        cases k <;> decide) (by rw [zone]; exact state)
    refine ⟨_, settled (State.calibrationFallsDue_of_asking due off fault calibrating), ?_, ?_⟩
    · rw [same]
    · rw [reference, zone]
      rfl

end Sys2Proof.Machine
end

section
/-! SUPPORT. ZONE COMMAND on one zone (R107, R110, R111, R112, R115, R123, R130): what each accepted action makes of it. -/

namespace Sys2Proof.Machine

/-! ## The setpoint of a state (R106, R107) -/

/-- The zone with the setpoint of `k` under the zone profile, where there is one. -/
def Zone.took (profile : Option Profile) (k : ZoneReturn) (z : Zone) : Zone :=
  match profile with
  | none => z
  | some p => z.takeSetpoint p (p.setpointFor k)

theorem State.takeSetpoint_eq (s : State) (i : Nat) (k : ZoneReturn) :
    s.takeSetpoint i k = s.onZone i (Zone.took s.zoneProfile k) := by
  unfold State.takeSetpoint
  cases s.zoneProfile with
  | none => exact (s.onZone_id i).symm
  | some p => rfl

theorem Zone.took_frame (profile : Option Profile) (k : ZoneReturn) (z : Zone) : z.took profile k = { z with
    setpoint := (z.took profile k).setpoint, limit := (z.took profile k).limit, lowering := (z.took profile k).lowering } := by
  cases profile with
  | none => rfl
  | some p =>
    obtain ⟨setpoint, limit, lowering, frame⟩ := z.takeSetpoint_frame p (p.setpointFor k)
    show z.takeSetpoint p _ = _
    rw [Zone.took, frame]

/-- The setpoint of `k` under `p`. -/
def Profile.aim (p : Profile) (k : ZoneReturn) : Int := if k = .standby then (p.setTemp : Int) - p.standbyDrop else p.setTemp

theorem Profile.setpointFor_eq (p : Profile) (k : ZoneReturn) : p.setpointFor k = p.aim k := by cases k <;> rfl

/-- `new` has the setpoint, the limit and the lowering that `old` takes for `k`. -/
def Zone.takesFor (profile : Option Profile) (k : ZoneReturn) (old new : Zone) : Prop :=
  (profile = none → new.setpoint = old.setpoint ∧ new.limit = old.limit ∧ new.lowering = old.lowering)
  ∧ ∀ p, profile = some p → Zone.takes p (p.aim k) old new

theorem Zone.takesFor_took (profile : Option Profile) (k : ZoneReturn) (z : Zone) : z.takesFor profile k (z.took profile k) := by
  cases profile with
  | none => exact ⟨fun _ => ⟨rfl, rfl, rfl⟩, nofun⟩
  | some p =>
    refine ⟨nofun, fun q same => ?_⟩
    cases same
    rw [← p.setpointFor_eq]
    exact Zone.takes_takeSetpoint ..

theorem Zone.takes.setpoint {p : Profile} {sp : Int} {old new : Zone} (h : old.takes p sp new) : new.setpoint = some sp := by
  obtain ⟨changed, stood⟩ := h
  by_cases stands : old.setpoint = some sp
  · exact (stood stands).1.trans stands
  · exact (changed stands).1

section OneZone
variable (s : State) (i : Nat)

/-! ## The zone of each action -/

/-- WARM, before the hand-out. -/
def State.warmed : Zone :=
  let z := Zone.took s.zoneProfile .warming { s.zone i with
    state := .warming
    purgeDeadline := if (s.zone i).state = .off then some (s.clock + s.zsv.purgeInterval * 1000) else (s.zone i).purgeDeadline }
  { z with settle := if z.inside (s.stationFresh i) s.band then .running (s.clock + s.zsv.settleTime) else .stopped }

/-- STANDBY of a zone in WARMING or READY, before the start test and the hand-out. -/
def State.stoodBy : Zone := Zone.took s.zoneProfile .standby { s.zone i with state := .standby, settle := .stopped }

/-- STANDBY of a zone in PURGING or CALIBRATING. -/
def State.returnsLow : Zone := Zone.took s.zoneProfile .standby { s.zone i with ret := some .standby }

/-- OFF. -/
def State.shutOff : Zone := { s.zone i with
  state := .off, setpoint := none, limit := none, lowering := false, ret := none, settle := .stopped
  offset := 0, calibrated := false, calLimit := false, faultCause := none, purgeDeadline := none
  purgePending := false, forceTime := none, purgeEnd := none
  corrected := match (s.zone i).corrected, (s.zone i).lastRaw with
    | some _, some raw => some (max 0 (min raw 25000))
    | c, _ => c }

/-- PURGE, before the start test. -/
def State.pendedNow : Zone := { s.zone i with
  purgePending := true, purgeDeadline := some s.clock, forceTime := some (s.clock + s.zsv.purgeGrace * 1000) }

/-- The state with zone `i` replaced. -/
def State.put (z : Zone) : State := s.onZone i fun _ => z

/-- Zone `i` replaced and out of the queue, with `r` the owner of the reference. -/
def State.leftWith (z : Zone) (r : Option RefOwner) : State :=
  { s.put i z with zsv := { (s.put i z).zsv with calQueue := s.zsv.calQueue.filter fun j => j != i, reference := r } }

variable {s i}

theorem State.zone_put_other {z : Zone} {j : Nat} (other : j ≠ i) : (s.put i z).zone j = s.zone j := s.zone_onZone_other _ other

theorem State.returnToStandby_eq : (s.onZone i fun z => { z with ret := some .standby }).takeSetpoint i .standby =
    s.put i (s.returnsLow i) := by
  rw [State.takeSetpoint_eq, State.onZone_onZone]
  exact State.onZone_congr rfl

theorem State.standbyZone_eq : s.standbyZone i = ((s.put i (s.stoodBy i)).startTest i).handOut := by
  unfold State.standbyZone
  rw [State.takeSetpoint_eq, State.onZone_onZone]
  exact congrArg (fun t => (State.startTest t i).handOut) (State.onZone_congr rfl)

theorem State.pendPurge_eq : s.pendPurge i s.clock = (s.put i (s.pendedNow i)).startTest i :=
  congrArg (State.startTest · i) (State.onZone_congr rfl)

theorem State.offZone_eq : s.offZone i =
    if s.zsv.reference.map RefOwner.zone = some i then (s.leftWith i (s.shutOff i) none).startThenHandOut
    else s.leftWith i (s.shutOff i) s.zsv.reference := by
  have shut : { ((s.zone i).shut .off).withOffset 0 with
      lowering := false, calibrated := false, calLimit := false, faultCause := none } = s.shutOff i := by
    dsimp only [Zone.shut, Zone.withOffset, State.shutOff]
    cases (s.zone i).corrected with
    | none => rfl
    | some c => cases (s.zone i).lastRaw <;> simp [satTemp]
  have put : (s.onZone i fun z => { (z.shut .off).withOffset 0 with
      lowering := false, calibrated := false, calLimit := false, faultCause := none }) = s.put i (s.shutOff i) :=
    State.onZone_congr shut
  unfold State.offZone State.dropCalibration
  rw [put]
  have owns : (s.put i (s.shutOff i)).ownsReference i = true ↔ s.zsv.reference.map RefOwner.zone = some i :=
    State.ownsReference_iff _ i
  by_cases owner : s.zsv.reference.map RefOwner.zone = some i
  · rw [if_pos (owns.mpr owner), if_pos owner]
    rfl
  · rw [if_neg (mt owns.mp owner), if_neg owner]
    rfl

variable (low : 1 ≤ i) (high : i ≤ s.zsv.zones.length)
include low high

theorem State.zone_put (z : Zone) : (s.put i z).zone i = z := s.zone_onZone_same _ low high

theorem State.warmZone_eq : s.warmZone i = (s.put i (s.warmed i)).handOut := by
  let g (z : Zone) : Zone := { z with
    state := .warming
    purgeDeadline := if (s.zone i).state == .off then some (s.clock + s.zsv.purgeInterval * 1000) else z.purgeDeadline }
  let t := s.onZone i fun z => (g z).took s.zoneProfile .warming
  have took : (s.onZone i g).takeSetpoint i .warming = t := by
    rw [State.takeSetpoint_eq, State.onZone_onZone]
    rfl
  have zone : t.zone i = (g (s.zone i)).took s.zoneProfile .warming := s.zone_onZone_same _ low high
  have deadline : g (s.zone i) = { s.zone i with
      state := .warming
      purgeDeadline := if (s.zone i).state = .off then some (s.clock + s.zsv.purgeInterval * 1000)
        else (s.zone i).purgeDeadline } := by
    simp only [g, beq_iff_eq]
  have settled : t.restartSettle i = s.put i (s.warmed i) := by
    unfold State.restartSettle
    rw [(ZoneWork.onZone s i _ : ZoneWork s t).insideBand, zone, State.onZone_onZone]
    refine State.onZone_congr ?_
    rw [deadline]
    rfl
  show (((s.onZone i g).takeSetpoint i .warming).restartSettle i).handOut = _
  rw [took, settled]

/-- The settle timer of a warmed zone follows whether that zone is inside the band. -/
theorem State.warmed_eq : s.warmed i = { s.zone i with
    state := .warming, setpoint := (s.warmed i).setpoint, limit := (s.warmed i).limit, lowering := (s.warmed i).lowering
    settle := if (s.put i (s.warmed i)).insideBand i then .running (s.clock + s.zsv.settleTime) else .stopped
    purgeDeadline := if (s.zone i).state = .off then some (s.clock + s.zsv.purgeInterval * 1000)
      else (s.zone i).purgeDeadline } := by
  have inside : (s.put i (s.warmed i)).insideBand i = (s.warmed i).inside (s.stationFresh i) s.band := by
    have work : ZoneWork s (s.put i (s.warmed i)) := .onZone s i _
    rw [work.insideBand, State.zone_put low high]
  rw [inside]
  unfold State.warmed
  dsimp only
  rw [Zone.took_frame]
  rfl

end OneZone

end Sys2Proof.Machine
end

section
/-! SUPPORT. The table of ZONE COMMAND, row by row, what each accepted action leaves of the zone and of the others, and the request
(R109, R110, R205). Settles O45. -/

namespace Sys2Proof.Machine

/-! ## The table (R110) -/

/-- What an accepted action makes of `s`. -/
def State.acts (s : State) (i : Nat) : ZoneAction → State → Prop
  | .warm, t => t = s.warmZone i
  | .standby, t => (((s.zone i).state = .warming ∨ (s.zone i).state = .ready) ∧ t = s.standbyZone i)
      ∨ (((s.zone i).state = .purging ∨ (s.zone i).state = .calibrating) ∧ t = s.put i (s.returnsLow i))
  | .off, t => t = s.offZone i
  | .calibrate, t => ((s.zone i).state ≠ .off ∧ (s.zone i).state ≠ .fault ∧ (s.zone i).state ≠ .calibrating)
      ∧ t = s.queueCalibration i
  | .purge, t => t = s.pendPurge i s.clock

/-- The byte of each outcome as R110's table gives it. -/
def State.tableOutcome (s : State) (i : Nat) (act : ZoneAction) : Byte :=
  match act, (s.zone i).state with
  | .warm, .off => if s.zoneProfile = none ∨ (s.station i).state = .lost then 3#8 else 1#8
  | .warm, .warming => 2#8
  | .warm, .ready => 2#8
  | .warm, .standby => 1#8
  | .warm, _ => 3#8
  | .standby, .off => 3#8
  | .standby, .fault => 3#8
  | .standby, .warming => 1#8
  | .standby, .ready => 1#8
  | .standby, .standby => 2#8
  | .standby, _ => if (s.zone i).ret = some .standby then 2#8 else 1#8
  | .off, .off => 2#8
  | .off, _ => 1#8
  | .calibrate, .off => 3#8
  | .calibrate, .fault => 3#8
  | .calibrate, .calibrating => 2#8
  | .calibrate, _ => 1#8
  | .purge, .off => 3#8
  | .purge, .fault => 3#8
  | .purge, .purging => 2#8
  | .purge, _ => if (s.zone i).purgePending then 2#8 else 1#8

/-- `r` gives the outcome `out`, with `s` as it was, or with what `made` says where it is ACCEPTED. -/
def State.row (s : State) (made : State → Prop) (r : State × ZoneOutcome) (out : Byte) : Prop :=
  r.2.code = out ∧ (out ≠ 1#8 → r.1 = s) ∧ (out = 1#8 → made r.1)

section Rows
variable {s : State} {made : State → Prop}

theorem State.row_noChange : s.row made (s, .noChange) 2#8 := ⟨rfl, fun _ => rfl, fun h => absurd h (by decide)⟩
theorem State.row_refused : s.row made (s, .refused) 3#8 := ⟨rfl, fun _ => rfl, fun h => absurd h (by decide)⟩
theorem State.row_accepted {t : State} (h : made t) : s.row made (t, .accepted) 1#8 := ⟨rfl, fun h => absurd rfl h, fun _ => h⟩

theorem State.row_ite {c d : Prop} [Decidable c] [Decidable d] (same : c ↔ d) {r q : State × ZoneOutcome} {o p : Byte}
    (h : s.row made r o) (k : s.row made q p) : s.row made (if c then r else q) (if d then o else p) := by
  by_cases holds : c
  · rwa [if_pos holds, if_pos (same.mp holds)]
  · rwa [if_neg holds, if_neg (mt same.mpr holds)]

end Rows

section Table
variable (s : State) (i : Nat)

theorem State.row_warm : s.row (s.acts i .warm) (s.zoneAction .warm i) (s.tableOutcome i .warm) := by
  have accepted : s.row (s.acts i .warm) (s.warmZone i, .accepted) 1#8 := State.row_accepted rfl
  have needs : (s.zoneProfile.isNone || s.stationLost i) = true ↔ s.zoneProfile = none ∨ (s.station i).state = .lost := by
    simp [State.stationLost]
  unfold State.zoneAction State.tableOutcome
  cases (s.zone i).state with
  | off => exact State.row_ite needs State.row_refused accepted
  | warming | ready => exact State.row_noChange
  | standby => exact accepted
  | fault | purging | calibrating => exact State.row_refused

theorem State.row_standby : s.row (s.acts i .standby) (s.zoneAction .standby i) (s.tableOutcome i .standby) := by
  have returns (held : (s.zone i).state = .purging ∨ (s.zone i).state = .calibrating) :
      s.row (s.acts i .standby) (s.returnToStandby i) (if (s.zone i).ret = some .standby then 2#8 else 1#8) :=
    State.row_ite Iff.rfl State.row_noChange (State.row_accepted (.inr ⟨held, State.returnToStandby_eq⟩))
  have lowers (heats : (s.zone i).state = .warming ∨ (s.zone i).state = .ready) :
      s.row (s.acts i .standby) (s.standbyZone i, .accepted) 1#8 := State.row_accepted (.inl ⟨heats, rfl⟩)
  unfold State.zoneAction State.tableOutcome
  cases state : (s.zone i).state with
  | off | fault => exact State.row_refused
  | warming => exact lowers (.inl state)
  | ready => exact lowers (.inr state)
  | standby => exact State.row_noChange
  | purging => exact returns (.inl state)
  | calibrating => exact returns (.inr state)

theorem State.row_off : s.row (s.acts i .off) (s.zoneAction .off i) (s.tableOutcome i .off) := by
  unfold State.zoneAction State.tableOutcome
  cases (s.zone i).state with
  | off => exact State.row_noChange
  | warming | ready | standby | purging | calibrating | fault => exact State.row_accepted rfl

theorem State.row_calibrate : s.row (s.acts i .calibrate) (s.zoneAction .calibrate i) (s.tableOutcome i .calibrate) := by
  have asks (other : (s.zone i).state ≠ .off ∧ (s.zone i).state ≠ .fault ∧ (s.zone i).state ≠ .calibrating) :
      s.row (s.acts i .calibrate) (s.queueCalibration i, .accepted) 1#8 := State.row_accepted ⟨other, rfl⟩
  unfold State.zoneAction State.tableOutcome
  cases state : (s.zone i).state with
  | off | fault => exact State.row_refused
  | calibrating => exact State.row_noChange
  | warming | ready | standby | purging => exact asks (by simp [state])

theorem State.row_purge : s.row (s.acts i .purge) (s.zoneAction .purge i) (s.tableOutcome i .purge) := by
  have pends : s.row (s.acts i .purge) (s.purgeCommand i) (if (s.zone i).purgePending then 2#8 else 1#8) :=
    State.row_ite Iff.rfl State.row_noChange (State.row_accepted rfl)
  unfold State.zoneAction State.tableOutcome
  cases (s.zone i).state with
  | off | fault => exact State.row_refused
  | purging => exact State.row_noChange
  | warming | ready | standby | calibrating => exact pends

theorem State.row_zoneAction (act : ZoneAction) : s.row (s.acts i act) (s.zoneAction act i) (s.tableOutcome i act) := by
  cases act with
  | warm => exact s.row_warm i
  | standby => exact s.row_standby i
  | off => exact s.row_off i
  | calibrate => exact s.row_calibrate i
  | purge => exact s.row_purge i

end Table

/-! ## The other zones -/

/-- The hand-out has nothing to do: the reference is owned, or nobody is queued. -/
def State.busy (s : State) : Prop := s.zsv.reference ≠ none ∨ s.zsv.calQueue = []

theorem State.handOut_of_busy {s : State} (busy : s.busy) : s.handOut = s := by
  rcases busy with owned | empty
  · exact State.handOut_of_ne_none owned
  · exact State.handOut_of_none fun j queued => by rw [empty] at queued; cases queued

theorem ZoneTableOnly.busy {s t : State} (h : ZoneTableOnly s t) (busy : s.busy) : t.busy := by
  rwa [State.busy, h.reference, h.calQueue]

theorem zoneTableOnly_put (s : State) (i : Nat) (z : Zone) : ZoneTableOnly s (s.put i z) := .onZone s i _

theorem zoneTableOnly_putTested (s : State) (i : Nat) (z : Zone) : ZoneTableOnly s ((s.put i z).startTest i) :=
  (zoneTableOnly_put s i z).trans (zoneTableOnly_startTest _ i)

section Others
variable {s t : State} {i j : Nat}

theorem State.zone_putTested_other {z : Zone} (other : j ≠ i) : ((s.put i z).startTest i).zone j = s.zone j :=
  (State.zone_startTest_other _ other).trans (State.zone_put_other other)

theorem State.zone_queueCalibration_other (busy : s.busy) (other : j ≠ i) : (s.queueCalibration i).zone j = s.zone j := by
  by_cases known : i ∈ s.zsv.calQueue ∨ s.zsv.reference.map RefOwner.zone = some i
  · rw [State.queueCalibration, State.joinQueue_of_known known, State.handOut_of_busy busy]
  · obtain ⟨unqueued, free⟩ := not_or.mp known
    rcases busy with owned | empty
    · rw [State.queueCalibration_of_owned unqueued free owned]
      rfl
    · rw [State.queueCalibration, State.joinQueue_of_new unqueued free]
      refine (State.handOut_spares (.inl ?_)).1
      show j ∉ s.zsv.calQueue ++ [i]
      rw [empty]
      simpa using other

theorem State.zone_acts_other (low : 1 ≤ i) (high : i ≤ s.zsv.zones.length) {act : ZoneAction} (acted : s.acts i act t)
    (busy : s.busy) (free : s.zsv.reference.map RefOwner.zone ≠ some i) (other : j ≠ i) : t.zone j = s.zone j := by
  cases act with
  | warm =>
    cases acted
    rw [State.warmZone_eq low high, State.handOut_of_busy ((zoneTableOnly_put ..).busy busy)]
    exact State.zone_put_other other
  | standby =>
    rcases acted with ⟨_, rfl⟩ | ⟨_, rfl⟩
    · rw [State.standbyZone_eq, State.handOut_of_busy ((zoneTableOnly_putTested ..).busy busy)]
      exact State.zone_putTested_other other
    · exact State.zone_put_other other
  | off =>
    cases acted
    rw [State.offZone_eq, if_neg free]
    exact State.zone_put_other (z := s.shutOff i) other
  | calibrate =>
    obtain ⟨_, rfl⟩ := acted
    exact State.zone_queueCalibration_other busy other
  | purge =>
    cases acted
    rw [State.pendPurge_eq]
    exact State.zone_putTested_other other

end Others

/-! ## The zone itself -/

section Acted
variable {s : State} {i : Nat} (low : 1 ≤ i) (high : i ≤ s.zsv.zones.length)

theorem State.takesFor_warmed : (s.zone i).takesFor s.zoneProfile .warming (s.warmed i) :=
  Zone.takesFor_took s.zoneProfile .warming { s.zone i with
    state := .warming
    purgeDeadline := if (s.zone i).state = .off then some (s.clock + s.zsv.purgeInterval * 1000) else (s.zone i).purgeDeadline }

theorem State.takesFor_stoodBy : (s.zone i).takesFor s.zoneProfile .standby (s.stoodBy i) :=
  Zone.takesFor_took s.zoneProfile .standby { s.zone i with state := .standby, settle := .stopped }

theorem State.takesFor_returnsLow : (s.zone i).takesFor s.zoneProfile .standby (s.returnsLow i) :=
  Zone.takesFor_took s.zoneProfile .standby { s.zone i with ret := some .standby }

theorem State.stoodBy_eq : s.stoodBy i = { s.zone i with
    state := .standby, settle := .stopped, setpoint := (s.stoodBy i).setpoint, limit := (s.stoodBy i).limit
    lowering := (s.stoodBy i).lowering } := Zone.took_frame ..

theorem State.returnsLow_eq : s.returnsLow i = { s.zone i with
    ret := some .standby, setpoint := (s.returnsLow i).setpoint, limit := (s.returnsLow i).limit
    lowering := (s.returnsLow i).lowering } := Zone.took_frame ..

theorem Zone.takesFor.setpoint {profile : Option Profile} {k : ZoneReturn} {old new : Zone} (h : old.takesFor profile k new)
    {p : Profile} (stands : profile = some p) : new.setpoint = some (p.aim k) :=
  (h.2 p stands).setpoint

include low high

theorem State.setpoint_standbyZone : ((s.standbyZone i).zone i).setpoint = (s.stoodBy i).setpoint := by
  obtain ⟨state, ret, settle, handed⟩ := ((s.put i (s.stoodBy i)).startTest i).zone_handOut_frame i
  rw [State.standbyZone_eq, handed, State.zone_startTest_same, State.zone_put low high]
  by_cases starts : (s.stoodBy i).startsPurge
  · rw [Zone.tested_of_startsPurge (k := .standby) starts (by rw [State.stoodBy_eq]; rfl)]
    rfl
  · rw [Zone.tested_of_not_startsPurge starts]

/-- A pending purge starts as the zone comes to STANDBY unoccupied. -/
theorem State.standbyZone_purges (pending : (s.zone i).purgePending = true) (free : (s.zone i).occupied = false) :
    ((s.standbyZone i).zone i).state = .purging ∧ ((s.standbyZone i).zone i).ret = some .standby := by
  have starts : (s.stoodBy i).startsPurge := by
    rw [State.stoodBy_eq]
    exact ⟨pending, free, .inr rfl⟩
  have zone : ((s.put i (s.stoodBy i)).startTest i).zone i = (s.stoodBy i).purgeStarted .standby s.clock s.zsv.purgeDuration := by
    rw [State.zone_startTest_same, State.zone_put low high,
      Zone.tested_of_startsPurge (k := .standby) starts (by rw [State.stoodBy_eq]; rfl)]
    rfl
  have spared := (Zone.spared_of_purging (z := ((s.put i (s.stoodBy i)).startTest i).zone i) (by rw [zone]; rfl)).2
  rw [State.standbyZone_eq, (State.handOut_spares (.inr spared)).1, zone]
  exact ⟨rfl, rfl⟩

theorem State.standbyZone_stands (stands : (s.zone i).purgePending = false ∨ (s.zone i).occupied = true) (busy : s.busy) :
    (s.standbyZone i).zone i = s.stoodBy i := by
  have waits : ¬(s.stoodBy i).startsPurge := by
    rw [State.stoodBy_eq]
    rintro ⟨pending, free, _⟩
    rcases stands with none | occupied
    · exact nomatch none.symm.trans pending
    · exact nomatch occupied.symm.trans free
  rw [State.standbyZone_eq, State.handOut_of_busy ((zoneTableOnly_putTested ..).busy busy), State.zone_startTest_same,
    State.zone_put low high, Zone.tested_of_not_startsPurge waits]

theorem State.warmZone_stands (busy : s.busy) : s.warmZone i = s.put i (s.warmed i) := by
  rw [State.warmZone_eq low high, State.handOut_of_busy ((zoneTableOnly_put ..).busy busy)]

theorem State.offZone_spec : (s.offZone i).zone i = s.shutOff i ∧ i ∉ (s.offZone i).zsv.calQueue
    ∧ (s.offZone i).zsv.reference.map RefOwner.zone ≠ some i := by
  have zone (r : Option RefOwner) : (s.leftWith i (s.shutOff i) r).zone i = s.shutOff i := State.zone_put low high _
  have gone : i ∉ s.zsv.calQueue.filter fun j => j != i := by simp
  rw [State.offZone_eq]
  split
  · have spares := State.startThenHandOut_spares (s := s.leftWith i (s.shutOff i) none) (j := i)
      (by rw [zone]; exact fun starts => (nomatch starts.1)) (.inl gone)
    obtain ⟨same, queue, owner⟩ := spares
    exact ⟨same.trans (zone none), mt queue.mp gone, mt owner.mp nofun⟩
  · next free => exact ⟨zone _, gone, free⟩

/-- A purge commanded on a READY or STANDBY zone that is not occupied starts at once, as any pending one. -/
theorem State.pendPurge_now (state : (s.zone i).state = .ready ∨ (s.zone i).state = .standby) (free : (s.zone i).occupied = false) :
    ((s.pendPurge i s.clock).zone i).state = .purging
    ∧ ((s.pendPurge i s.clock).zone i).purgeEnd = some (s.clock + s.zsv.purgeDuration * 1000)
    ∧ ((s.pendPurge i s.clock).zone i).purgePending = false := by
  obtain ⟨k, same⟩ : ∃ k : ZoneReturn, (s.zone i).state = k.state := by
    rcases state with ready | standby
    · exact ⟨.ready, ready⟩
    · exact ⟨.standby, standby⟩
  have starts : (s.pendedNow i).startsPurge := ⟨rfl, free, state⟩
  rw [State.pendPurge_eq, State.zone_startTest_same, State.zone_put low high, Zone.tested_of_startsPurge starts same]
  exact ⟨rfl, rfl, rfl⟩

theorem State.pendPurge_later (waits : (s.zone i).state = .warming ∨ (s.zone i).state = .calibrating ∨ (s.zone i).occupied = true) :
    (s.pendPurge i s.clock).zone i = s.pendedNow i := by
  rw [State.pendPurge_eq, State.zone_startTest_same, State.zone_put low high]
  refine Zone.tested_of_not_startsPurge ?_ ..
  rintro ⟨_, free, state⟩
  change (s.zone i).occupied = false at free
  change (s.zone i).state = .ready ∨ (s.zone i).state = .standby at state
  rcases waits with warming | calibrating | occupied
  · rw [warming] at state
    exact state.elim nofun nofun
  · rw [calibrating] at state
    exact state.elim nofun nofun
  · exact nomatch occupied.symm.trans free

end Acted

end Sys2Proof.Machine
end

section
/-! SUPPORT. ZONE COMMAND as a request (R109, R205), and the whole of O45. -/

namespace Sys2Proof.Machine

/-! ## The request -/

theorem ZoneAction.ofCode_eq_none_iff (b : Byte) : ZoneAction.ofCode b = none ↔ b.toNat < 1 ∨ 5 < b.toNat := by
  simp only [ZoneAction.ofCode, ← BitVec.toNat_inj]
  split_ifs <;> simp_all
  omega

theorem ZoneOutcome.code_injective : Function.Injective ZoneOutcome.code := by
  intro a b same
  cases a <;> cases b <;> first | rfl | cases same

theorem zoneStatus_code (outcomes : List ZoneOutcome) :
    (zoneStatus outcomes).code = if 3#8 ∈ outcomes.map ZoneOutcome.code then 0x02#8 else 0x00#8 := by
  have refused : 3#8 ∈ outcomes.map ZoneOutcome.code ↔ outcomes.contains .refused = true := by
    rw [List.contains_iff_mem]
    exact List.mem_map_of_injective ZoneOutcome.code_injective (a := .refused)
  unfold zoneStatus
  by_cases some : outcomes.contains .refused = true
  · rw [if_pos some, if_pos (refused.mpr some)]
    rfl
  · rw [if_neg some, if_neg (mt refused.mp some)]
    rfl

theorem State.length_zoneActions (a : ZoneAction) (l : List Nat) (s : State) : (State.zoneActions a l s).2.length = l.length := by
  induction l generalizing s with
  | nil => rfl
  | cons i rest ih => exact congrArg (· + 1) (ih _)

/-- The zones one after another, as one fold. -/
theorem State.foldl_zoneAction (a : ZoneAction) (l : List Nat) (s : State) (codes : List Byte) :
    l.foldl (fun acc i => ((acc.1.zoneAction a i).1, acc.2 ++ [(acc.1.zoneAction a i).2.code])) (s, codes)
      = ((State.zoneActions a l s).1, codes ++ (State.zoneActions a l s).2.map ZoneOutcome.code) := by
  induction l generalizing s codes with
  | nil => simp [State.zoneActions]
  | cons i rest ih =>
    rw [List.foldl_cons, ih, List.append_assoc]
    rfl

section Request
variable (tag : BitVec 16) (z b : Byte) {s : State} (taken : s.taken)

theorem fieldAt_zone : fieldAt [z, b] 0 1 = z.toNat := fieldAt_one (bs := [z, b]) (k := 0) (by simp)

include taken

theorem exec_zoneCommand_out_of_range (outside : (b.toNat < 1 ∨ 5 < b.toNat) ∨ s.zoneCount < z.toNat) :
    exec (.zoneCommand tag [z, b]) s = .next (s.onlyReplies 0x40#8 tag [0x03#8]) := by
  refine congrArg Host.Outcome.next (hostRequest_refused 0x40#8 .configuredOnly handleZoneCommand tag [z, b] taken ?_)
  unfold handleZoneCommand
  dsimp only
  rw [if_neg (by simp), fieldAt_zone]
  split
  · rfl
  · next act code =>
    refine if_pos (outside.resolve_left fun none => ?_)
    exact nomatch ((ZoneAction.ofCode_eq_none_iff b).mpr none).symm.trans code

theorem exec_zoneCommand_stopped (configured : z.toNat ≤ s.zoneCount) (stopped : s.slm.mode = .stopped) {act : ZoneAction}
    (code : ZoneAction.ofCode b = some act) :
    exec (.zoneCommand tag [z, b]) s = .next (s.onlyReplies 0x40#8 tag [0x02#8]) := by
  refine congrArg Host.Outcome.next (hostRequest_refused 0x40#8 .configuredOnly handleZoneCommand tag [z, b] taken ?_)
  unfold handleZoneCommand
  dsimp only
  rw [if_neg (by simp), fieldAt_zone, show byteAt [z, b] 1 = b from rfl, code]
  exact (if_neg (not_lt.mpr configured)).trans (if_pos stopped)

theorem exec_zoneCommand_of (configured : z.toNat ≤ s.zoneCount) (scanning : s.slm.mode ≠ .stopped) {act : ZoneAction}
    (code : ZoneAction.ofCode b = some act) :
    let r := State.zoneActions act (s.namedZones z.toNat) s.restartSilence
    exec (.zoneCommand tag [z, b]) s = .next (r.1.settle.pushReply 0x40#8 tag
      ((if 3#8 ∈ r.2.map ZoneOutcome.code then 0x02#8 else 0x00#8) :: BitVec.ofNat 8 (s.namedZones z.toNat).length
        :: r.2.map ZoneOutcome.code)) := by
  intro r
  have handled : handleZoneCommand [z, b] s.restartSilence =
      (r.1.settle, (zoneStatus r.2).code :: countedList (fun o => [ZoneOutcome.code o]) r.2) := by
    unfold handleZoneCommand
    dsimp only
    rw [if_neg (by simp), fieldAt_zone, show byteAt [z, b] 1 = b from rfl, code]
    exact (if_neg (not_lt.mpr configured)).trans (if_neg scanning)
  show Host.Outcome.next (hostRequest 0x40#8 .configuredOnly handleZoneCommand tag [z, b] s) = _
  rw [hostRequest_taken 0x40#8 .configuredOnly handleZoneCommand tag [z, b] taken, handled, zoneStatus_code, countedList,
    State.length_zoneActions, ← List.map_eq_flatMap]

end Request

/-- One zone's outcome, as the reply carries it. -/
theorem zoneStatus_one (o : ZoneOutcome) :
    (if 3#8 ∈ [o].map ZoneOutcome.code then (0x02#8 : Byte) else 0x00#8) = if o = .refused then 0x02#8 else 0x00#8 := by
  cases o <;> rfl

/-! ## The statement -/

/-- The queue and the owner after CALIBRATE. -/
theorem State.queueCalibration_cases (s : State) (i : Nat) :
    (i ∈ s.zsv.calQueue ∨ s.zsv.reference.map RefOwner.zone = some i → s.queueCalibration i = s.handOut)
    ∧ (i ∉ s.zsv.calQueue → s.zsv.reference.map RefOwner.zone ≠ some i →
      s.queueCalibration i = ({ s with zsv := { s.zsv with calQueue := s.zsv.calQueue ++ [i] } } : State).handOut) := by
  refine ⟨fun known => ?_, fun unqueued free => ?_⟩
  · rw [State.queueCalibration, State.joinQueue_of_known known]
  · rw [State.queueCalibration, State.joinQueue_of_new unqueued free]

theorem Zone.mayCompare_of_not {z : Zone} (off : z.state ≠ .off) (fault : z.state ≠ .fault) (calibrating : z.state ≠ .calibrating)
    (purging : z.state ≠ .purging) (free : z.occupied = false) : z.mayCompare := by
  refine ⟨?_, free⟩
  cases state : z.state with
  | off => exact absurd state off
  | fault => exact absurd state fault
  | calibrating => exact absurd state calibrating
  | purging => exact absurd state purging
  | warming | ready | standby => simp

/-- Settles O45: the request, the start test and the hand-out, and the table row by row with what each accepted action makes. -/
theorem zoneCommandTable : Obligations.ZoneCommandTable := by
  refine ⟨fun tag z b s taken => ⟨exec_zoneCommand_out_of_range tag z b taken, fun first last configured =>
      ⟨fun stopped => ?_, fun scanning act code => ⟨fun one => ?_, fun all => ?_⟩⟩, rfl⟩,
    fun s => ⟨fun i => ⟨State.startTest_of_not_startsPurge, fun k starts state => State.startTest_of_startsPurge starts state⟩,
      ⟨zoneTableOnly_startTests s, fun _ _ i => ⟨fun stands => ?_, fun k low configured starts state =>
        State.zone_startTests_of_startsPurge low configured starts state⟩⟩,
      fun r owned => State.handOut_of_owned owned, fun _ none => State.handOut_of_none none,
      fun free before i after queue others may k state => State.handOut_of_first free queue others may state⟩,
    fun act i s sized low configured eight => ?_⟩
  · obtain ⟨act, code⟩ := Option.ne_none_iff_exists'.mp (mt (ZoneAction.ofCode_eq_none_iff b).mp (by omega))
    exact exec_zoneCommand_stopped tag z b taken configured stopped code
  · have named : s.namedZones z.toNat = [z.toNat] :=
      if_neg fun zero => one (BitVec.eq_of_toNat_eq zero)
    rw [exec_zoneCommand_of tag z b taken configured scanning code, named]
    exact congrArg (fun status => Host.Outcome.next ((State.settle _).pushReply 0x40#8 tag (status :: _))) (zoneStatus_one _)
  · have named : s.namedZones z.toNat = List.range' 1 s.zoneCount := if_pos (by rw [all]; rfl)
    rw [exec_zoneCommand_of tag z b taken configured scanning code, named, State.foldl_zoneAction, List.nil_append,
      List.length_range']
  · by_cases named : 1 ≤ i ∧ i ≤ s.zoneCount
    · exact State.zone_startTests_of_not_startsPurge fun starts => stands ⟨named.1, named.2, starts⟩
    · rw [State.zone_startTests, if_neg named]
  · have high : i ≤ s.zsv.zones.length := by
      obtain ⟨-, -, zones, -⟩ := sized
      exact eight.trans zones.ge
    obtain ⟨code, same, acted⟩ := s.row_zoneAction i act
    refine ⟨code, zonesOnly_zoneAction s act i, same, fun busy free j other => ?_, fun accepted => ?_⟩
    · by_cases accepted : s.tableOutcome i act = 1#8
      · exact State.zone_acts_other low high (acted accepted) busy free other
      · rw [same accepted]
    · replace acted := acted accepted
      dsimp only
      generalize (s.zoneAction act i).1 = t at acted
      cases act with
      | warm =>
        subst acted
        have zone := State.warmed_eq low high
        refine ⟨fun _ => ⟨s.warmed i, State.warmZone_eq low high, State.takesFor_warmed, zone⟩,
          nofun, nofun, nofun, nofun, nofun, fun _ busy => ?_, nofun, nofun, nofun, nofun⟩
        rw [State.warmZone_stands low high busy, State.zone_put low high]
        exact ⟨congrArg Zone.state zone, fun p stands => State.takesFor_warmed.setpoint stands, congrArg Zone.settle zone,
          fun off => (congrArg Zone.purgeDeadline zone).trans (if_pos off)⟩
      | standby =>
        have apart (heats : (s.zone i).state = .warming ∨ (s.zone i).state = .ready)
            (held : (s.zone i).state = .purging ∨ (s.zone i).state = .calibrating) : False := by
          rcases heats with state | state <;> rw [state] at held <;> exact held.elim nofun nofun
        rcases acted with ⟨heats, rfl⟩ | ⟨held, rfl⟩
        · refine ⟨nofun, fun _ _ => ⟨s.stoodBy i, State.standbyZone_eq, State.takesFor_stoodBy, State.stoodBy_eq⟩,
            fun _ held => (apart heats held).elim, nofun, nofun, nofun, nofun,
            fun _ => ⟨fun p stands => ?_, fun held => (apart heats held).elim,
              fun _ pending free => State.standbyZone_purges low high pending free, fun _ stands busy => ?_⟩, nofun, nofun, nofun⟩
          · exact (State.setpoint_standbyZone low high).trans (State.takesFor_stoodBy.setpoint stands)
          · rw [State.standbyZone_stands low high stands busy, State.stoodBy_eq]
            exact ⟨rfl, rfl⟩
        · refine ⟨nofun, fun _ heats => (apart heats held).elim,
            fun _ _ => ⟨s.returnsLow i, rfl, State.takesFor_returnsLow, State.returnsLow_eq⟩, nofun, nofun, nofun, nofun,
            fun _ => ?_, nofun, nofun, nofun⟩
          rw [State.zone_put low high]
          exact ⟨fun p stands => State.takesFor_returnsLow.setpoint stands,
            fun _ => by rw [State.returnsLow_eq]; exact ⟨rfl, rfl⟩,
            fun heats => (apart heats held).elim, fun heats => (apart heats held).elim⟩
      | off =>
        subst acted
        obtain ⟨zone, unqueued, free⟩ := State.offZone_spec low high
        refine ⟨nofun, nofun, nofun, fun _ => ⟨fun owner => State.offZone_eq.trans (if_pos owner),
          fun other => State.offZone_eq.trans (if_neg other)⟩, nofun, nofun, nofun, nofun, fun _ => ?_, nofun, nofun⟩
        rw [zone]
        exact ⟨rfl, rfl, rfl, rfl, rfl, rfl, rfl, rfl, rfl, rfl, rfl, rfl, rfl, rfl, unqueued, free⟩
      | calibrate =>
        obtain ⟨⟨off, fault, calibrating⟩, rfl⟩ := acted
        obtain ⟨known, new⟩ := s.queueCalibration_cases i
        refine ⟨nofun, nofun, nofun, nofun, fun _ => ⟨known, new⟩, nofun, nofun, nofun, nofun,
          fun _ => ⟨fun same owned => ?_, fun unqueued other owned => ?_, fun free empty purging unoccupied => ?_⟩, nofun⟩
        · rw [known same, State.handOut_of_ne_none owned]
        · rw [State.queueCalibration_of_owned unqueued other owned]
        · have may := Zone.mayCompare_of_not off fault calibrating purging unoccupied
          obtain ⟨k, state⟩ := may.asReturn
          obtain ⟨zone, queue, reference⟩ := State.handedAlone_queueCalibration low high free empty may state
          rw [zone]
          exact ⟨rfl, queue, reference⟩
      | purge =>
        subst acted
        exact ⟨nofun, nofun, nofun, nofun, nofun, fun _ => State.pendPurge_eq, nofun, nofun, nofun, nofun,
          fun _ => ⟨fun ⟨state, free⟩ => State.pendPurge_now low high state free, State.pendPurge_later low high⟩⟩

end Sys2Proof.Machine
end

section
/-! SUPPORT. CONFIGURE ZONES and CONFIGURE ROLLS (R121, R144, R198): their checks in order, and the settings stored.
Settles O11. -/

namespace Sys2Proof.Machine

/-! ## The ranges (R144, R198) -/

theorem ZoneSettings.inRange_iff (z : ZoneSettings) : z.inRange = true ↔
    1000 ≤ z.settleTime ∧ z.settleTime ≤ 60000 ∧ 60 ≤ z.purgeInterval ∧ z.purgeInterval ≤ 900
      ∧ 2 ≤ z.purgeDuration ∧ z.purgeDuration ≤ 30 ∧ 10 ≤ z.purgeGrace ∧ z.purgeGrace ≤ 600
      ∧ (z.recalInterval = 0 ∨ 600 ≤ z.recalInterval ∧ z.recalInterval ≤ 86400) :=
  decide_eq_true_iff

theorem RollSettings.inRange_iff (r : RollSettings) : r.inRange = true ↔
    1000 ≤ r.capacity ∧ r.capacity ≤ 30000 ∧ r.lowLimit ≤ 30000 ∧ 1 ≤ r.resumeLevel ∧ r.resumeLevel ≤ 30000
      ∧ 1 ≤ r.spliceLevel ∧ r.spliceLevel ≤ 30000 ∧ 1 ≤ r.threshold ∧ r.threshold ≤ 2000
      ∧ 1 ≤ r.fillingS ∧ r.fillingS ≤ 60 ∧ 1 ≤ r.stoppingS ∧ r.stoppingS ≤ 60 ∧ 1 ≤ r.splicingS ∧ r.splicingS ≤ 60
      ∧ 1 ≤ r.cuttingS ∧ r.cuttingS ≤ 60 ∧ 1 ≤ r.restartingS ∧ r.restartingS ≤ 60
      ∧ 20 ≤ r.spliceLength ∧ r.spliceLength ≤ 200
      ∧ r.lowLimit < r.resumeLevel ∧ r.resumeLevel ≤ r.spliceLevel ∧ r.spliceLevel ≤ r.capacity :=
  decide_eq_true_iff

/-! ## The automatic change (log 5) -/

theorem yesNoOf_of_le_one {b : Byte} (yesOrNo : b.toNat ≤ 1) : yesNoOf b = some (decide (b.toNat = 1)) := by
  rcases Nat.le_one_iff_eq_zero_or_eq_one.mp yesOrNo with zero | one
  · rw [BitVec.eq_of_toNat_eq (y := 0#8) zero]
    rfl
  · rw [BitVec.eq_of_toNat_eq (y := 1#8) one]
    rfl

theorem yesNoOf_of_one_lt {b : Byte} (other : 1 < b.toNat) : yesNoOf b = none := by
  refine (if_neg fun one => ?_).trans (if_neg fun zero => ?_)
  · exact absurd other (by rw [one]; decide)
  · exact absurd other (by rw [zero]; decide)

/-! ## The requests -/

section
variable {p : List Byte} (s : State)

theorem handleConfigureZones_length (wrong : p.length ≠ 20) : handleConfigureZones p s = (s, [0x08#8]) := if_pos wrong

theorem handleConfigureZones_range (length : p.length = 20) (bad : ¬(ZoneSettings.ofBytes p).inRange = true) :
    handleConfigureZones p s = (s, [0x03#8]) := by
  simp only [handleConfigureZones, length, bad]
  rfl

theorem handleConfigureZones_ok (length : p.length = 20) (range : (ZoneSettings.ofBytes p).inRange = true) :
    handleConfigureZones p s = (s.onZsv (Zsv.store (ZoneSettings.ofBytes p)), [0x00#8]) := by
  simp only [handleConfigureZones, length, range]
  rfl

theorem handleConfigureRolls_length (wrong : p.length ≠ 45) : handleConfigureRolls p s = (s, [0x08#8]) := if_pos wrong

theorem handleConfigureRolls_unread (length : p.length = 45) (unread : RollSettings.ofBytes p = none) :
    handleConfigureRolls p s = (s, [0x03#8]) := by
  simp only [handleConfigureRolls, length, unread]
  rfl

variable {r : RollSettings}

theorem handleConfigureRolls_range (length : p.length = 45) (read : RollSettings.ofBytes p = some r)
    (bad : ¬r.inRange = true) : handleConfigureRolls p s = (s, [0x03#8]) := by
  simp only [handleConfigureRolls, length, read, bad]
  rfl

theorem handleConfigureRolls_ok (length : p.length = 45) (read : RollSettings.ofBytes p = some r)
    (range : r.inRange = true) : handleConfigureRolls p s = (s.onRcu fun x => { x with settings := r }, [0x00#8]) := by
  simp only [handleConfigureRolls, length, read, range]
  rfl

end

section
variable (tag : BitVec 16) {p : List Byte} {s t : State} (room : s.room) {reply : List Byte}
include room

theorem exec_configureZones (answers : handleConfigureZones p s.restartSilence = (t, reply)) :
    exec (.configureZones tag p) s = .next (t.pushReply 0x04#8 tag reply) := by
  refine congrArg Host.Outcome.next ?_
  rw [hostRequest_always 0x04#8 handleConfigureZones tag p room, answers]

theorem exec_configureRolls (answers : handleConfigureRolls p s.restartSilence = (t, reply)) :
    exec (.configureRolls tag p) s = .next (t.pushReply 0x05#8 tag reply) := by
  refine congrArg Host.Outcome.next ?_
  rw [hostRequest_always 0x05#8 handleConfigureRolls tag p room, answers]

end

/-- Settles O11: the checks of each message in order; the roll settings are read where the automatic change is a yes/no
byte (`yesNoOf_of_le_one`). -/
theorem settingsStored : Obligations.SettingsStored := by
  constructor <;> intro tag payload s room
  · refine ⟨fun wrong => exec_configureZones tag room (handleConfigureZones_length _ wrong), ?_⟩
    intro length settle interval duration grace recal ok
    have inRange : (ZoneSettings.ofBytes payload).inRange = true ↔ ok := ZoneSettings.inRange_iff _
    exact ⟨fun bad => exec_configureZones tag room (handleConfigureZones_range _ length (mt inRange.mp bad)),
      fun good => exec_configureZones tag room (handleConfigureZones_ok _ length (inRange.mpr good))⟩
  · refine ⟨fun wrong => exec_configureRolls tag room (handleConfigureRolls_length _ wrong), ?_⟩
    intro length auto r ok
    have byte : auto = (byteAt payload 20).toNat := fieldAt_one (by omega)
    have read (yesOrNo : auto ≤ 1) : RollSettings.ofBytes payload = some r := by
      have parsed : yesNoOf (byteAt payload 20) = some (decide (auto = 1)) := by
        rw [byte]
        exact yesNoOf_of_le_one (byte ▸ yesOrNo)
      rw [RollSettings.ofBytes, parsed]
      rfl
    have inRange : auto ≤ 1 ∧ r.inRange = true ↔ ok := and_congr_right' r.inRange_iff
    refine ⟨fun bad => exec_configureRolls tag room ?_, fun good => ?_⟩
    · rcases Nat.lt_or_ge 1 auto with other | yesOrNo
      · refine handleConfigureRolls_unread _ length ?_
        rw [RollSettings.ofBytes, yesNoOf_of_one_lt (byte ▸ other)]
        rfl
      · exact handleConfigureRolls_range _ length (read yesOrNo) fun range => bad (inRange.mp ⟨yesOrNo, range⟩)
    · obtain ⟨yesOrNo, range⟩ := inRange.mpr good
      exact exec_configureRolls tag room (handleConfigureRolls_ok _ length (read yesOrNo) range)

end Sys2Proof.Machine
end

section
/-! SUPPORT. The four roll requests and the change's deadline (R138, R142, R143, R147, R148, R153 to R155). Settles O50. -/

namespace Sys2Proof.Machine

/-! ## The unwind a request names (R205) -/

theorem UnwindId.ofCode_number (u : UnwindId) : UnwindId.ofCode (if u = .a then 1#8 else 2#8) = some u := by
  cases u <;> rfl

theorem UnwindId.ofCode_of_other {c : Byte} (notA : c ≠ 1#8) (notB : c ≠ 2#8) : UnwindId.ofCode c = none :=
  (if_neg notA).trans (if_neg notB)

/-- A field behind the first byte. -/
theorem fieldAt_cons_succ (b : Byte) (rest : List Byte) (k n : Nat) : fieldAt (b :: rest) (k + 1) n = fieldAt rest k n := rfl

/-! ## The requests as they arrive -/

/-- A message of a configured part answers what its own rule answers. -/
theorem hostRequest_answered {kind : Byte} {a : Availability} {h : List Byte → State → State × List Byte} {tag : BitVec 16}
    {p : List Byte} {s t : State} (taken : s.taken) {reply : List Byte} (answers : h p s.restartSilence = (t, reply)) :
    hostRequest kind a h tag p s = t.pushReply kind tag reply := by
  rw [hostRequest_taken kind a h tag p taken, answers]

section
variable (tag : BitVec 16) {p : List Byte} {s t : State} (taken : s.taken) {reply : List Byte}
include taken

theorem exec_declareRoll (answers : handleDeclareRoll p s.restartSilence = (t, reply)) :
    exec (.declareRoll tag p) s = .next (t.pushReply 0x50#8 tag reply) :=
  congrArg Host.Outcome.next (hostRequest_answered taken answers)

theorem exec_startUnwind (answers : handleStartUnwind p s.restartSilence = (t, reply)) :
    exec (.startUnwind tag p) s = .next (t.pushReply 0x51#8 tag reply) :=
  congrArg Host.Outcome.next (hostRequest_answered taken answers)

theorem exec_changeRoll (answers : handleChangeRoll p s.restartSilence = (t, reply)) :
    exec (.changeRoll tag p) s = .next (t.pushReply 0x52#8 tag reply) :=
  congrArg Host.Outcome.next (hostRequest_answered taken answers)

theorem exec_abortChange (answers : handleAbortChange p s.restartSilence = (t, reply)) :
    exec (.abortChange tag p) s = .next (t.pushReply 0x53#8 tag reply) :=
  congrArg Host.Outcome.next (hostRequest_answered taken answers)

end

/-! ## DECLARE ROLL (R142) -/

/-- The profile id and the length pass the RANGE check. -/
theorem rollInRange_iff {profile len : Nat} : (1 ≤ profile ∧ profile ≤ 16 ∧ 1 ≤ len ∧ len ≤ 20000) ↔
    ¬(!validProfileId profile || decide (len < 1 ∨ 20000 < len)) = true := by
  rw [Bool.or_eq_true, Bool.not_eq_true', validProfileId_eq_false_iff, decide_eq_true_iff]
  omega

section
variable (s : State) {c : Byte} {rest : List Byte} (nine : rest.length = 9)
include nine

theorem handleDeclareRoll_unnamed (unnamed : UnwindId.ofCode c = none) :
    handleDeclareRoll (c :: rest) s = (s, [0x03#8]) := by
  have ten : (c :: rest).length = 10 := congrArg (· + 1) nine
  simp only [handleDeclareRoll, ten, byteAt, List.getD_cons_zero, unnamed]
  rfl

/-- The checks of DECLARE ROLL in order once its unwind is named. -/
theorem handleDeclareRoll_named {u : UnwindId} (named : UnwindId.ofCode c = some u) : handleDeclareRoll (c :: rest) s =
    if !validProfileId (fieldAt rest 0 1) || decide (fieldAt rest 5 4 < 1 ∨ 20000 < fieldAt rest 5 4) then (s, [0x03#8])
    else if (s.rcu.unwind u).state ≠ .loaded then (s, [0x02#8])
    else if (s.pst.profile (fieldAt rest 0 1)).isNone then (s, [0x06#8])
    else (s.onUnwind u fun x => { x with
      state := .ready, profileId := some (fieldAt rest 0 1), rollTag := some (fieldAt rest 1 4)
      declared := some (fieldAt rest 5 4) }, [0x00#8]) := by
  have ten : (c :: rest).length = 10 := congrArg (· + 1) nine
  simp only [handleDeclareRoll, ten, byteAt, List.getD_cons_zero, named, fieldAt_cons_succ]
  rfl

end

/-! ## START UNWIND (R143) -/

theorem State.startRefused_iff (s : State) (u : UnwindId) : s.startRefused u = true ↔
    s.slm.mode = .stopped ∨ s.rcu.change ≠ none ∨ s.seq.mode ≠ .idle ∨ s.rcu.unwindA.state = .active
      ∨ s.rcu.unwindB.state = .active ∨ s.wtr.marks ≠ [] ∨ (s.rcu.unwind u).state ≠ .ready
      ∨ (s.station u.station).state = .lost := by
  simp [State.startRefused, Rcu.isSome_activeUnwind, State.seqIdle, State.stationLost, Option.isSome_iff_ne_none, or_assoc]

theorem handleStartUnwind_unnamed (s : State) {c : Byte} (unnamed : UnwindId.ofCode c = none) :
    handleStartUnwind [c] s = (s, [0x03#8]) := by
  simp only [handleStartUnwind, byteAt, List.getD_cons_zero, unnamed]
  rfl

theorem handleStartUnwind_named (s : State) {c : Byte} {u : UnwindId} (named : UnwindId.ofCode c = some u) :
    handleStartUnwind [c] s = if s.startRefused u then (s, [0x02#8]) else (s.startUnwind u, [0x00#8]) := by
  simp only [handleStartUnwind, byteAt, List.getD_cons_zero, named]
  rfl

/-! ## CHANGE ROLL (R148) -/

/-- The other unwind is READY and this one ACTIVE. -/
def Rcu.standing (r : Rcu) (u : UnwindId) : Prop := r.activeUnwind = some u ∧ (r.unwind u.other).state = .ready

/-- What STATE refuses a change for (R148). -/
def State.changeBarred (s : State) : Prop :=
  s.slm.mode = .stopped ∨ s.rcu.change ≠ none ∨ (∀ u, ¬s.rcu.standing u)
    ∨ ∃ n, 9 ≤ n ∧ n ≤ 12 ∧ (s.station n).state = .lost

theorem Rcu.exists_standing_iff (r : Rcu) :
    (r.activeUnwind.map fun u => (r.unwind u.other).state) = some .ready ↔ ∃ u, r.standing u :=
  Option.map_eq_some_iff

theorem State.rollStationLost_iff (s : State) :
    (s.stationLost 9 || s.stationLost 10 || s.stationLost 11 || s.stationLost 12) = true ↔
      ∃ n, 9 ≤ n ∧ n ≤ 12 ∧ (s.station n).state = .lost := by
  simp only [Bool.or_eq_true, State.stationLost, beq_iff_eq]
  constructor
  · rintro (((l9 | l10) | l11) | l12)
    exacts [⟨9, by omega, by omega, l9⟩, ⟨10, by omega, by omega, l10⟩, ⟨11, by omega, by omega, l11⟩,
      ⟨12, by omega, by omega, l12⟩]
  · rintro ⟨n, low, high, lost⟩
    interval_cases n <;> simp [lost]

theorem State.changeRefused_of_barred {s : State} (barred : s.changeBarred) : s.changeRefused = some .state := by
  rw [State.changeBarred, ← not_exists, ← Rcu.exists_standing_iff, ← State.rollStationLost_iff,
    ← Option.isSome_iff_ne_none] at barred
  rcases barred with bar | bar | bar | bar <;> simp only [State.changeRefused, bar, if_true, ne_eq, not_false_eq_true, ite_self]

theorem State.changeRefused_of_free {s : State} (free : ¬s.changeBarred) :
    s.changeRefused = if 4 ≤ s.wtr.spliceCount then some .full else none := by
  rw [State.changeBarred, ← not_exists, ← Rcu.exists_standing_iff, ← State.rollStationLost_iff,
    ← Option.isSome_iff_ne_none, not_or, not_or, not_or] at free
  obtain ⟨running, idle, ready, online⟩ := free
  simp only [State.changeRefused, if_neg running, if_neg idle, if_neg ready, if_neg online]

theorem handleChangeRoll_refused {s : State} {status : Status} (refused : s.changeRefused = some status) :
    handleChangeRoll [] s = (s, [status.code]) := by
  simp only [handleChangeRoll, refused]
  rfl

theorem handleChangeRoll_ok {s : State} {u : UnwindId} (free : s.changeRefused = none) (active : s.rcu.activeUnwind = some u) :
    handleChangeRoll [] s = ({ s with rcu := { s.rcu with
      change := some { phase := .filling, old := u, new := u.other, deadline := s.clock + s.rcu.settings.fillingS * 1000
                       automatic := false } } }, [0x00#8]) := by
  simp only [handleChangeRoll, free, State.startChange, active]
  rfl

/-! ## A change that ends before it is done (R153, R155) -/

theorem UnitsOnly.hlp {s t : State} (h : UnitsOnly s t) : t.hlp = s.hlp := by unfold UnitsOnly at h; rw [h]

/-- `s` when its change `c` ends with an outcome and a cause, and ROLL stands or not. -/
def State.changeOver (s : State) (c : Change) (o : ChangeOutcome) (cause : ChangeCause) (roll : Bool) : State :=
  { s with
    seq := { s.seq with rollHold := roll }
    rcu := { s.rcu with change := none, outcome := o, outcomePhase := some c.phase, outcomeCause := some cause }
    evu := s.evu.raise .changeAbort }

section
variable {s : State} {c : Change} (change : s.rcu.change = some c) (cause : ChangeCause)
include change

theorem State.breakChange_of_early (early : c.phase.beforeSplice = true) : s.breakChange cause =
    s.changeOver c .reverted cause (s.seq.rollHold || !s.restartable c.old) := by
  rw [State.breakChange_eq, State.changeBroken, change]
  dsimp only
  rw [← ChangePhase.beforeSplice_eq, ← State.restartable_eq, early]
  rfl

theorem State.breakChange_of_late (late : ¬c.phase.beforeSplice = true) : s.breakChange cause =
    s.changeOver c .failed cause true := by
  rw [State.breakChange_eq, State.changeBroken, change]
  dsimp only
  rw [← ChangePhase.beforeSplice_eq, Bool.eq_false_iff.mpr late, Bool.false_and, Bool.not_false, Bool.or_true]
  rfl

end

theorem State.restartable_iff (s : State) (u : UnwindId) :
    s.restartable u = true ↔ (s.rcu.unwind u).state = .active ∧ (s.station u.station).state ≠ .lost := by
  rw [State.restartable_eq, Bool.and_eq_true, beq_iff_eq, bne_iff_ne]

/-! ## ABORT CHANGE (R154) -/

theorem handleAbortChange_refused {s : State} (none : ∀ c, s.rcu.change = some c → ¬c.phase.beforeSplice = true) :
    handleAbortChange [] s = (s, [0x02#8]) := by
  unfold handleAbortChange
  cases change : s.rcu.change with
  | none => rfl
  | some c => exact if_neg (none c change)

theorem handleAbortChange_ok {s : State} {c : Change} (change : s.rcu.change = some c) (early : c.phase.beforeSplice = true) :
    handleAbortChange [] s = ((s.breakChange .command).settle, [0x00#8]) := by
  simp only [handleAbortChange, State.breakChange, change, if_pos early]
  rfl

/-! ## PHASE_DEADLINE -/

theorem exec_phaseDeadline_of_none {s : State} (none : s.rcu.change = none) : exec .phaseDeadline s = .next s := by
  refine congrArg Host.Outcome.next ?_
  rw [none]

theorem exec_phaseDeadline_of_some {s : State} {c : Change} (change : s.rcu.change = some c) :
    exec .phaseDeadline s = .next ((s.reach c.deadline).breakChange .timeout).settle := by
  refine congrArg Host.Outcome.next ?_
  rw [change]

/-- Settles O50: the checks of each request in order; a change that ends early is `changeOver`, with ROLL as its phase and
`restartable` say. -/
theorem rollsChange : Obligations.RollsChange := by
  refine ⟨fun u tag rest s taken nine => ?_, fun u tag s taken => ?_, fun tag s taken => ?_, fun s => ?_⟩
  · intro b profile len ok answers
    have named : UnwindId.ofCode b = some u := u.ofCode_number
    have checks := handleDeclareRoll_named s.restartSilence nine named
    have range : ok ↔ _ := rollInRange_iff
    refine ⟨fun c notA notB => ?_, fun bad => ?_, fun good other => ?_, fun good loaded empty => ?_, fun good loaded known => ?_⟩
    · exact exec_declareRoll tag taken (handleDeclareRoll_unnamed _ nine (UnwindId.ofCode_of_other notA notB))
    · exact exec_declareRoll tag taken (checks.trans (if_pos (not_not.mp (mt range.mpr bad))))
    all_goals have checks := checks.trans (if_neg (range.mp good))
    · exact exec_declareRoll tag taken (checks.trans (if_pos other))
    all_goals have checks := checks.trans (if_neg (not_not.mpr loaded))
    · exact exec_declareRoll tag taken (checks.trans (if_pos (Option.isNone_iff_eq_none.mpr empty)))
    · exact exec_declareRoll tag taken (checks.trans (if_neg (mt Option.isNone_iff_eq_none.mp known)))
  · intro b refused
    have named : UnwindId.ofCode b = some u := u.ofCode_number
    have checks := handleStartUnwind_named s.restartSilence named
    have isRefused : s.restartSilence.startRefused u = true ↔ refused := s.restartSilence.startRefused_iff u
    refine ⟨fun c notA notB => ?_, fun refuses => ?_, fun passes => ?_⟩
    · exact exec_startUnwind tag taken (handleStartUnwind_unnamed _ (UnwindId.ofCode_of_other notA notB))
    · exact exec_startUnwind tag taken (checks.trans (if_pos (isRefused.mpr refuses)))
    · exact exec_startUnwind tag taken (checks.trans (if_neg (mt isRefused.mp passes)))
  · intro standing refused
    have free (passes : ¬refused) := State.changeRefused_of_free (s := s.restartSilence) passes
    refine ⟨fun barred => ?_, fun passes full => ?_, fun passes place u ⟨active, _⟩ => ?_⟩
    · exact exec_changeRoll tag taken (handleChangeRoll_refused (State.changeRefused_of_barred (s := s.restartSilence) barred))
    · exact exec_changeRoll tag taken (handleChangeRoll_refused ((free passes).trans (if_pos full)))
    · exact exec_changeRoll tag taken
        (handleChangeRoll_ok (s := s.restartSilence) ((free passes).trans (if_neg (not_le.mpr place))) active)
  · intro runs ended early
    have isEarly (c : Change) : c.phase.beforeSplice = true ↔ early c := c.phase.beforeSplice_iff
    have kept {c : Change} (can : runs c) : (s.seq.rollHold || !s.restartable c.old) = s.seq.rollHold := by
      rw [(s.restartable_iff c.old).mpr can, Bool.not_true, Bool.or_false]
    have holds {c : Change} (cannot : ¬runs c) : (s.seq.rollHold || !s.restartable c.old) = true := by
      rw [Bool.eq_false_iff.mpr (mt (s.restartable_iff c.old).mp cannot), Bool.not_false, Bool.or_true]
    refine ⟨fun tag taken => ⟨fun none => ?_, fun c change before => ?_⟩, exec_phaseDeadline_of_none, fun c change => ?_⟩
    · exact exec_abortChange tag taken (handleAbortChange_refused (s := s.restartSilence)
        fun c change => mt (isEarly c).mp (none c change))
    · have reverted := State.breakChange_of_early (s := s.restartSilence) change .command ((isEarly c).mpr before)
      have acts := exec_abortChange tag taken (handleAbortChange_ok (s := s.restartSilence) change ((isEarly c).mpr before))
      rw [reverted] at acts
      exact ⟨_, acts, ⟨rfl, rfl, rfl⟩, rfl, rfl, kept, holds⟩
    · have units := unitsOnly_breakChange (s.reach c.deadline) .timeout
      refine ⟨_, exec_phaseDeadline_of_some change, units.hlp, units.clock, fun before => ?_,
        fun after => ?_⟩
      · rw [State.breakChange_of_early (s := s.reach c.deadline) change .timeout ((isEarly c).mpr before)]
        exact ⟨⟨rfl, rfl, rfl⟩, kept, holds⟩
      · rw [State.breakChange_of_late (s := s.reach c.deadline) change .timeout (mt (isEarly c).mp after)]
        exact ⟨⟨rfl, rfl, rfl⟩, rfl⟩

end Sys2Proof.Machine
end

section
/-! SUPPORT. What a judged response hands to the owner of its station, role by role (R163, R167, R168, R170, R171, R173). Settles
O57. -/

namespace Sys2Proof.Machine

/-! ## The readings of each role (R163, R208) -/

section
variable {n : Nat} (bytes : List Byte)

theorem Readings.ofBytes_zone (zone : n ≤ 8) : Readings.ofBytes (roleOf n) bytes =
    .zone (satTemp (fieldAtSigned bytes 4 2)) (satTemp (fieldAtSigned bytes 6 2)) := by
  rw [roleOf, if_pos zone]
  rfl

theorem Readings.ofBytes_unwind {u : UnwindId} (station : n = u.station) : Readings.ofBytes (roleOf n) bytes =
    .unwind (min (fieldAt bytes 4 4) 20000000) := by
  subst station
  cases u <;> rfl

theorem Readings.ofBytes_auxiliary (auxiliary : 13 ≤ n) : Readings.ofBytes (roleOf n) bytes =
    .auxiliary ((bytes.drop 4).take 8) := by
  have role : roleOf n = .auxiliary := by
    unfold roleOf
    rw [if_neg (by omega), if_neg (by omega), if_neg (by omega), if_neg (by omega)]
  rw [role]
  rfl

end

theorem RunState.ofStatus_code (free : Nat) (rs : RunState) : RunState.ofStatus free rs.code = rs := by
  cases rs <;> rfl

/-! ## What is handed over (R171) -/

section
variable {s : State} {n : Nat} {r : Response} {newCode : Option Nat}

theorem State.deliver_zone {raw reference : Int} (readings : r.readings = .zone raw reference) : s.deliver n r newCode =
    if n ≤ s.zoneCount then s.zoneResponse n (s.stationFresh n) r.code r.status raw reference else s := by
  rw [State.deliver, readings]

/-- Run state, a code that differs from the last, a fresh remaining length, in that order (log 15). -/
theorem State.deliver_unwind {u : UnwindId} (station : n = u.station) {remaining : Nat}
    (readings : r.readings = .unwind remaining) {rs : RunState} (status : r.status = rs.code) {last : Nat} :
    s.deliver n r (if r.code ≠ last then some r.code else none) =
      let v := s.unwindStatus u rs
      let w := if r.code = last then v else v.unwindCode u r.code
      if s.stationFresh n then w.unwindReading u remaining else w := by
  have unwind : (if n = 9 then UnwindId.a else .b) = u := by
    subst station
    cases u <;> rfl
  rw [State.deliver, readings]
  dsimp only
  rw [status, RunState.ofStatus_code, unwind]
  by_cases old : r.code = last
  · rw [if_neg (not_not.mpr old), if_pos old]
    rfl
  · rw [if_pos old, if_neg old]
    rfl

theorem State.deliver_table (readings : r.readings = .table) {st : TableStatus}
    (status : TableStatus.ofStatus s.freeCtr r.status = st) : s.deliver n r newCode = s.tableResponse st r.code := by
  rw [State.deliver, readings]
  dsimp only
  rw [status]

theorem State.deliver_accumulator {stock tension : Nat} (readings : r.readings = .accumulator stock tension) :
    s.deliver n r newCode = if s.stationFresh n then s.accumulatorReading stock tension else s := by
  rw [State.deliver, readings]

theorem State.deliver_auxiliary {bytes : List Byte} (readings : r.readings = .auxiliary bytes) : s.deliver n r newCode = s := by
  rw [State.deliver, readings]

end

/-! ## What the booking and the notice leave of it -/

theorem UnitsOnly.zoneCount {s t : State} (h : UnitsOnly s t) : t.zoneCount = s.zoneCount := by
  unfold UnitsOnly at h
  rw [h]
  rfl

theorem State.booked_zoneCount (s : State) (n : Nat) (r : Response) : (s.booked n r).zoneCount = s.zoneCount := by
  unfold State.booked State.queueRequest
  dsimp only
  split
  · split <;> rfl
  · rfl

/-- Whether the station is FRESH is settled at the booking: no owner changes a station's record. -/
theorem UnitsOnly.stationFresh {s t : State} (h : UnitsOnly s t) (n : Nat) :
    t.stationFresh n = decide ((s.station n).condition = .fresh) := by
  rw [State.stationFresh, State.station_congr (congrArg Slm.stations h.slm) n]
  rfl

/-- Settles O57: the outcome as judged, the miss and the good response booked and told, and the delivery of each role. -/
theorem ownersTold : Obligations.OwnersTold := by
  intro n rest s poll low high before
  refine ⟨?_, fun bytes => ?_⟩
  · rw [exec_responseWindowExpiry_polling poll, State.stationMiss_eq s false low high]
  · intro goes fits
    refine ⟨fun wrong => ?_, fun right unfit => ?_, fun right fit small => ?_⟩
    · refine (exec_stationResponse_missCrc poll (judge_missCrc _ (by rw [wrong]; nofun))).trans ?_
      rw [State.stationMiss_eq s true low high]
    · refine (exec_stationResponse_miss poll (judge_miss _ right unfit)).trans ?_
      rw [State.stationMiss_eq s false low high]
    · intro status code temp b fresh t takes unwind
      let r : Response := { status := status, renewal := (bytes.getD 2 0#8).toNat, code := code
                            readings := Readings.ofBytes (roleOf n) bytes }
      have told : UnitsOnly b t := State.unitsOnly_told b low high before
      have zones : t.zoneCount = s.zoneCount := told.zoneCount.trans (s.booked_zoneCount n r)
      have isFresh : t.stationFresh n = fresh := told.stationFresh n
      have delivered {u : State}
          (handed : t.deliver n r (if code ≠ (s.station n).lastCode then some code else none) = u) : takes u := by
        refine (exec_stationResponse_good poll (judge_good _ right fit small)).trans ?_
        rw [State.goodResponse_eq s r low high, ← handed]
      have takesUnwind {u : UnwindId} (station : n = u.station) : unwind u := fun rs listed => delivered <| by
        rw [← isFresh]
        exact State.deliver_unwind station (Readings.ofBytes_unwind bytes station) listed
      refine ⟨fun zone configured => delivered ?_, fun zone above => delivered ?_, takesUnwind (u := .a), takesUnwind (u := .b),
        fun table st listed => delivered ?_, fun accumulator => delivered ?_, fun auxiliary => delivered ?_⟩
      · rw [State.deliver_zone (Readings.ofBytes_zone bytes zone), zones, if_pos configured, isFresh]
        rfl
      · rw [State.deliver_zone (Readings.ofBytes_zone bytes zone), zones, if_neg above.not_ge]
      · subst table
        refine State.deliver_table rfl ?_
        show TableStatus.ofStatus _ status = st
        rw [listed]
        cases st <;> rfl
      · subst accumulator
        rw [State.deliver_accumulator rfl, isFresh]
      · exact State.deliver_auxiliary (Readings.ofBytes_auxiliary bytes auxiliary)

end Sys2Proof.Machine
end

section
/-! SUPPORT. A corrected temperature that is absent stays absent (R104): through the faults of other zones, through the loss of a
station and through what SEQ then does. Only a fresh reading brings one about. -/

namespace Sys2Proof.Machine

/-- From `s` to `t` no zone's corrected temperature comes about. -/
structure AbsentKept (s t : State) : Prop where
  absent : ∀ i, (s.zone i).corrected = none → (t.zone i).corrected = none

theorem AbsentKept.of_zones {s t : State} (same : t.zsv.zones = s.zsv.zones) : AbsentKept s t where
  absent i absent := by rwa [State.zone, same]

theorem AbsentKept.refl (s : State) : AbsentKept s s := ⟨fun _ => id⟩

theorem AbsentKept.trans {s t u : State} (h : AbsentKept s t) (k : AbsentKept t u) : AbsentKept s u :=
  ⟨fun i => k.absent i ∘ h.absent i⟩

/-- What comes after a change of nothing in the table of zones. -/
theorem AbsentKept.after {s t u : State} (k : AbsentKept t u) (same : t.zsv.zones = s.zsv.zones) : AbsentKept s u :=
  (AbsentKept.of_zones same).trans k

theorem AbsentKept.ite {s t u : State} {c : Prop} [Decidable c] (h : AbsentKept s t) (k : AbsentKept s u) :
    AbsentKept s (if c then t else u) := by
  split <;> assumption

theorem AbsentKept.foldl {α : Type} (g : State → α → State) (h : ∀ s a, AbsentKept s (g s a)) (l : List α) (s : State) :
    AbsentKept s (l.foldl g s) := by
  induction l generalizing s with
  | nil => exact .refl s
  | cons a rest ih => exact (h s a).trans (ih _)

theorem AbsentKept.onZone (s : State) (i : Nat) {f : Zone → Zone}
    (keeps : ∀ z, z.corrected = none → (f z).corrected = none) : AbsentKept s (s.onZone i f) := .mk fun j absent => by
  rcases s.zone_onZone_cases i f j with ⟨-, new⟩ | ⟨old, -⟩
  · rw [new]
    exact keeps _ absent
  · rwa [old]

/-! ## The zones -/

theorem absentKept_startTest (s : State) (i : Nat) : AbsentKept s (s.startTest i) := by
  refine .ite ?_ (.refl s)
  split
  case h_1 | h_2 => exact .onZone s i fun _ => id
  case h_3 => exact .refl s

theorem absentKept_handOut (s : State) : AbsentKept s s.handOut := .mk fun i absent => by
  obtain ⟨state, ret, settle, handed⟩ := s.zone_handOut_frame i
  rwa [handed]

theorem absentKept_startThenHandOut (s : State) : AbsentKept s s.startThenHandOut :=
  (AbsentKept.foldl _ absentKept_startTest _ s).trans (absentKept_handOut _)

theorem absentKept_faultZone (s : State) (i : Nat) (c : ZoneCause) : AbsentKept s (s.faultZone i c) := by
  have shut : AbsentKept s (s.onZone i fun z => { z.shut .fault with faultCause := some c }) := .onZone s i fun _ => id
  have drops (t : State) : AbsentKept t (t.dropCalibration i) := .ite ((absentKept_startThenHandOut _).after rfl) (.of_zones rfl)
  exact .ite (shut.trans ((drops _).after rfl)) (.refl s)

/-- The notice of a condition that is not FRESH takes the corrected temperature away (R104). -/
theorem absentKept_zoneNotice_stale (s : State) (i : Nat) : AbsentKept s (s.zoneNotice i .stale) := .onZone s i fun _ _ => rfl

theorem absentKept_zoneNotice (s : State) (i : Nat) (c : Condition) : AbsentKept s (s.zoneNotice i c) := by
  cases c with
  | fresh => exact .refl s
  | stale | missing => exact absentKept_zoneNotice_stale s i
  | lost => exact (absentKept_zoneNotice_stale s i).trans (absentKept_faultZone ..)

theorem State.corrected_zoneNotice_lost (s : State) (i : Nat) : ((s.zoneNotice i .lost).zone i).corrected = none := by
  have gone : ((s.zoneNotice i .stale).zone i).corrected = none :=
    congrArg Zone.corrected (State.zone_onZone_of_fixes (by rfl) s i)
  exact (absentKept_faultZone (s.zoneNotice i .stale) i .station).absent i gone

theorem Zone.corrected_retarget (p : Profile) (sp : Int) (z : Zone) : (z.retarget p sp).corrected = z.corrected := by
  rw [Zone.retarget_frame]

theorem Zone.corrected_switched (p : Profile) (z : Zone) : (z.switched p).corrected = z.corrected := by
  unfold Zone.switched
  split
  case h_1 | h_2 => rfl
  case h_3 | h_4 | h_5 => exact z.corrected_retarget ..
  case h_6 | h_7 =>
    split
    · exact z.corrected_retarget ..
    · exact z.corrected_retarget ..
    · rfl

theorem absentKept_switchZone (p : Profile) (s : State) (i : Nat) : AbsentKept s (State.switchZone p s i) := by
  have switched : AbsentKept s (s.onZone i (Zone.switched p)) := .onZone s i fun z absent => by rwa [z.corrected_switched]
  exact .ite (switched.trans (.onZone _ i fun _ => id)) switched

theorem absentKept_switchTest (s : State) : AbsentKept s s.switchTest := by
  rw [State.switchTest_eq]
  split
  · exact .ite ((AbsentKept.foldl _ (absentKept_switchZone _) _ _).after rfl) (.refl s)
  · exact .refl s

/-! ## SEQ: it changes ZSV by the zone profile's test alone -/

theorem absentKept_toArmed (s : State) : AbsentKept s s.toArmed := .ite (.of_zones rfl) (.ite (.of_zones rfl) (.of_zones rfl))

theorem absentKept_headLeaves (s : State) : AbsentKept s s.headLeaves := by
  have left : AbsentKept s s.removeHead := (absentKept_switchTest _).after rfl
  exact left.trans (.of_zones rfl)

theorem absentKept_endPanel (s : State) (reachedEnd : Bool) : AbsentKept s (s.endPanel reachedEnd) :=
  .ite ((absentKept_headLeaves _).after rfl) (.of_zones rfl)

theorem absentKept_endStay (s : State) : AbsentKept s s.endStay := .ite ((absentKept_headLeaves _).after rfl) (.of_zones rfl)

theorem absentKept_takeWalk (s : State) (w : WalkStop) : AbsentKept s (s.takeWalk w) := by
  cases w with
  | forming i r cs => exact .ite (.of_zones rfl) (.of_zones (congrArg Zsv.zones (State.beginFeed_zsv ..)))
  | ended i => exact (absentKept_endPanel s true).trans (absentKept_toArmed _)
  | lost => exact (absentKept_endPanel s false).trans (absentKept_toArmed _)

theorem absentKept_walkOn (s : State) : AbsentKept s s.walkOn := by
  unfold State.walkOn
  split
  · exact .refl s
  · exact absentKept_takeWalk ..

theorem absentKept_beginStroke (s : State) (r : StepRecord) (st : StepRun) : AbsentKept s (s.beginStroke r st) :=
  .ite (.of_zones rfl) (.of_zones rfl)

theorem absentKept_endRunWait (s : State) : AbsentKept s s.endRunWait := by
  unfold State.endRunWait
  split
  · exact .ite (absentKept_beginStroke ..) ((absentKept_walkOn _).after rfl)
  · exact .refl s

theorem absentKept_openPanelNow (s : State) : AbsentKept s s.openPanelNow := by
  unfold State.openPanelNow
  split
  · exact .refl s
  · exact (absentKept_takeWalk ..).after rfl

theorem absentKept_beginChunk (s : State) (target : Int) : AbsentKept s (s.beginChunk target) := by
  rw [State.beginChunk_eq]
  exact .of_zones rfl

theorem absentKept_startPanel (s : State) : AbsentKept s s.startPanel := by
  unfold State.startPanel
  split
  · exact (absentKept_beginChunk ..).after rfl
  · exact absentKept_openPanelNow s

theorem absentKept_repeatCheck (s : State) : AbsentKept s s.repeatCheck := by
  refine .ite ((absentKept_endStay s).trans (absentKept_toArmed _)) ?_
  split
  · exact absentKept_beginChunk ..
  · exact absentKept_openPanelNow s

theorem absentKept_endWasteWait (s : State) : AbsentKept s s.endWasteWait := by
  unfold State.endWasteWait
  split
  · exact .ite ((absentKept_repeatCheck _).after rfl) ((absentKept_beginChunk ..).after rfl)
  · exact .refl s

theorem absentKept_takeHold (s : State) : AbsentKept s s.takeHold := by
  refine .ite ?_ (.refl s)
  split <;> exact .of_zones rfl

theorem absentKept_leaveHold (s : State) : AbsentKept s s.leaveHold := by
  refine .ite (.refl s) ?_
  split
  case h_1 => exact absentKept_toArmed s
  case h_2 | h_3 | h_5 => exact .of_zones rfl
  case h_4 =>
    split
    · exact .of_zones (congrArg Zsv.zones (State.beginFeed_zsv ..))
    · exact .refl s

theorem absentKept_waitStep (s : State) : AbsentKept s s.waitStep := by
  refine .ite ?_ (.refl s)
  split
  · exact absentKept_endWasteWait s
  · exact absentKept_endRunWait s
  · exact .refl s

theorem absentKept_settle (s : State) : AbsentKept s s.settle :=
  (((absentKept_takeHold s).trans (absentKept_leaveHold _)).trans (absentKept_waitStep _)).trans
    (.ite (absentKept_startPanel _) (.refl _))

end Sys2Proof.Machine
end

section
/-! SUPPORT. A new loss threshold (R170, R172): a station that it makes LOST, what its owner is told, and that this stands through
the stations after it and through what SEQ then does. -/

namespace Sys2Proof.Machine

/-! ## What a loss leaves at its owner stands -/

/-- From `s` to `t` what the loss of a station has made of its owner stands, and so do the classes raised and the line's
values. -/
structure LossKept (s t : State) : Prop where
  zones : AbsentKept s t
  runState : ∀ u, (s.rcu.unwind u).runState = none → (t.rcu.unwind u).runState = none
  accumulator : s.rcu.acc.station = .lost ∧ s.rcu.acc.starved = true → t.rcu.acc.station = .lost ∧ t.rcu.acc.starved = true
  raised : RaisesOnly s t
  line : t.line = s.line

theorem LossKept.refl (s : State) : LossKept s s := ⟨.refl s, fun _ => id, id, .refl s, rfl⟩

theorem LossKept.trans {s t u : State} (h : LossKept s t) (k : LossKept t u) : LossKept s u :=
  ⟨h.zones.trans k.zones, fun x => k.runState x ∘ h.runState x, k.accumulator ∘ h.accumulator, h.raised.trans k.raised,
    k.line.trans h.line⟩

/-- A change outside RCU. -/
theorem LossKept.of_rcu {s t : State} (zones : AbsentKept s t) (raised : RaisesOnly s t) (line : t.line = s.line)
    (rcu : t.rcu = s.rcu) : LossKept s t :=
  ⟨zones, fun _ absent => by rwa [rcu], fun lost => by rwa [rcu], raised, line⟩

theorem LossKept.raise (s : State) (c : EventClass) : LossKept s (s.raise c) := .of_rcu (.of_zones rfl) (.raise s c) rfl rfl

theorem LossKept.onStation (s : State) (n : Nat) (f : Station → Station) : LossKept s (s.onStation n f) :=
  .of_rcu (.of_zones rfl) (.of_evu rfl) rfl rfl

theorem LossKept.ite {s t u : State} {c : Prop} [Decidable c] (h : LossKept s t) (k : LossKept s u) :
    LossKept s (if c then t else u) := by
  split <;> assumption

theorem LossKept.foldl {α : Type} (g : State → α → State) (h : ∀ s a, LossKept s (g s a)) (l : List α) (s : State) :
    LossKept s (l.foldl g s) := by
  induction l generalizing s with
  | nil => exact .refl s
  | cons a rest ih => exact (h s a).trans (ih _)

theorem lossKept_settle (s : State) : LossKept s s.settle := by
  have frame := lineOnly_settle s
  unfold LineOnly at frame
  exact .of_rcu (absentKept_settle s) (raises_settle s) (by rw [frame]) (by rw [frame])

theorem lossKept_breakChange (s : State) (cause : ChangeCause) : LossKept s (s.breakChange cause) := by
  rw [State.breakChange_eq]
  unfold State.changeBroken
  split
  · exact .refl s
  · exact ⟨.of_zones rfl, fun _ => id, id, .raise s .changeAbort, rfl⟩

theorem lossKept_zoneNotice (s : State) (i : Nat) (c : Condition) : LossKept s (s.zoneNotice i c) := by
  have frame := zonesAndNotices_zoneNotice s i c
  unfold ZonesAndNotices at frame
  exact .of_rcu (absentKept_zoneNotice s i c) (raises_zoneNotice s i c) (by rw [frame]) (by rw [frame])

/-- The run state of an unwind whose station is LOST is absent (R170). -/
theorem lossKept_unwindGone (s : State) (u : UnwindId) : LossKept s (s.onUnwind u fun x => { x with runState := none }) where
  zones := .of_zones rfl
  runState v absent := by
    cases u with
    | a => cases v with
      | a => rfl
      | b => exact absent
    | b => cases v with
      | a => exact absent
      | b => rfl
  accumulator lost := by simpa using lost
  raised := .of_evu rfl
  line := rfl

/-- The accumulator whose station is LOST is STARVED (R146, R170). -/
theorem lossKept_accumulatorGone (s : State) : LossKept s (s.onRcu fun r => { r with acc := { r.acc with
    station := .lost, starved := r.acc.starved || Condition.lost == .stale || Condition.lost == .lost } }) where
  zones := .of_zones rfl
  runState _ := id
  accumulator _ := ⟨rfl, Bool.or_true _⟩
  raised := .of_evu rfl
  line := rfl

theorem lossKept_notifyOwner (s : State) (n : Nat) : LossKept s (s.notifyOwner n .lost) := by
  unfold State.notifyOwner
  split
  · exact .ite (lossKept_zoneNotice ..) (.refl s)
  · exact (lossKept_unwindGone ..).trans (lossKept_breakChange ..)
  · exact lossKept_breakChange ..
  · exact (lossKept_accumulatorGone s).trans (lossKept_breakChange ..)
  · exact .refl s

theorem lossKept_rethreshold (th : Nat) (s : State) (n : Nat) : LossKept s (s.rethreshold th n) := by
  have counted := LossKept.onStation s n (Station.underThreshold th)
  exact .ite ((counted.trans (.raise ..)).trans (lossKept_notifyOwner ..)) counted

/-! ## The owner of a station that becomes LOST (R170) -/

/-- STATION_LOST is raised and the owner of station `n` told that it is LOST: a zone's corrected temperature and an unwind's run
state absent, the accumulator STARVED. -/
def State.ownerLost (s : State) (n : Nat) : Prop :=
  s.evu.pendingSet.getLsbD 12 = true
  ∧ (n ≤ s.zoneCount → n ≤ 8 → (s.zone n).corrected = none)
  ∧ (n = 9 → s.rcu.unwindA.runState = none) ∧ (n = 10 → s.rcu.unwindB.runState = none)
  ∧ (n = 12 → s.rcu.acc.station = .lost ∧ s.rcu.acc.starved = true)

theorem LossKept.zoneCount {s t : State} (h : LossKept s t) : t.zoneCount = s.zoneCount := by
  unfold State.zoneCount
  rw [h.line]

theorem LossKept.ownerLost {s t : State} (h : LossKept s t) {n : Nat} (lost : s.ownerLost n) : t.ownerLost n := by
  obtain ⟨raised, zone, unwindA, unwindB, accumulator⟩ := lost
  exact ⟨h.raised.pending raised, fun configured low => h.zones.absent n (zone (h.zoneCount ▸ configured) low),
    fun a => h.runState .a (unwindA a), fun b => h.runState .b (unwindB b), fun acc => h.accumulator (accumulator acc)⟩

theorem State.ownerLost_notifyOwner {s : State} (raised : s.evu.pendingSet.getLsbD 12 = true) (n : Nat) :
    (s.notifyOwner n .lost).ownerLost n := by
  have kept := lossKept_notifyOwner s n
  refine ⟨kept.raised.pending raised, fun configured low => ?_, fun a => ?_, fun b => ?_, fun acc => ?_⟩
  · rw [kept.zoneCount] at configured
    have told : s.notifyOwner n .lost = s.zoneNotice n .lost := by
      rw [State.notifyOwner, roleOf, if_pos low]
      exact if_pos configured
    rw [told]
    exact s.corrected_zoneNotice_lost n
  · subst a
    exact (lossKept_breakChange _ .station).runState .a rfl
  · subst b
    exact (lossKept_breakChange _ .station).runState .b rfl
  · subst acc
    exact (lossKept_breakChange _ .station).accumulator ⟨rfl, Bool.or_true _⟩

/-! ## One station under a new threshold (R172) -/

/-- A number with no entry reads as a LOST station. -/
theorem State.entry_of_standing {s : State} {n : Nat} (standing : (s.station n).state ≠ .lost) :
    1 ≤ n ∧ n ≤ s.slm.stations.length := by
  rw [← entryAt_isSome_iff]
  cases found : entryAt s.slm.stations n with
  | some st => rfl
  | none =>
    rw [State.station, found] at standing
    exact absurd rfl standing

/-- Two updates that make the same of station `n` as it stands are one. -/
theorem State.onStation_congr {s : State} {n : Nat} {f g : Station → Station} (same : f (s.station n) = g (s.station n)) :
    s.onStation n f = s.onStation n g := by
  have stations : modifyAt s.slm.stations n f = modifyAt s.slm.stations n g := by
    refine modifyAt_congr fun a found => ?_
    have entry : s.station n = a := by rw [State.station, found]; rfl
    rwa [entry] at same
  exact congrArg (fun l => ({ s with slm := { s.slm with stations := l } } : State)) stations

theorem Station.underThreshold_of_reached {th : Nat} {st : Station} (missing : st.state = .missing) (reached : th ≤ st.misses) :
    st.underThreshold th = { st with state := .lost, misses := th, recovery := 0 } := by
  rw [Station.underThreshold, missing]
  exact if_pos reached

theorem Station.underThreshold_of_not_reached {th : Nat} {st : Station} (short : ¬(st.state = .missing ∧ th ≤ st.misses)) :
    st.underThreshold th = { st with misses := match st.state with
      | .lost => th
      | .online => 0
      | .missing => st.misses } := by
  cases st with
  | mk state =>
    cases state with
    | missing => exact if_neg fun reached => short ⟨rfl, reached⟩
    | online | lost => rfl

theorem Station.underThreshold_lost_iff {th : Nat} {st : Station} (standing : st.state ≠ .lost) :
    (st.underThreshold th).state = .lost ↔ st.state = .missing ∧ th ≤ st.misses := by
  by_cases reached : st.state = .missing ∧ th ≤ st.misses
  · rw [Station.underThreshold_of_reached reached.1 reached.2]
    exact iff_of_true rfl reached
  · rw [Station.underThreshold_of_not_reached reached]
    exact iff_of_false standing reached

section
variable {s : State} {th n : Nat}

theorem State.rethreshold_of_reached (missing : (s.station n).state = .missing) (reached : th ≤ (s.station n).misses) :
    s.rethreshold th n = ((s.onStation n (Station.underThreshold th)).raise .stationLost).notifyOwner n .lost := by
  have standing : (s.station n).state ≠ .lost := by rw [missing]; nofun
  obtain ⟨low, high⟩ := State.entry_of_standing standing
  refine if_pos ⟨standing, ?_⟩
  rw [s.station_onStation_same _ low high, Station.underThreshold_lost_iff standing]
  exact ⟨missing, reached⟩

theorem State.rethreshold_of_not_reached (short : ¬((s.station n).state = .missing ∧ th ≤ (s.station n).misses)) :
    s.rethreshold th n = s.onStation n (Station.underThreshold th) := by
  refine if_neg fun ⟨standing, lost⟩ => short ?_
  obtain ⟨low, high⟩ := State.entry_of_standing standing
  rwa [s.station_onStation_same _ low high, Station.underThreshold_lost_iff standing] at lost

/-- The model's step is the one that the statement describes: record, STATION_LOST, owner. -/
theorem State.rethreshold_eq (s : State) (th : Nat) (first : 1 ≤ n) (last : n ≤ 16) :
    s.rethreshold th n = s.thresholdTold th n := by
  by_cases reached : (s.station n).state = .missing ∧ th ≤ (s.station n).misses
  · obtain ⟨missing, enough⟩ := reached
    obtain ⟨low, high⟩ := State.entry_of_standing (s := s) (n := n) (by rw [missing]; nofun)
    have record := State.onStation_congr (s := s) (n := n)
      (g := fun x => { x with state := .lost, misses := th, recovery := 0 }) (Station.underThreshold_of_reached missing enough)
    let t := (s.onStation n fun x => { x with state := .lost, misses := th, recovery := 0 }).raise .stationLost
    have lost : (t.station n).condition = .lost := by
      have same : t.station n = { s.station n with state := .lost, misses := th, recovery := 0 } :=
        s.station_onStation_same _ low high
      rw [same]
      rfl
    have before : (s.station n).condition = .missing := by rw [Station.condition, missing]
    have notified : t.notifyOwner n .lost = t.told n (s.station n).condition := by
      rw [← State.noticeIfChanged_eq t _ first last, State.noticeIfChanged, lost, before]
      exact (if_neg nofun).symm
    rw [State.rethreshold_of_reached missing enough, record]
    exact notified.trans (if_pos ⟨missing, enough⟩).symm
  · rw [State.rethreshold_of_not_reached reached]
    refine (State.onStation_congr ?_).trans (if_neg reached).symm
    exact Station.underThreshold_of_not_reached reached

theorem State.station_rethreshold_other {m : Nat} (other : m ≠ n) : (s.rethreshold th n).station m = s.station m :=
  (State.station_congr (s := s.onStation n (Station.underThreshold th)) (congrArg Slm.stations (s.rethreshold_slm th n)) m).trans
    (s.station_onStation_other _ other)

/-- A station named in the list and brought to the threshold: its turn tells the owner, and the other turns leave that. -/
theorem State.ownerLost_foldl_rethreshold {l : List Nat} (once : l.Nodup) (named : n ∈ l)
    (missing : (s.station n).state = .missing) (reached : th ≤ (s.station n).misses) :
    (l.foldl (State.rethreshold th) s).ownerLost n := by
  induction l generalizing s with
  | nil => cases named
  | cons m rest ih =>
    obtain ⟨fresh, once⟩ := List.nodup_cons.mp once
    rw [List.foldl_cons]
    rcases List.mem_cons.mp named with rfl | later
    · refine (LossKept.foldl _ (lossKept_rethreshold th) rest _).ownerLost ?_
      rw [State.rethreshold_of_reached missing reached]
      refine State.ownerLost_notifyOwner ?_ n
      exact Evu.raise_getLsbD_self s.evu .stationLost
    · have other : n ≠ m := fun same => fresh (same ▸ later)
      have stands := State.station_rethreshold_other (s := s) (th := th) other
      exact ih once later (by rwa [stands]) (by rwa [stands])

end

/-! ## Stations 1 to 16 (R172) -/

section
variable {s : State} {th : Nat}

theorem State.foldl_rethreshold_eq {l : List Nat} (stations : ∀ n ∈ l, 1 ≤ n ∧ n ≤ 16) (s : State) (th : Nat) :
    l.foldl (State.rethreshold th) s = l.foldl (fun u n => u.thresholdTold th n) s :=
  List.foldl_ext _ _ _ fun u n named => u.rethreshold_eq th (stations n named).1 (stations n named).2

/-- The stations 1 to 16 under the new threshold, in that order. -/
theorem State.changeThreshold_of_new (changed : th ≠ s.slm.lossThreshold) : s.changeThreshold th =
    (List.range' 1 16).foldl (State.rethreshold th) (s.onSlm fun m => { m with lossThreshold := th }) := by
  rw [State.changeThreshold, if_neg changed.symm]

theorem State.changeThreshold_eq (s : State) (th : Nat) : s.changeThreshold th =
    if th = s.slm.lossThreshold then s
    else (List.range' 1 16).foldl (fun u n => u.thresholdTold th n) { s with slm := { s.slm with lossThreshold := th } } := by
  split
  · next same => rw [State.changeThreshold, if_pos same.symm]
  · next changed =>
    have stations (n : Nat) (named : n ∈ List.range' 1 16) : 1 ≤ n ∧ n ≤ 16 := by
      rw [List.mem_range'_1] at named
      omega
    rw [State.changeThreshold_of_new changed, State.foldl_rethreshold_eq stations]
    rfl

theorem State.changeThreshold_slm (s : State) (th : Nat) : (s.changeThreshold th).slm =
    { s.slm with lossThreshold := th, stations := (s.changeThreshold th).slm.stations } := by
  unfold State.changeThreshold
  split
  · next same => rw [← same]
  · generalize List.range' 1 16 = stations
    rw [State.foldl_rethreshold_slm]
    rfl

variable (changed : th ≠ s.slm.lossThreshold)
include changed

theorem State.station_changeThreshold (sixteen : s.slm.stations.length = 16) {n : Nat} (first : 1 ≤ n) (last : n ≤ 16) :
    (s.changeThreshold th).station n = (s.station n).underThreshold th := by
  have all := foldl_modifyAt_eq_map (Station.underThreshold th) s.slm.stations
  rw [sixteen] at all
  have stations : (s.changeThreshold th).slm.stations = s.slm.stations.map (Station.underThreshold th) := by
    rw [State.changeThreshold_of_new changed, State.foldl_rethreshold_slm]
    simp only [State.onSlm_slm, all]
  obtain ⟨st, found⟩ := exists_entryAt first (last.trans sixteen.ge)
  have entry : entryAt (s.slm.stations.map (Station.underThreshold th)) n = some (st.underThreshold th) := by
    cases n with
    | zero => cases found
    | succ k => exact (List.getElem?_map ..).trans (congrArg _ found)
  rw [State.station, State.station, stations, entry, found]
  rfl

theorem State.ownerLost_changeThreshold {n : Nat} (first : 1 ≤ n) (last : n ≤ 16) (missing : (s.station n).state = .missing)
    (reached : th ≤ (s.station n).misses) : (s.changeThreshold th).ownerLost n := by
  rw [State.changeThreshold_of_new changed]
  exact State.ownerLost_foldl_rethreshold List.nodup_range' (List.mem_range'_1.mpr ⟨first, by omega⟩) missing reached

end

end Sys2Proof.Machine
end

section
/-! SUPPORT. SET SCAN (R161, R164, R165, R172): its checks in order, the values stored and the cycle begun; TAKE REQUESTS (R174).
Settles O54. -/

namespace Sys2Proof.Machine

/-! ## The checks of SET SCAN (R160, R164, R165) -/

/-- The byte of a scan mode (log 5). -/
theorem ScanMode.ofCode_number (mode : ScanMode) : ScanMode.ofCode
    (match mode with
      | .stopped => 1#8
      | .continuous => 2#8
      | .single => 3#8) = some mode := by
  cases mode <;> rfl

theorem ScanMode.ofCode_of_other {c : Byte} (other : c.toNat < 1 ∨ 3 < c.toNat) : ScanMode.ofCode c = none := by
  have none (b : Byte) (listed : 1 ≤ b.toNat ∧ b.toNat ≤ 3) : c ≠ b := by
    rintro rfl
    omega
  rw [ScanMode.ofCode, if_neg (none 1#8 (by decide)), if_neg (none 2#8 (by decide)), if_neg (none 3#8 (by decide))]

theorem Slm.scanIdle_iff (m : Slm) : m.scanIdle = true ↔ m.mode = .stopped ∧ m.toPoll = [] := by
  rw [Slm.scanIdle, Bool.and_eq_true, beq_iff_eq, List.isEmpty_iff]

theorem State.quiet_iff (s : State) : s.quiet = true ↔
    s.seq.mode = .idle ∧ (∀ i ∈ s.zoneNumbers, (s.zone i).state = .off) ∧ s.rcu.change = none := by
  simp only [State.quiet, State.seqIdle, State.allZonesOff, Bool.and_eq_true, beq_iff_eq, List.all_eq_true,
    Option.isNone_iff_eq_none, and_assoc]

/-- SET SCAN is refused STATE: the threshold or the window would change in a scan that is not idle, or a scan stop in a line that
is not quiet. -/
def State.scanBarred (s : State) (mode : ScanMode) (threshold window : Nat) : Prop :=
  ((threshold ≠ s.slm.lossThreshold ∨ window ≠ s.slm.window) ∧ ¬(s.slm.mode = .stopped ∧ s.slm.toPoll = []))
  ∨ (mode = .stopped ∧ s.slm.mode ≠ .stopped
    ∧ ¬(s.seq.mode = .idle ∧ (∀ i ∈ s.zoneNumbers, (s.zone i).state = .off) ∧ s.rcu.change = none))

theorem State.scanBarred_iff (s : State) (mode : ScanMode) (threshold window : Nat) : s.scanBarred mode threshold window ↔
    ((threshold ≠ s.slm.lossThreshold ∨ window ≠ s.slm.window) ∧ s.slm.scanIdle = false)
      ∨ (mode = .stopped ∧ s.slm.mode ≠ .stopped ∧ s.quiet = false) := by
  rw [State.scanBarred, ← Slm.scanIdle_iff, ← State.quiet_iff, Bool.not_eq_true, Bool.not_eq_true]

section
variable (s : State) {c : Byte} {rest : List Byte} (six : rest.length = 6)
include six

theorem handleSetScan_unnamed (unnamed : ScanMode.ofCode c = none) : handleSetScan (c :: rest) s = (s, [0x03#8]) := by
  have seven : (c :: rest).length = 7 := congrArg (· + 1) six
  simp only [handleSetScan, seven, byteAt, List.getD_cons_zero, unnamed]
  rfl

variable {mode : ScanMode} (named : ScanMode.ofCode c = some mode)
include named

/-- The checks of SET SCAN in order once its mode is named. -/
theorem handleSetScan_named : handleSetScan (c :: rest) s =
    if !scanInRange (fieldAt rest 0 1) (fieldAt rest 1 1) (fieldAt rest 2 4) then (s, [0x03#8])
    else if (fieldAt rest 1 1 ≠ s.slm.lossThreshold ∨ fieldAt rest 2 4 ≠ s.slm.window) ∧ s.slm.scanIdle = false
      then (s, [0x02#8])
    else if mode = .stopped ∧ s.slm.mode ≠ .stopped ∧ s.quiet = false then (s, [0x02#8])
    else (s.setScan mode (fieldAt rest 0 1) (fieldAt rest 1 1) (fieldAt rest 2 4), [0x00#8]) := by
  have seven : (c :: rest).length = 7 := congrArg (· + 1) six
  simp only [handleSetScan, seven, byteAt, List.getD_cons_zero, named, fieldAt_cons_succ]
  rfl

theorem handleSetScan_range (bad : ¬scanInRange (fieldAt rest 0 1) (fieldAt rest 1 1) (fieldAt rest 2 4) = true) :
    handleSetScan (c :: rest) s = (s, [0x03#8]) := by
  rw [handleSetScan_named s six named, Bool.eq_false_iff.mpr bad]
  rfl

variable (good : scanInRange (fieldAt rest 0 1) (fieldAt rest 1 1) (fieldAt rest 2 4) = true)
include good

theorem handleSetScan_barred (barred : s.scanBarred mode (fieldAt rest 1 1) (fieldAt rest 2 4)) :
    handleSetScan (c :: rest) s = (s, [0x02#8]) := by
  rw [handleSetScan_named s six named, good, Bool.not_true, if_neg Bool.false_ne_true]
  rcases (s.scanBarred_iff mode _ _).mp barred with changes | stops
  · rw [if_pos changes]
  · rw [if_pos stops, ite_self]

theorem handleSetScan_ok (free : ¬s.scanBarred mode (fieldAt rest 1 1) (fieldAt rest 2 4)) : handleSetScan (c :: rest) s =
    (s.setScan mode (fieldAt rest 0 1) (fieldAt rest 1 1) (fieldAt rest 2 4), [0x00#8]) := by
  rw [s.scanBarred_iff, not_or] at free
  rw [handleSetScan_named s six named, good, Bool.not_true, if_neg Bool.false_ne_true, if_neg free.1, if_neg free.2]

end

theorem exec_setScan (tag : BitVec 16) {p : List Byte} {s t : State} (taken : s.taken) {reply : List Byte}
    (answers : handleSetScan p s.restartSilence = (t, reply)) : exec (.setScan tag p) s = .next (t.pushReply 0x60#8 tag reply) :=
  congrArg Host.Outcome.next (hostRequest_answered taken answers)

/-! ## The values stored, and the cycle that the mode calls for (R161, R164, R172) -/

/-- The threshold changed and the values stored, before SEQ does what is due. -/
def State.scanStored (s : State) (mode : ScanMode) (last threshold window : Nat) : State :=
  (s.changeThreshold threshold).onSlm fun m => { m with mode := mode, lastStation := last, window := window }

section
variable (s : State) (mode : ScanMode) (last threshold window : Nat)

theorem State.scanStored_slm : (s.scanStored mode last threshold window).slm = { s.slm with
    mode := mode, lastStation := last, lossThreshold := threshold, window := window
    stations := (s.changeThreshold threshold).slm.stations } := by
  rw [State.scanStored, State.onSlm_slm, State.changeThreshold_slm]

theorem State.scanStored_line : (s.scanStored mode last threshold window).line = s.line := by
  have frame := stationsOnly_changeThreshold s threshold
  unfold StationsOnly at frame
  rw [State.scanStored, State.onSlm_line, frame]

variable {s mode last threshold window}

/-- With the mode STOPPED or a cycle in progress none starts. -/
theorem State.setScan_of_none (none : mode = .stopped ∨ s.slm.toPoll ≠ []) :
    s.setScan mode last threshold window = (s.scanStored mode last threshold window).settle := by
  refine if_neg fun ⟨starts, empty⟩ => ?_
  have toPoll : (s.scanStored mode last threshold window).settle.slm.toPoll = [] := List.isEmpty_iff.mp empty
  rw [State.settle_slm, State.scanStored_slm] at toPoll
  exact none.elim starts fun polling => polling toPoll

theorem State.setScan_of_cycle (starts : mode ≠ .stopped) (idle : s.slm.toPoll = []) :
    s.setScan mode last threshold window = (s.scanStored mode last threshold window).settle.startCycle := by
  refine if_pos ⟨starts, List.isEmpty_iff.mpr ?_⟩
  show (s.scanStored mode last threshold window).settle.slm.toPoll = []
  rw [State.settle_slm, State.scanStored_slm]
  exact idle

end

/-- A cycle starts (R161): its number, its set, and the poll of the first station. -/
theorem State.startCycle_first (s : State) : s.startCycle = { s with
    slm := { s.slm with
      scanNumber := (s.slm.scanNumber + 1) % 65536, enabled := s.enabledSet, toPoll := s.enabledSet
      pollFrame := s.pollFrame (s.enabledSet.headD 0) }
    zsv := s.zsv.ask (s.enabledSet.headD 0) } := by
  obtain ⟨n, rest, stations⟩ := List.exists_cons_of_ne_nil s.enabledSet_ne_nil
  have head : s.enabledSet.headD 0 = n := by rw [stations]; rfl
  rw [State.startCycle_eq, State.sendPoll_of_next (s := s.cycleBegun) stations, head]
  rfl

/-! ## TAKE REQUESTS (R174) -/

section
variable (s : State) {b : Byte}

/-- The check of TAKE REQUESTS on its one byte. -/
theorem handleTakeRequests_one : handleTakeRequests [b] s =
    if b.toNat < 1 ∨ 16 < b.toNat then (s, [0x03#8])
    else (s.onSlm (Slm.take b.toNat),
      0x00#8 :: yesNo s.slm.overflow :: countedList StationRequest.toBytes (s.slm.requests.take b.toNat)) := by
  have count : fieldAt [b] 0 1 = b.toNat := fieldAt_one (bs := [b]) (k := 0) (by simp)
  unfold handleTakeRequests
  dsimp only
  rw [count]
  rfl

theorem handleTakeRequests_range (outside : b.toNat < 1 ∨ 16 < b.toNat) : handleTakeRequests [b] s = (s, [0x03#8]) := by
  rw [handleTakeRequests_one, if_pos outside]

theorem handleTakeRequests_ok (low : 1 ≤ b.toNat) (high : b.toNat ≤ 16) : handleTakeRequests [b] s =
    (s.onSlm (Slm.take b.toNat),
      0x00#8 :: yesNo s.slm.overflow :: countedList StationRequest.toBytes (s.slm.requests.take b.toNat)) := by
  rw [handleTakeRequests_one, if_neg (not_or.mpr ⟨low.not_gt, high.not_gt⟩)]

end

theorem exec_takeRequests (tag : BitVec 16) {p : List Byte} {s t : State} (taken : s.taken) {reply : List Byte}
    (answers : handleTakeRequests p s.restartSilence = (t, reply)) :
    exec (.takeRequests tag p) s = .next (t.pushReply 0x62#8 tag reply) :=
  congrArg Host.Outcome.next (hostRequest_answered taken answers)

/-! ## The statement -/

/-- Settles O54: the checks in order; the stations under the threshold by `changeThreshold_eq` and, one by one, by
`station_changeThreshold` and `ownerLost_changeThreshold`; the cycle by `startCycle_first`. -/
theorem scanSetRequestsTaken : Obligations.ScanSetRequestsTaken := by
  refine ⟨fun mode tag rest s taken six => ?_, fun tag b s taken => ?_⟩
  · intro b last threshold window ok scanIdle quiet refused
    have named : ScanMode.ofCode b = some mode := ScanMode.ofCode_number mode
    have inRange : scanInRange last threshold window = true ↔ ok := decide_eq_true_iff
    refine ⟨fun c outside => ?_, fun bad => ?_, fun good barred => ?_, fun good free => ?_⟩
    · exact exec_setScan tag taken (handleSetScan_unnamed s.restartSilence six (ScanMode.ofCode_of_other outside))
    · exact exec_setScan tag taken (handleSetScan_range s.restartSilence six named (mt inRange.mp bad))
    · exact exec_setScan tag taken (handleSetScan_barred s.restartSilence six named (inRange.mpr good) barred)
    · intro does told stored u e
      have acts := exec_setScan tag taken (handleSetScan_ok s.restartSilence six named (inRange.mpr good) free)
      have isTold : s.restartSilence.changeThreshold threshold = told := State.changeThreshold_eq s.restartSilence threshold
      have isStored : s.restartSilence.scanStored mode last threshold window = stored := by
        rw [State.scanStored, isTold]
        rfl
      have slm : u.slm = { s.slm with
          mode := mode, lastStation := last, lossThreshold := threshold, window := window
          stations := told.slm.stations } := by
        have after : stored.slm = _ := isStored ▸ State.scanStored_slm s.restartSilence mode last threshold window
        rw [State.settle_slm, after, isTold]
        rfl
      have settled : LossKept told u := LossKept.trans (t := stored) (.of_rcu (.of_zones rfl) (.of_evu rfl) rfl rfl)
        (lossKept_settle stored)
      have zones : u.zoneCount = s.zoneCount := by
        have line := State.scanStored_line s.restartSilence mode last threshold window
        rw [isStored] at line
        rw [State.zoneCount, (lossKept_settle stored).line, line]
        rfl
      refine ⟨fun rests same => ?_, fun none => ?_, fun starts idle => ?_, fun changed sized => ?_⟩
      · have kept : told = s.restartSilence := if_pos same
        have still : stored.atRest = true := by
          simp only [stored, kept]
          exact rests
        exact State.settle_of_atRest still
      · have scan := State.setScan_of_none (s := s.restartSilence) (last := last) (threshold := threshold) (window := window) none
        rw [isStored] at scan
        exact acts.trans (by rw [scan])
      · have scan := State.setScan_of_cycle (s := s.restartSilence) (last := last) (threshold := threshold) (window := window)
          starts idle
        have enabled : u.enabledSet = e := by rw [State.enabledSet, zones, slm]
        have number : u.slm.scanNumber = s.slm.scanNumber := by rw [slm]
        rw [isStored, State.startCycle_first, enabled, number] at scan
        exact acts.trans (by rw [scan])
      · obtain ⟨-, -, -, sixteen⟩ := sized
        refine ⟨by rw [slm], by rw [slm], by rw [slm], by rw [slm], fun n first final => ?_⟩
        have record : u.station n = (s.station n).underThreshold threshold := by
          have under := State.station_changeThreshold (s := s.restartSilence) changed sixteen first final
          rw [isTold] at under
          exact (State.station_congr (by rw [slm]) n).trans under
        intro st lost
        refine ⟨fun away => ?_, fun here => ?_, fun missing short => ?_, fun ⟨missing, reached⟩ => ?_⟩
        · rw [record, Station.underThreshold, away]
        · rw [record, Station.underThreshold, here]
        · rw [record, Station.underThreshold, missing]
          exact if_neg short.not_ge
        · have owner := State.ownerLost_changeThreshold (s := s.restartSilence) changed first final missing reached
          rw [isTold] at owner
          obtain ⟨raised, zone, owned⟩ := settled.ownerLost owner
          rw [zones] at zone
          exact ⟨record.trans (Station.underThreshold_of_reached missing reached), raised, zone, owned⟩
  · intro n given left
    refine ⟨fun outside => ?_, fun low high => ?_⟩
    · exact exec_takeRequests tag taken (handleTakeRequests_range s.restartSilence outside)
    · exact exec_takeRequests tag taken (handleTakeRequests_ok s.restartSilence low high)

end Sys2Proof.Machine
end

section
/-! SUPPORT. The transmitter (R187, R192, R194): how a reply joins the buffer, and what each of its three events begins.
Settles O4. -/

namespace Sys2Proof.Machine

/-! ## The next reply (R192) -/

theorem State.beginReply_of_cons {s : State} {a : Answered} {rest : List Answered} (waiting : s.hlp.buffer = a :: rest) :
    s.beginReply = { s with hlp := { s.hlp with transmitter := .reply a.frame } } := by
  simp [State.beginReply, State.onHlp, waiting]

theorem State.beginReply_of_nil {s : State} (empty : s.hlp.buffer = []) :
    s.beginReply = { s with hlp := { s.hlp with transmitter := .idle } } := by
  simp [State.beginReply, State.onHlp, empty]

/-! ## A reply joins the buffer (R192) -/

section
variable {s : State} (kind : Byte) (tag : BitVec 16) (reply : List Byte)

/-- Of the link, only the buffer and the transmitter change. -/
theorem State.pushReply_frame (s : State) : s.pushReply kind tag reply = { s with hlp := { s.hlp with
    buffer := s.hlp.buffer ++ [{ kind := kind, tag := tag, reply := reply }]
    transmitter := (s.pushReply kind tag reply).hlp.transmitter } } := by
  unfold State.pushReply
  dsimp only
  split
  · split <;> rfl
  · rfl

theorem State.pushReply_transmitter_of_busy (busy : s.hlp.transmitter ≠ .idle) :
    (s.pushReply kind tag reply).hlp.transmitter = s.hlp.transmitter := by
  unfold State.pushReply
  dsimp only
  split
  · next idle => exact absurd idle busy
  · rfl

theorem State.pushReply_transmitter_of_wanted (idle : s.hlp.transmitter = .idle) (wanted : s.evu.noticeWanted = true) :
    (s.pushReply kind tag reply).hlp.transmitter = .idle := by
  simp [State.pushReply, State.onHlp, idle, wanted]

theorem State.pushReply_transmitter_of_free (idle : s.hlp.transmitter = .idle) (unwanted : s.evu.noticeWanted = false)
    (empty : s.hlp.buffer = []) :
    (s.pushReply kind tag reply).hlp.transmitter = .reply (hostFrame (kind + 0x80#8) tag reply) := by
  simp [State.pushReply, State.beginReply, State.onHlp, Answered.frame, idle, unwanted, empty]

end

/-! ## A frame ends, or a notice is wanted (R187, R194) -/

section
variable {s : State} {f : List Byte}

theorem exec_replyEnd_reply (sending : s.hlp.transmitter = .reply f) : exec .replyEnd s =
    .next (if s.evu.noticeWanted then (s.onHlp fun h => { h with buffer := h.buffer.tail }).beginNotice
      else (s.onHlp fun h => { h with buffer := h.buffer.tail }).beginReply) := by
  show execReplyEnd s = _
  rw [execReplyEnd, sending]
  rfl

theorem exec_replyEnd_other (other : ∀ f, s.hlp.transmitter ≠ .reply f) : exec .replyEnd s = .next s := by
  refine congrArg Host.Outcome.next ?_
  split
  · next f sending => exact absurd sending (other f)
  · rfl

theorem exec_noticeBegin_wanted (idle : s.hlp.transmitter = .idle) (wanted : s.evu.noticeWanted = true) :
    exec .noticeBegin s = .next s.beginNotice := by
  show execNoticeBegin s = _
  rw [execNoticeBegin, idle, wanted]
  rfl

theorem exec_noticeBegin_other (other : s.hlp.transmitter ≠ .idle ∨ s.evu.noticeWanted = false) :
    exec .noticeBegin s = .next s := by
  refine congrArg Host.Outcome.next ?_
  split
  · next idle => exact if_neg (by simpa [idle] using other)
  · rfl

theorem exec_noticeEnd_waiting {a : Answered} {rest : List Answered} (sending : s.hlp.transmitter = .notice f)
    (waiting : s.hlp.buffer = a :: rest) : exec .noticeEnd s = .next s.beginReply := by
  show execNoticeEnd s = _
  rw [execNoticeEnd, sending, State.beginReply_of_cons waiting]

theorem exec_noticeEnd_empty (sending : s.hlp.transmitter = .notice f) (empty : s.hlp.buffer = []) :
    exec .noticeEnd s = .next (if s.evu.noticeWanted then s.beginReply.beginNotice else s.beginReply) := by
  show execNoticeEnd s = _
  rw [execNoticeEnd, sending, State.beginReply_of_nil empty]

theorem exec_noticeEnd_other (other : ∀ f, s.hlp.transmitter ≠ .notice f) : exec .noticeEnd s = .next s := by
  refine congrArg Host.Outcome.next ?_
  split
  · next f sending => exact absurd sending (other f)
  · rfl

end

/-! ## The statement -/

/-- Settles O4, by what the transmitter is sending. -/
theorem repliesInOrderNoticeFirst : Obligations.RepliesInOrderNoticeFirst := by
  refine ⟨fun s kind tag reply => ?_, fun s => ?_⟩
  · exact ⟨_, s.pushReply_frame kind tag reply, s.pushReply_transmitter_of_busy kind tag reply,
      s.pushReply_transmitter_of_wanted kind tag reply, s.pushReply_transmitter_of_free kind tag reply⟩
  · intro notice
    refine ⟨fun f a rest sending queue => ?_, exec_replyEnd_other, exec_noticeBegin_wanted, exec_noticeBegin_other,
      fun f sending => ⟨fun b rest queue => ?_, fun empty wanted => ?_, fun empty unwanted => ?_⟩, exec_noticeEnd_other⟩
    · have freed : (s.onHlp fun h => { h with buffer := h.buffer.tail }) = { s with hlp := { s.hlp with buffer := rest } } := by
        simp [State.onHlp, queue]
      rw [exec_replyEnd_reply sending, freed]
      rfl
    · rw [exec_noticeEnd_waiting sending queue, State.beginReply_of_cons queue]
      rfl
    · rw [exec_noticeEnd_empty sending empty, if_pos wanted, State.beginReply_of_nil empty]
      rfl
    · rw [exec_noticeEnd_empty sending empty, if_neg (by simp [unwanted]), State.beginReply_of_nil empty]

end Sys2Proof.Machine
end

section
/-! SUPPORT. The Event Unit's reports and classes (R177, R179, R180, R182, R184 to R187): which slots of the ring the reports
stand in, what a write and a release do to their order, and the class sets as bytes. Settles O58. -/

namespace Sys2Proof.Machine

/-- Slots set elsewhere leave the entry of slot `j`. -/
theorem getD_foldl_set_of_ne {α β : Type} (f : β → Nat) (a d : α) {j : Nat} (ks : List β) (l : List α)
    (elsewhere : ∀ k ∈ ks, f k ≠ j) : (ks.foldl (fun l k => l.set (f k) a) l).getD j d = l.getD j d := by
  induction ks generalizing l with
  | nil => rfl
  | cons k rest ih =>
    obtain ⟨first, others⟩ := List.forall_mem_cons.mp elsewhere
    rw [List.foldl_cons, ih _ others, getD_set_eq, if_neg fun here => first here.1]

/-! ## The reports of the ring (R177) -/

/-- What stands at place `k` of the ring, counted from the oldest report on. -/
def Evu.placed (e : Evu) (k : Nat) : Option Report := e.slots.getD ((e.oldest + k) % 8) none

theorem Evu.reportsInOrder_eq (e : Evu) : e.reportsInOrder = (List.range e.filled).filterMap e.placed := rfl

/-- Place `k` lies `filled` slots before the write position, and `k` on. -/
theorem Evu.oldest_add_mod (e : Evu) (k : Nat) : (e.oldest + k) % 8 = (e.writePos + 8 - e.filled + k) % 8 :=
  Nat.mod_add_mod ..

section
variable {e : Evu} (sound : e.ringSound)
include sound

theorem Evu.isSome_placed {k : Nat} (inside : k < e.filled) : (e.placed k).isSome = true := by
  obtain ⟨-, -, count, slots⟩ := sound
  exact (slots k (by omega)).mpr inside

/-- The reports but the `n` oldest. -/
theorem Evu.drop_reportsInOrder {n : Nat} (enough : n ≤ e.filled) :
    e.reportsInOrder.drop n = (List.range (e.filled - n)).filterMap fun k => e.placed (n + k) := by
  have oldest : ((List.range n).filterMap e.placed).length = n := by
    refine (List.filterMap_length_eq_length.mpr fun k earlier => ?_).trans List.length_range
    exact Evu.isSome_placed sound ((List.mem_range.mp earlier).trans_le enough)
  obtain ⟨left, total⟩ := Nat.exists_eq_add_of_le enough
  rw [Evu.reportsInOrder_eq, total, List.range_add, List.filterMap_append, List.filterMap_map, List.drop_left' oldest,
    Nat.add_sub_cancel_left]
  rfl

/-! ## A report is written (R179, R180) -/

/-- A write changes only the slot of the youngest: a ring that loses `lost` reports has the others move up by as much. -/
theorem Evu.placed_write (r : Report) {lost k : Nat} (count : (e.write r).filled + lost = e.filled + 1)
    (inside : k < (e.write r).filled) : (e.write r).placed k =
      if k + 1 = (e.write r).filled then some { r with sequence := e.nextSeq } else e.placed (lost + k) := by
  obtain ⟨-, -, count', -⟩ := Evu.ringSound_write r sound
  obtain ⟨eight, position, bound, -⟩ := sound
  rw [Evu.placed, Evu.placed, Evu.oldest_add_mod, Evu.oldest_add_mod e, show (e.write r).writePos = (e.writePos + 1) % 8 from rfl,
    show (e.write r).slots = e.slots.set e.writePos (some { r with sequence := e.nextSeq }) from rfl, getD_set_eq]
  refine if_congr ?_ rfl (congrArg (e.slots.getD · none) ?_)
  · omega
  · omega

/-- The report written joins the others as the youngest. -/
theorem Evu.reportsInOrder_write (r : Report) {lost : Nat} (enough : lost ≤ e.filled)
    (count : (e.write r).filled = e.filled - lost + 1) :
    (e.write r).reportsInOrder = e.reportsInOrder.drop lost ++ [{ r with sequence := e.nextSeq }] := by
  have placed {k : Nat} (inside : k < e.filled - lost + 1) := Evu.placed_write (k := k) (lost := lost) sound r (by omega)
    (count ▸ inside)
  have youngest : (e.write r).placed (e.filled - lost) = some { r with sequence := e.nextSeq } := by
    rw [placed (Nat.lt_succ_self _), if_pos count.symm]
  have others : ∀ k ∈ List.range (e.filled - lost), (e.write r).placed k = e.placed (lost + k) := by
    intro k member
    have earlier := List.mem_range.mp member
    rw [placed (by omega), if_neg (by omega)]
  rw [Evu.drop_reportsInOrder sound enough, Evu.reportsInOrder_eq, count, List.range_succ, List.filterMap_append,
    List.filterMap_congr others, List.filterMap_cons_some youngest, List.filterMap_nil]

/-! ## Reports are released (R182) -/

/-- A release frees the first places, and the places behind them count from 0 again. -/
theorem Evu.placed_release {n k : Nat} (inside : k < e.filled - n) : (e.release n).placed k = e.placed (n + k) := by
  obtain ⟨-, position, bound, -⟩ := sound
  have place : ((e.release n).oldest + k) % 8 = (e.oldest + (n + k)) % 8 := by
    rw [Evu.oldest_add_mod, Evu.oldest_add_mod e]
    simp only [Evu.release]
    omega
  have freed : ∀ i ∈ List.range n, (e.oldest + i) % 8 ≠ (e.oldest + (n + k)) % 8 := by
    intro i member
    have earlier := List.mem_range.mp member
    omega
  rw [Evu.placed, Evu.placed, place]
  exact getD_foldl_set_of_ne _ none none _ _ freed

theorem Evu.reportsInOrder_release {n : Nat} (enough : n ≤ e.filled) :
    (e.release n).reportsInOrder = e.reportsInOrder.drop n := by
  rw [Evu.drop_reportsInOrder sound enough, Evu.reportsInOrder_eq]
  exact List.filterMap_congr fun k member => Evu.placed_release sound (List.mem_range.mp member)

end

/-- The ring after a report: the eighth filled slot is the last that takes one without a loss. -/
theorem State.reportsInOrder_writeReport (r : Report) {s : State} (sound : s.ringSound) :
    (s.writeReport r).evu.reportsInOrder
      = (if s.evu.filled < 8 then s.evu.reportsInOrder else s.evu.reportsInOrder.tail)
        ++ [{ r with sequence := s.evu.nextSeq }] := by
  by_cases free : s.evu.filled < 8
  · rw [State.writeReport_evu_of_free r free, if_pos free]
    exact Evu.reportsInOrder_write (lost := 0) sound r (Nat.zero_le _) (if_pos free)
  · have full : 8 ≤ s.evu.filled := not_lt.mp free
    rw [State.writeReport_evu_of_full r full, if_neg free, ← List.drop_one]
    refine Evu.reportsInOrder_write (lost := 1) sound r (by omega) ((if_neg free).trans ?_)
    omega

/-! ## Two-byte fields -/

theorem ofBytes_pair (hi lo : Byte) : ofBytes [hi, lo] = hi.toNat * 256 + lo.toNat := by
  simp [ofBytes]

theorem toNat_append_bytes (hi lo : Byte) : (hi ++ lo).toNat = hi.toNat * 256 + lo.toNat := by
  rw [BitVec.toNat_append, ← Nat.shiftLeft_add_eq_or_of_lt lo.isLt, Nat.shiftLeft_eq]

theorem classSetOf_pair (hi lo : Byte) : classSetOf [hi, lo] = hi ++ lo := by
  refine BitVec.eq_of_toNat_eq ?_
  show (BitVec.ofNat 16 (ofBytes [hi, lo])).toNat = _
  rw [ofBytes_pair, ← toNat_append_bytes, BitVec.ofNat_toNat, BitVec.setWidth_eq]

theorem classSetBytes_append (hi lo : Byte) : classSetBytes (hi ++ lo) = [hi, lo] := by
  have high : BitVec.ofNat 8 ((hi.toNat * 256 + lo.toNat) / 256) = hi := by bv_omega
  have low : BitVec.ofNat 8 (hi.toNat * 256 + lo.toNat) = lo := by bv_omega
  simp [classSetBytes, beBytes, toNat_append_bytes, high, low]

/-! ## RELEASE REPORTS (R182) -/

section
variable (b hi lo : Byte) (s : State)

/-- The checks of RELEASE REPORTS, with its count and its sequence read. -/
theorem handleReleaseReports_eq : handleReleaseReports [b, hi, lo] s =
    if b.toNat < 1 ∨ 8 < b.toNat then (s, [0x03#8])
    else if s.evu.filled < b.toNat then (s, [0x03#8])
    else if s.evu.oldestSequence ≠ some (hi.toNat * 256 + lo.toNat) then
      (s, 0x0A#8 :: presentBytes 2 s.evu.oldestSequence)
    else (s.onEvu (Evu.release b.toNat), 0x00#8 ::
      (beBytes 1 (s.evu.release b.toNat).filled ++ presentBytes 2 (s.evu.release b.toNat).oldestSequence)) := by
  have count : fieldAt [b, hi, lo] 0 1 = b.toNat := ofBytes_singleton b
  have sequence : fieldAt [b, hi, lo] 1 2 = hi.toNat * 256 + lo.toNat := ofBytes_pair hi lo
  unfold handleReleaseReports
  dsimp only
  rw [count, sequence]
  rfl

variable {b hi lo s}

theorem handleReleaseReports_range (outside : b.toNat < 1 ∨ 8 < b.toNat ∨ s.evu.filled < b.toNat) :
    handleReleaseReports [b, hi, lo] s = (s, [0x03#8]) := by
  rw [handleReleaseReports_eq]
  split
  · rfl
  · rw [if_pos (by omega)]

theorem handleReleaseReports_mismatch (low : 1 ≤ b.toNat) (high : b.toNat ≤ 8) (enough : b.toNat ≤ s.evu.filled)
    (other : s.evu.oldestSequence ≠ some (hi.toNat * 256 + lo.toNat)) :
    handleReleaseReports [b, hi, lo] s = (s, 0x0A#8 :: presentBytes 2 s.evu.oldestSequence) := by
  rw [handleReleaseReports_eq, if_neg (by omega), if_neg enough.not_gt, if_pos other]

theorem handleReleaseReports_ok (low : 1 ≤ b.toNat) (high : b.toNat ≤ 8) (enough : b.toNat ≤ s.evu.filled)
    (oldest : s.evu.oldestSequence = some (hi.toNat * 256 + lo.toNat)) :
    handleReleaseReports [b, hi, lo] s = (s.onEvu (Evu.release b.toNat), 0x00#8 ::
      (beBytes 1 (s.evu.filled - b.toNat) ++ presentBytes 2 (s.evu.release b.toNat).oldestSequence)) := by
  rw [handleReleaseReports_eq, if_neg (by omega), if_neg enough.not_gt, if_neg (not_not.mpr oldest)]
  rfl

end

theorem exec_releaseReports (tag : BitVec 16) {p : List Byte} {s t : State} (taken : s.taken) {reply : List Byte}
    (answers : handleReleaseReports p s.restartSilence = (t, reply)) :
    exec (.releaseReports tag p) s = .next (t.pushReply 0x69#8 tag reply) :=
  congrArg Host.Outcome.next (hostRequest_answered taken answers)

/-! ## TAKE EVENTS and SET NOTICES (R185, R186) -/

section
variable (tag : BitVec 16) (hi lo : Byte) {s : State}

theorem exec_takeEvents (room : s.room) : exec (.takeEvents tag [hi, lo]) s =
    .next ((s.restartSilence.onEvu fun e => { e with pendingSet := e.pendingSet &&& ~~~(hi ++ lo) }).pushReply 0x6A#8 tag
      (0x00#8 :: classSetBytes s.evu.pendingSet)) := by
  have answers : handleTakeEvents [hi, lo] s.restartSilence =
      (s.restartSilence.onEvu fun e => { e with pendingSet := e.pendingSet &&& ~~~(classSetOf [hi, lo]) },
        0x00#8 :: classSetBytes s.evu.pendingSet) := rfl
  refine congrArg Host.Outcome.next ?_
  rw [hostRequest_always 0x6A#8 handleTakeEvents tag _ room, answers, classSetOf_pair]

theorem exec_setNotices (taken : s.taken) : exec (.setNotices tag [hi, lo]) s =
    .next ((s.restartSilence.onEvu (Evu.setEnables (hi ++ lo))).pushReply 0x6B#8 tag
      ([0x00#8, hi, lo] ++ classSetBytes s.evu.pendingSet)) := by
  have answers : handleSetNotices [hi, lo] s.restartSilence =
      (s.restartSilence.onEvu (Evu.setEnables (classSetOf [hi, lo])),
        0x00#8 :: classSetBytes (classSetOf [hi, lo]) ++ classSetBytes s.evu.pendingSet) := rfl
  refine congrArg Host.Outcome.next ?_
  rw [hostRequest_answered taken answers, classSetOf_pair, classSetBytes_append]

end

/-! ## Classes raised (R184, R187) -/

theorem EventClass.bit_lt (c : EventClass) : c.bit < 16 := by cases c <;> decide

theorem EventClass.bit_injective : Function.Injective EventClass.bit :=
  Function.LeftInverse.injective (g := EventClass.ofNat) fun c => by cases c <;> rfl

/-- A raise makes its own class pending and no other. -/
theorem Evu.raise_getLsbD (e : Evu) (c d : EventClass) :
    (e.raise c).pendingSet.getLsbD d.bit = (decide (d = c) || e.pendingSet.getLsbD d.bit) := by
  have own : c.mask.getLsbD d.bit = decide (d = c) := by
    rw [EventClass.mask, BitVec.getLsbD_twoPow, decide_eq_true c.bit_lt, Bool.true_and]
    exact decide_eq_decide.mpr (eq_comm.trans EventClass.bit_injective.eq_iff)
  rw [Evu.raise, BitVec.getLsbD_or, own, Bool.or_comm]

theorem Evu.raise_noticeWanted_iff (e : Evu) (c : EventClass) : (e.raise c).noticeWanted = true ↔
    e.noticeWanted = true ∨ (e.enables.getLsbD c.bit = true ∧ e.pendingSet.getLsbD c.bit = false) := by
  simp [Evu.raise]

/-! ## The statement -/

/-- Settles O58: the ring by `Evu.reportsInOrder_write` and `Evu.reportsInOrder_release`, each keeping it sound; the requests
check by check; a raise bit by bit. -/
theorem reportsAndEvents : Obligations.ReportsAndEvents := by
  refine ⟨fun r s sound => ?_, fun tag b hi lo s taken sound => ?_, fun tag hi lo s room => ?_, fun c s => ?_⟩
  · exact ⟨State.reportsInOrder_writeReport r sound, (unitsKept_writeReport s r).ring sound, s.writeReport_frame r⟩
  · intro n q seqBytes reports oldest
    have sent (l : List Report) : presentBytes 2 (l.head?.map Report.sequence) = seqBytes l := by cases l <;> rfl
    refine ⟨fun outside => ?_, fun low high enough other => ?_, fun low high enough first => ?_⟩
    · exact exec_releaseReports tag taken (handleReleaseReports_range outside)
    · rw [← sent]
      exact exec_releaseReports tag taken (handleReleaseReports_mismatch low high enough other)
    · have order : (s.evu.release n).reportsInOrder = reports.drop n := Evu.reportsInOrder_release sound enough
      refine ⟨s.restartSilence.onEvu (Evu.release n), ?_, rfl, order, Evu.ringSound_release sound enough⟩
      rw [← sent, ← order]
      exact exec_releaseReports tag taken (handleReleaseReports_ok low high enough first)
  · exact ⟨exec_takeEvents tag hi lo room, fun configured => exec_setNotices tag hi lo ⟨configured, room⟩⟩
  · exact ⟨s.evu.raise_getLsbD c, s.evu.raise_noticeWanted_iff c⟩

end Sys2Proof.Machine
end

section
/-! SUPPORT. Every request has its rule: whether the part judges it while UNCONFIGURED (R196), and its handler, which checks
the payload's length first where one length is fixed (R193, R204). -/

namespace Sys2Proof.Machine

/-- A request arrives by way of `hostRequest` with its rule. Where the command can arrive, a kind that R196 leaves out is not
judged while UNCONFIGURED, and a payload length that is fixed is checked before anything else. -/
structure RuledBy (c : Instr) (kind : Byte) (tag : BitVec 16) (payload : List Byte) (a : Availability)
    (h : List Byte → State → State × List Byte) : Prop where
  arrives : ∀ s, exec c s = .next (hostRequest kind a h tag payload s)
  refused : c.wellFormed = true → kind.toNat ∈ refusedKinds → a = .configuredOnly
  length  : c.wellFormed = true → ∀ n, payloadLength kind.toNat = some n →
    ∀ p s, p.length ≠ n → h p s = (s, statusOnly .length)

/-- The command is no request, or a request with its rule. -/
def Ruled (c : Instr) : Prop :=
  ∀ kind tag payload, requestOf c = some (kind, tag, payload) → ∃ a h, RuledBy c kind tag payload a h

theorem Ruled.of_none {c : Instr} (event : requestOf c = none) : Ruled c := by
  intro kind tag payload named
  rw [event] at named
  cases named

theorem Ruled.of_rule {c : Instr} {kind : Byte} {tag : BitVec 16} {payload : List Byte} {a : Availability}
    {h : List Byte → State → State × List Byte} (named : requestOf c = some (kind, tag, payload))
    (rule : RuledBy c kind tag payload a h) : Ruled c := by
  intro kind' tag' payload' named'
  rw [named] at named'
  cases named'
  exact ⟨a, h, rule⟩

/-- A kind whose payload has the one length `n`, by the rows of R196 and R205 and the first check of its handler. -/
theorem Ruled.fixed {c : Instr} {kind : Byte} {tag : BitVec 16} {payload : List Byte} (a : Availability)
    (h : List Byte → State → State × List Byte) (n : Nat) (named : requestOf c = some (kind, tag, payload))
    (arrives : ∀ s, exec c s = .next (hostRequest kind a h tag payload s))
    (refused : kind.toNat ∈ refusedKinds → a = .configuredOnly) (row : payloadLength kind.toNat = some n)
    (check : ∀ {p s}, p.length ≠ n → h p s = (s, statusOnly .length)) : Ruled c := by
  refine .of_rule named ⟨arrives, fun _ => refused, fun _ m row' => ?_⟩
  rw [row] at row'
  cases row'
  exact fun _ _ => check

theorem ruled_loadSteps (tag : BitVec 16) (payload : List Byte) : Ruled (.loadSteps tag payload) :=
  have listed : (0x13#8 : Byte).toNat ∉ refusedKinds := by decide
  have varies : payloadLength (0x13#8 : Byte).toNat = none := by decide
  .of_rule rfl (a := .always) (h := handleLoadSteps)
    ⟨fun _ => rfl, fun _ h => absurd h listed, fun _ _ h => absurd (varies.symm.trans h) nofun⟩

/-- The payload lengths are those of kinds of R207. -/
theorem mem_requestKinds_of_payloadLength {k n : Nat} (row : payloadLength k = some n) : k ∈ requestKinds := by
  obtain ⟨before, after, rows, -⟩ := List.lookup_eq_some_iff.mp row
  have known : ∀ r ∈ before ++ (k, n) :: after, r.1 ∈ requestKinds := by
    rw [← rows]
    decide
  exact known (k, n) (by simp)

/-- No kind that is refused while UNCONFIGURED, and none with a payload length, is unknown. -/
theorem ruled_unknownKindRequest (kind : Byte) (tag : BitVec 16) (payload : List Byte) :
    Ruled (.unknownKindRequest kind tag payload) := by
  have refusedKnown : ∀ n ∈ refusedKinds, n ∈ requestKinds := by decide
  have unlisted (wf : (Instr.unknownKindRequest kind tag payload).wellFormed = true) : kind.toNat ∉ requestKinds := by
    simp only [Instr.wellFormed, Bool.and_eq_true, Bool.not_eq_true', List.contains_eq_mem, decide_eq_false_iff_not] at wf
    exact wf.2
  refine .of_rule rfl ⟨fun _ => rfl, fun wf listed => absurd (refusedKnown _ listed) (unlisted wf), fun wf n row => ?_⟩
  exact absurd (mem_requestKinds_of_payloadLength row) (unlisted wf)

/-- Every command in turn: a request's own rule, and no request among the events. -/
theorem ruled (c : Instr) : Ruled c := by
  cases c with
  | identify t p => exact .fixed .always handleIdentify 0 rfl (fun _ => rfl) (by decide) rfl (if_pos ·)
  | readStatus t p => exact .fixed .always handleReadStatus 1 rfl (fun _ => rfl) (by decide) rfl (if_pos ·)
  | configureLine t p => exact .fixed .always handleConfigureLine 33 rfl (fun _ => rfl) (by decide) rfl (if_pos ·)
  | configureZones t p => exact .fixed .always handleConfigureZones 20 rfl (fun _ => rfl) (by decide) rfl (if_pos ·)
  | configureRolls t p => exact .fixed .always handleConfigureRolls 45 rfl (fun _ => rfl) (by decide) rfl (if_pos ·)
  | configureLink t p => exact .fixed .always handleConfigureLink 4 rfl (fun _ => rfl) (by decide) rfl (if_pos ·)
  | lineReset t p => exact .fixed .configuredOnly handleLineReset 0 rfl (fun _ => rfl) (by decide) rfl (if_pos ·)
  | loadProfile t p => exact .fixed .always handleLoadProfile 23 rfl (fun _ => rfl) (by decide) rfl (if_pos ·)
  | readProfile t p => exact .fixed .always handleReadProfile 1 rfl (fun _ => rfl) (by decide) rfl (if_pos ·)
  | openPattern t p => exact .fixed .always handleOpenPattern 2 rfl (fun _ => rfl) (by decide) rfl (if_pos ·)
  | loadSteps t p => exact ruled_loadSteps t p
  | closePattern t p => exact .fixed .always handleClosePattern 1 rfl (fun _ => rfl) (by decide) rfl (if_pos ·)
  | deletePattern t p => exact .fixed .always handleDeletePattern 1 rfl (fun _ => rfl) (by decide) rfl (if_pos ·)
  | readSteps t p => exact .fixed .always handleReadSteps 3 rfl (fun _ => rfl) (by decide) rfl (if_pos ·)
  | queueJob t p => exact .fixed .configuredOnly handleQueueJob 7 rfl (fun _ => rfl) (by decide) rfl (if_pos ·)
  | cancelJob t p => exact .fixed .configuredOnly handleCancelJob 2 rfl (fun _ => rfl) (by decide) rfl (if_pos ·)
  | readJobs t p => exact .fixed .always handleReadJobs 0 rfl (fun _ => rfl) (by decide) rfl (if_pos ·)
  | setPace t p => exact .fixed .configuredOnly handleSetPace 11 rfl (fun _ => rfl) (by decide) rfl (if_pos ·)
  | go t p => exact .fixed .configuredOnly handleGo 0 rfl (fun _ => rfl) (by decide) rfl (if_pos ·)
  | hold t p => exact .fixed .configuredOnly handleHold 0 rfl (fun _ => rfl) (by decide) rfl (if_pos ·)
  | resume t p => exact .fixed .configuredOnly handleResume 0 rfl (fun _ => rfl) (by decide) rfl (if_pos ·)
  | abortPanel t p => exact .fixed .configuredOnly handleAbortPanel 0 rfl (fun _ => rfl) (by decide) rfl (if_pos ·)
  | stopLine t p => exact .fixed .configuredOnly handleStopLine 0 rfl (fun _ => rfl) (by decide) rfl (if_pos ·)
  | reportDefect t p => exact .fixed .configuredOnly handleReportDefect 12 rfl (fun _ => rfl) (by decide) rfl (if_pos ·)
  | readMarks t p => exact .fixed .always handleReadMarks 2 rfl (fun _ => rfl) (by decide) rfl (if_pos ·)
  | readSegments t p => exact .fixed .always handleReadSegments 2 rfl (fun _ => rfl) (by decide) rfl (if_pos ·)
  | zoneCommand t p => exact .fixed .configuredOnly handleZoneCommand 2 rfl (fun _ => rfl) (by decide) rfl (if_pos ·)
  | readZones t p => exact .fixed .always handleReadZones 0 rfl (fun _ => rfl) (by decide) rfl (if_pos ·)
  | declareRoll t p => exact .fixed .configuredOnly handleDeclareRoll 10 rfl (fun _ => rfl) (by decide) rfl (if_pos ·)
  | startUnwind t p => exact .fixed .configuredOnly handleStartUnwind 1 rfl (fun _ => rfl) (by decide) rfl (if_pos ·)
  | changeRoll t p => exact .fixed .configuredOnly handleChangeRoll 0 rfl (fun _ => rfl) (by decide) rfl (if_pos ·)
  | abortChange t p => exact .fixed .configuredOnly handleAbortChange 0 rfl (fun _ => rfl) (by decide) rfl (if_pos ·)
  | readRolls t p => exact .fixed .always handleReadRolls 0 rfl (fun _ => rfl) (by decide) rfl (if_pos ·)
  | setScan t p => exact .fixed .configuredOnly handleSetScan 7 rfl (fun _ => rfl) (by decide) rfl (if_pos ·)
  | readStations t p => exact .fixed .always handleReadStations 1 rfl (fun _ => rfl) (by decide) rfl (if_pos ·)
  | takeRequests t p => exact .fixed .configuredOnly handleTakeRequests 1 rfl (fun _ => rfl) (by decide) rfl (if_pos ·)
  | readReports t p => exact .fixed .always handleReadReports 1 rfl (fun _ => rfl) (by decide) rfl (if_pos ·)
  | releaseReports t p => exact .fixed .configuredOnly handleReleaseReports 3 rfl (fun _ => rfl) (by decide) rfl (if_pos ·)
  | takeEvents t p => exact .fixed .always handleTakeEvents 2 rfl (fun _ => rfl) (by decide) rfl (if_pos ·)
  | setNotices t p => exact .fixed .configuredOnly handleSetNotices 2 rfl (fun _ => rfl) (by decide) rfl (if_pos ·)
  | unknownKindRequest k t p => exact ruled_unknownKindRequest k t p
  | _ => exact .of_none rfl

/-- Settles O3: each request by its rule, refused by the link while UNCONFIGURED and by its own first check for its length. -/
theorem refusedByLinkOrLength : Obligations.RefusedByLinkOrLength := by
  refine ⟨fun c kind tag payload s wf named listed unconfigured room => ?_,
    fun c kind tag payload n s wf named row bad taken => ?_⟩
  · obtain ⟨a, h, rule⟩ := ruled c kind tag payload named
    obtain rfl := rule.refused wf listed
    rw [rule.arrives, hostRequest_unconfigured kind h tag payload room unconfigured]
  · obtain ⟨a, h, rule⟩ := ruled c kind tag payload named
    rw [rule.arrives, hostRequest_refused kind a h tag payload taken (rule.length wf n row payload _ bad)]
    rfl

end Sys2Proof.Machine
end

section
/-! SUPPORT. CONFIGURE LINK check by check (R199), and what the host link counts (R190, R191). -/

namespace Sys2Proof.Machine

/-! ## CONFIGURE LINK (R199) -/

section
variable {p : List Byte} (s : State)

theorem handleConfigureLink_length (bad : p.length ≠ 4) : handleConfigureLink p s = (s, [0x08#8]) := if_pos bad

variable (four : p.length = 4)
include four

theorem handleConfigureLink_range (nonzero : fieldAt p 0 4 ≠ 0) (outside : fieldAt p 0 4 < 100 ∨ 10000 < fieldAt p 0 4) :
    handleConfigureLink p s = (s, [0x03#8]) := by
  have bad : silenceTimeoutInRange (fieldAt p 0 4) = false := decide_eq_false (by omega)
  rw [handleConfigureLink, if_neg (not_not.mpr four), if_pos (by rw [bad]; rfl)]
  rfl

theorem handleConfigureLink_ok (range : fieldAt p 0 4 = 0 ∨ (100 ≤ fieldAt p 0 4 ∧ fieldAt p 0 4 ≤ 10000)) :
    handleConfigureLink p s =
      ((s.onHlp fun h => { h with silenceTimeout := fieldAt p 0 4 }).restartSilence, [0x00#8]) := by
  have good : silenceTimeoutInRange (fieldAt p 0 4) = true := decide_eq_true range
  rw [handleConfigureLink, if_neg (not_not.mpr four), if_neg (by rw [good]; decide)]
  rfl

end

/-- A new timeout replaces the restart that the frame itself made: the timer is STOPPED, or RUNNING from now. -/
theorem State.restartSilence_newTimeout (s : State) (n : Nat) :
    (s.restartSilence.onHlp fun h => { h with silenceTimeout := n }).restartSilence = { s with hlp := { s.hlp with
      silenceTimeout := n, silenceTimer := if n = 0 then none else some (s.clock + n) } } := rfl

/-- A timeout in its range is stored, and the timer stops or runs with it. -/
theorem exec_configureLink_ok (tag : BitVec 16) {p : List Byte} {s : State} (room : s.room) (four : p.length = 4) {n : Nat}
    (value : fieldAt p 0 4 = n) (range : n = 0 ∨ (100 ≤ n ∧ n ≤ 10000)) : exec (.configureLink tag p) s =
    .next (({ s with hlp := { s.hlp with
      silenceTimeout := n, silenceTimer := if n = 0 then none else some (s.clock + n) } } : State).pushReply
        0x06#8 tag [0x00#8]) := by
  subst value
  refine congrArg Host.Outcome.next ?_
  rw [hostRequest_always 0x06#8 handleConfigureLink tag p room, handleConfigureLink_ok _ four range,
    s.restartSilence_newTimeout]

/-- Settles O7, check by check. -/
theorem configureLinkSetsTimeout : Obligations.ConfigureLinkSetsTimeout := by
  refine fun tag payload s room => ⟨fun bad => ?_, fun four => ⟨fun ⟨nonzero, outside⟩ => ?_, fun zero => ?_,
    fun ⟨low, high⟩ => ?_⟩⟩
  · exact congrArg _ (hostRequest_always_replies room (handleConfigureLink_length _ bad))
  · exact congrArg _ (hostRequest_always_replies room (handleConfigureLink_range _ four nonzero outside))
  · exact exec_configureLink_ok tag room four zero (.inl rfl)
  · rw [exec_configureLink_ok tag room four rfl (.inr ⟨low, high⟩), if_neg (by omega)]

/-! ## What the link counts (R190, R191) -/

/-- A request that finds the buffer full counts as an overrun, whatever its rule would answer. -/
theorem exec_of_requestOf_full {c : Instr} {kind : Byte} {tag : BitVec 16} {payload : List Byte} {s : State}
    (named : requestOf c = some (kind, tag, payload)) (full : 4 ≤ s.hlp.buffer.length) :
    exec c s = .next s.restartSilence.countOverrun := by
  obtain ⟨a, h, rule⟩ := ruled c kind tag payload named
  rw [rule.arrives, hostRequest_full kind a h tag payload full]

theorem exec_unknownKindRequest (kind : Byte) (tag : BitVec 16) (payload : List Byte) {s : State} (room : s.room) :
    exec (.unknownKindRequest kind tag payload) s = .next (s.onlyReplies kind tag [0x07#8]) :=
  congrArg Host.Outcome.next (hostRequest_always_replies room rfl)

theorem exec_linkOverrun (s : State) :
    exec .linkOverrun s = .next (if 4 ≤ s.hlp.buffer.length then s.restartSilence.countOverrun else s) := rfl

/-- Settles O5: the counters of the receiver by their definitions, a request at a full buffer by `exec_of_requestOf_full`. -/
theorem linkEventsCounted : Obligations.LinkEventsCounted := by
  refine ⟨⟨fun kind tag payload s => exec_unknownKindRequest kind tag payload, fun s => ?_⟩,
    fun c kind tag payload s => exec_of_requestOf_full, fun s => ⟨fun full => ?_, fun room => ?_⟩⟩
  · exact ⟨rfl, rfl, rfl, rfl, rfl, rfl⟩
  · rw [exec_linkOverrun, if_pos full]
    rfl
  · rw [exec_linkOverrun, if_neg (Nat.not_le.mpr room)]

end Sys2Proof.Machine
end

section
/-! SUPPORT. The receiver of R190 over a frame: while it is in progress, at its last byte, and where it is cut short. -/

namespace Sys2Proof

open Sys2Proof.Machine

/-! ## Bytes of a frame -/

theorem beBytes_two_ofBytes (hi lo : Byte) : beBytes 2 (ofBytes [hi, lo]) = [hi, lo] := by
  rw [ofBytes_pair, ← toNat_append_bytes]
  exact classSetBytes_append hi lo

/-- Two bytes spell the CRC of a body exactly where they are its CRC bytes. -/
theorem ofBytes_eq_crc16_iff (body : List Byte) (x y : Byte) :
    ofBytes [x, y] = (crc16 body).toNat ↔ [x, y] = crcBytes body := by
  constructor
  · intro same
    rw [crcBytes, ← same, beBytes_two_ofBytes]
  · intro same
    rw [same, crcBytes, ofBytes_beBytes (by simpa using (crc16 body).isLt)]

/-- The bytes of a frame between its start byte and its CRC (R204). -/
def frameBody (kind : Byte) (tag : BitVec 16) (payload : List Byte) : List Byte :=
  beBytes 2 payload.length ++ [kind] ++ beBytes 2 tag.toNat ++ payload

theorem hostFrame_eq (kind : Byte) (tag : BitVec 16) (payload : List Byte) : hostFrame kind tag payload =
    0x5A#8 :: (frameBody kind tag payload ++ crcBytes (frameBody kind tag payload)) := rfl

section
variable (kind : Byte) (tag : BitVec 16) {payload : List Byte}

theorem length_frameBody : (frameBody kind tag payload).length = payload.length + 5 := by
  simp [frameBody]
  omega

theorem lengthField_frameBody (fits : payload.length ≤ 1024) : fieldAt (frameBody kind tag payload) 0 2 = payload.length := by
  have spelled : fieldAt (frameBody kind tag payload) 0 2 = ofBytes (beBytes 2 payload.length) := rfl
  rw [spelled, ofBytes_beBytes (by omega)]

theorem tagField_frameBody : fieldAt (frameBody kind tag payload) 3 2 = tag.toNat := by
  have spelled : fieldAt (frameBody kind tag payload) 3 2 = ofBytes (beBytes 2 tag.toNat) := rfl
  rw [spelled, ofBytes_beBytes (by simpa using tag.isLt)]

end

/-! ## The newest byte of a frame -/

section
variable {body : List Byte} {x y : Byte}

/-- A whole frame is judged by its CRC. -/
theorem growFrame_whole (allowed : fieldAt body 0 2 ≤ 1024) (whole : body.length = fieldAt body 0 2 + 5) :
    growFrame (body ++ [x, y]) = (.hunting, [if [x, y] = crcBytes body then
      commandOf (body.getD 2 0#8) (BitVec.ofNat 16 (fieldAt body 3 2)) ((body.drop 5).take (fieldAt body 0 2))
      else .frameCrcError]) := by
  have crc : fieldAt (body ++ [x, y]) (fieldAt body 0 2 + 5) 2 = ofBytes [x, y] := by simp [fieldAt, whole]
  have judged : (body ++ [x, y]).take (fieldAt body 0 2 + 5) = body := List.take_left' whole
  have kind : (body ++ [x, y]).getD 2 0#8 = body.getD 2 0#8 := List.getD_append _ _ _ _ (by omega)
  have tag : fieldAt (body ++ [x, y]) 3 2 = fieldAt body 3 2 := by
    simp [fieldAt, List.drop_append_of_le_length, List.take_append_of_le_length, whole]
  have content : ((body ++ [x, y]).drop 5).take (fieldAt body 0 2) = (body.drop 5).take (fieldAt body 0 2) := by
    simp [List.drop_append_of_le_length, whole]
  unfold growFrame
  dsimp only
  rw [lengthField_append _ _ (by omega), if_neg (by simp [whole]), if_neg (by omega), if_neg (by simp [whole]), crc, judged,
    kind, tag, content]
  by_cases right : [x, y] = crcBytes body
  · rw [if_pos right, if_neg (not_not.mpr ((ofBytes_eq_crc16_iff ..).mpr right))]
  · rw [if_neg right, if_pos (mt (ofBytes_eq_crc16_iff ..).mp right)]

theorem growFrame_tooLong (tooLong : 1024 < x.toNat * 256 + y.toNat) :
    growFrame [x, y] = (.hunting, [.frameLengthError]) := by
  have field : fieldAt [x, y] 0 2 = x.toNat * 256 + y.toNat := ofBytes_pair x y
  simp [growFrame, field, tooLong]

end

/-! ## A frame in progress -/

/-- What a run of bytes leaves and brings about, with one command ahead of the others. -/
def ahead (i : Instr) (r : Receiver × List Instr) : Receiver × List Instr := (r.1, i :: r.2)

/-- The bytes after a start byte are not yet a frame, and their length field, once it is in, is allowed. -/
def InProgress (got : List Byte) : Prop :=
  2 ≤ got.length → fieldAt got 0 2 ≤ 1024 ∧ got.length < fieldAt got 0 2 + 7

theorem inProgress_singleton (b : Byte) : InProgress [b] := fun two => absurd two (by simp)

theorem InProgress.take {bytes : List Byte} {m : Nat} (allowed : fieldAt bytes 0 2 ≤ 1024)
    (short : m < fieldAt bytes 0 2 + 7) : InProgress (bytes.take m) := by
  intro two
  have field : fieldAt (bytes.take m) 0 2 = fieldAt bytes 0 2 := by
    rw [← lengthField_append _ (bytes.drop m) two, List.take_append_drop]
  rw [field]
  exact ⟨allowed, (List.length_take_le ..).trans_lt short⟩

section
variable {got : List Byte} (rest : List Arrival)

theorem receive_inProgress (started : InProgress got) :
    Receiver.hunting.receive ((0x5A#8 :: got).map Arrival.plain ++ rest) = (Receiver.inFrame got).receive rest := by
  have part := Receiver.receive_part [] got (fun two => (started two).1) fun two => (started two).2
  rw [List.map_cons, List.cons_append, Receiver.receive_cons, Receiver.take_start, Receiver.receive_append, part]
  rfl

/-- The byte that ends a frame brings about one command, and the receiver hunts on. -/
theorem receive_ended (started : InProgress got) {b : Byte} {i : Instr} (ends : growFrame (got ++ [b]) = (.hunting, [i])) :
    Receiver.hunting.receive ((0x5A#8 :: (got ++ [b])).map Arrival.plain ++ rest)
      = ahead i (Receiver.hunting.receive rest) := by
  have split : (0x5A#8 :: (got ++ [b])).map Arrival.plain ++ rest
      = (0x5A#8 :: got).map Arrival.plain ++ Arrival.plain b :: rest := by simp
  rw [split, receive_inProgress _ started, Receiver.receive_cons, Receiver.take_plain, ends]
  rfl

theorem receive_whole {body : List Byte} {x y : Byte} (allowed : fieldAt body 0 2 ≤ 1024)
    (whole : body.length = fieldAt body 0 2 + 5) {i : Instr} (ends : growFrame (body ++ [x, y]) = (.hunting, [i])) :
    Receiver.hunting.receive ((0x5A#8 :: (body ++ [x, y])).map Arrival.plain ++ rest)
      = ahead i (Receiver.hunting.receive rest) := by
  have started : InProgress (body ++ [x]) := fun _ => by
    rw [lengthField_append body [x] (by omega), List.length_append, whole, List.length_singleton]
    exact ⟨allowed, by omega⟩
  have last : body ++ [x, y] = body ++ [x] ++ [y] := by simp
  rw [last] at ends ⊢
  exact receive_ended rest started ends

end

/-! ## Whole frames -/

theorem exists_crcBytes (body : List Byte) : ∃ x y, crcBytes body = [x, y] :=
  List.length_eq_two.mp (length_beBytes 2 _)

/-- A frame of an allowed length is received as the command its kind names, whatever follows. -/
theorem receive_hostFrame (kind : Byte) (tag : BitVec 16) {payload : List Byte} (fits : payload.length ≤ 1024)
    (rest : List Arrival) :
    Receiver.hunting.receive ((hostFrame kind tag payload).map Arrival.plain ++ rest)
      = ahead (commandOf kind tag payload) (Receiver.hunting.receive rest) := by
  have length := lengthField_frameBody kind tag fits
  have allowed : fieldAt (frameBody kind tag payload) 0 2 ≤ 1024 := length.trans_le fits
  have whole : (frameBody kind tag payload).length = fieldAt (frameBody kind tag payload) 0 2 + 5 := by
    rw [length, length_frameBody]
  have content : (frameBody kind tag payload).drop 5 = payload := rfl
  have named : (frameBody kind tag payload).getD 2 0#8 = kind := rfl
  obtain ⟨x, y, crc⟩ := exists_crcBytes (frameBody kind tag payload)
  rw [hostFrame_eq, crc]
  refine receive_whole rest allowed whole ?_
  rw [growFrame_whole allowed whole, if_pos crc.symm, named, tagField_frameBody, content, length, List.take_length,
    BitVec.ofNat_toNat, BitVec.setWidth_eq]

/-- A request that can arrive is the command its kind names, and fits a frame. -/
theorem commandOf_requestOf {c : Instr} {kind : Byte} {tag : BitVec 16} {payload : List Byte} (wf : c.wellFormed = true)
    (named : requestOf c = some (kind, tag, payload)) : commandOf kind tag payload = c ∧ payload.length ≤ 1024 := by
  cases c
  case unknownKindRequest k t p =>
    refine ⟨Laws.KindNames.unknownKindRequest k t p kind tag payload wf named, ?_⟩
    cases named
    simp only [Instr.wellFormed, Bool.and_eq_true] at wf
    exact of_decide_eq_true wf.1.1
  all_goals cases named <;> exact ⟨rfl, of_decide_eq_true wf⟩

/-! ## Hunting -/

theorem receive_noise {noise : List Arrival} (quiet : ∀ a ∈ noise, a.byte ≠ 0x5A#8 ∧ a.noStop = false)
    (rest : List Arrival) : Receiver.hunting.receive (noise ++ rest) = Receiver.hunting.receive rest := by
  induction noise with
  | nil => rfl
  | cons a noise ih =>
    obtain ⟨other, stop⟩ := quiet a (List.mem_cons_self ..)
    have passed : Receiver.hunting.take a = (.hunting, []) := by simp [Receiver.take, huntByte, stop, other]
    rw [List.cons_append, Receiver.receive_cons, passed, List.nil_append]
    exact ih fun b hb => quiet b (List.mem_cons_of_mem _ hb)

theorem receive_noStop {a : Arrival} (missing : a.noStop = true) (rest : List Arrival) :
    Receiver.hunting.receive (a :: rest)
      = ahead (.missingStopBit false) (Receiver.hunting.receive rest) := by
  have passed : Receiver.hunting.take a = (.hunting, [.missingStopBit false]) := by simp [Receiver.take, huntByte, missing]
  rw [Receiver.receive_cons, passed]
  rfl

/-! ## Frames cut short -/

section
variable (got : List Byte) {a : Arrival} (rest : List Arrival)

/-- The byte that ended a gap is hunted itself. -/
theorem receive_inFrame_late (late : a.late = true) : (Receiver.inFrame got).receive (a :: rest)
    = ahead .interByteGap (Receiver.hunting.receive (a :: rest)) := by
  have cut : (Receiver.inFrame got).take a = ((huntByte a).1, .interByteGap :: (huntByte a).2) := if_pos late
  rw [Receiver.receive_cons, cut]
  rfl

theorem receive_inFrame_noStop (inTime : a.late = false) (missing : a.noStop = true) :
    (Receiver.inFrame got).receive (a :: rest)
      = ahead (.missingStopBit true) (Receiver.hunting.receive rest) := by
  have cut : (Receiver.inFrame got).take a = (.hunting, [.missingStopBit true]) := by simp [Receiver.take, inTime, missing]
  rw [Receiver.receive_cons, cut]
  rfl

end

/-- The first bytes of a frame, not all of them, leave the frame in progress. -/
theorem receive_hostFrame_take (kind : Byte) (tag : BitVec 16) {payload : List Byte} (fits : payload.length ≤ 1024) {n : Nat}
    (one : 1 ≤ n) (notAll : n < (hostFrame kind tag payload).length) : ∃ got, ∀ rest : List Arrival,
      Receiver.hunting.receive (((hostFrame kind tag payload).take n).map Arrival.plain ++ rest)
        = (Receiver.inFrame got).receive rest := by
  obtain ⟨m, rfl⟩ : ∃ m, n = m + 1 := ⟨n - 1, by omega⟩
  have length : fieldAt (frameBody kind tag payload ++ crcBytes (frameBody kind tag payload)) 0 2 = payload.length := by
    rw [lengthField_append _ _ (by rw [length_frameBody]; omega), lengthField_frameBody kind tag fits]
  have started : InProgress ((frameBody kind tag payload ++ crcBytes (frameBody kind tag payload)).take m) := by
    refine .take (length.trans_le fits) ?_
    rw [hostFrame_eq, List.length_cons, List.length_append, length_frameBody, crcBytes, length_beBytes] at notAll
    omega
  exact ⟨_, fun rest => receive_inProgress rest started⟩

/-- Settles O12: a whole frame by its last byte, a frame cut short by what is in progress before the cut. -/
theorem framesRoundTrip : Obligations.FramesRoundTrip := by
  refine ⟨fun c f wf sent => ?_, fun rest => ?_⟩
  · obtain ⟨⟨kind, tag, payload⟩, named, rfl⟩ := Option.map_eq_some_iff.mp sent
    obtain ⟨command, fits⟩ := commandOf_requestOf wf named
    have received := receive_hostFrame kind tag fits []
    rw [List.append_nil] at received
    rw [commandsOf, received, command]
    rfl
  refine ⟨fun kind tag payload fits => receive_hostFrame kind tag fits rest, fun kind tag payload stray => if_pos stray,
    fun noise quiet => receive_noise quiet rest, fun a missing => receive_noStop missing rest,
    fun body x y allowed whole wrong => ?_, fun x y tooLong => ?_, fun kind tag payload n a fits one notAll => ?_⟩
  · exact receive_whole rest allowed whole (by rw [growFrame_whole allowed whole, if_neg wrong])
  · exact receive_ended rest (inProgress_singleton x) (growFrame_tooLong tooLong)
  · obtain ⟨got, part⟩ := receive_hostFrame_take kind tag fits one notAll
    refine ⟨fun late => ?_, fun inTime missing => ?_⟩
    · exact (part (a :: rest)).trans (receive_inFrame_late got rest late)
    · refine (congrArg Receiver.hunting.receive (List.append_assoc _ [a] rest)).trans ?_
      exact (part (a :: rest)).trans (receive_inFrame_noStop got rest inTime missing)

end Sys2Proof
end
